-- ==== Sys2Proof/Word.lean ====
section
/-! DEFINITION. The byte, the unit of every link of the FH-640 (R200). Quantities that the manual counts (cents, seconds,
milliseconds, levels, counters, card numbers) are Nat or Int; only what crosses a link is a byte. -/

namespace Sys2Proof

/-- One byte of a link (R200). -/
abbrev Byte := BitVec 8

/-- A byte from a number, its low eight bits. -/
abbrev byte (n : Nat) : Byte := BitVec.ofNat 8 n

end Sys2Proof
end

