-- ==== Sys2Proof/Syntax.lean ====
section
/-! DEFINITION. The commands of the FH-640: one constructor of `Instr` for each row of the table of operations and events,
with the row's operands. A row's rule is the one the table names; `Machine/Dispatch.lean` gives each its meaning. -/

namespace Sys2Proof

/-- The two card ports: A at the entry end, B at the exit end (Card Dialogs). -/
inductive Port where
  | a | b
  deriving DecidableEq, Repr

/-- The two ports of the gate line: up toward the line head, down toward the next gate (The Gate Line). -/
inductive LinePort where
  | up | down
  deriving DecidableEq, Repr

/-- The two directions through the lane, IN and OUT (Terms). -/
inductive Direction where
  | inbound | outbound
  deriving DecidableEq, Repr

/-- What brings a cold reset, and its end (R194): power-on, the RESET pin asserted, the RESET pin released. -/
inductive ResetCause where
  | powerOn | pinAsserted | pinReleased
  deriving DecidableEq, Repr

/-- How the frame of a line command (or of a SIGHT or SUSPECT) arrives: the port it comes in by, whether its Dest is 63 or
this gate's own address, its Src and its Hops (R167, R168, section 11.2). -/
structure Arrival where
  port : LinePort
  broadcast : Bool
  src : Byte
  hops : Nat
  deriving DecidableEq, Repr

/-- The payload of a SIGHT frame (section 11.2, code 18). -/
structure SightPayload where
  cardId : Nat
  counter : Nat
  balance : Int
  kind : Byte
  gate : Byte
  date : Nat
  secs : Nat
  deriving DecidableEq, Repr

/-- The payload of a SUSPECT frame (section 11.2, code 19). -/
structure SuspectPayload where
  cardId : Nat
  reason : Byte
  gate : Byte
  date : Nat
  secs : Nat
  deriving DecidableEq, Repr

/-- The commands: the 58 rows of the table of operations and events. The rows of line commands stand for a whole good frame
of that Kind arriving (log 4); the rows of answers carry the message's bytes as the front-end sent them (chapter 11). -/
inductive Instr where
  /-- COLD_RESET (R194) -/
  | coldReset (cause : ResetCause)
  /-- WARM_RESET (R193) -/
  | warmReset
  /-- EMERGENCY_PIN_CHANGE (R133): the new level of the pin, true for asserted -/
  | emergencyPinChange (asserted : Bool)
  /-- EMERGENCY_TAKEN (R133) -/
  | emergencyTaken
  /-- LINK_PIN_CHANGE (R163): the new level of the port's link detect input, true for up -/
  | linkPinChange (port : LinePort) (up : Bool)
  /-- LINK_TAKEN (R163) -/
  | linkTaken (port : LinePort)
  /-- HOLD_INPUT_CHANGE (R174): the new level of the port's HOLD input, true for asserted -/
  | holdInputChange (port : LinePort) (asserted : Bool)
  /-- FRAME_START (R165) -/
  | frameStart (port : LinePort)
  /-- FRAME_END (R166): the bytes received, and whether an end mark ended them (false: cut off at 256 bytes) -/
  | frameEnd (port : LinePort) (bytes : List Byte) (endMark : Bool)
  /-- TRANSMISSION_BEGIN (R175) -/
  | transmissionBegin (port : LinePort)
  /-- TRANSMISSION_END (R175) -/
  | transmissionEnd (port : LinePort)
  /-- HELD_CONVERSION (R176) -/
  | heldConversion
  /-- SILENCE_TIMER_EXPIRY (R179) -/
  | silenceTimerExpiry
  /-- ENUMERATE (R170): the number the frame from the up port carries -/
  | enumerate (n : Byte)
  /-- TIME (R198) -/
  | time (arrival : Arrival) (tag : Byte) (date secs : Nat)
  /-- SET (R186): parameter numbers and values in the frame's order -/
  | set (arrival : Arrival) (tag : Byte) (entries : List (Byte × Int))
  /-- QUERY (R187) -/
  | query (arrival : Arrival) (tag : Byte)
  /-- STAGE_OPEN (R73) -/
  | stageOpen (arrival : Arrival) (tag : Byte) (bankTag : Nat)
  /-- STAGE_LOAD (R74): segment code, part and the segment's bytes -/
  | stageLoad (arrival : Arrival) (tag : Byte) (bankTag : Nat) (segment part : Byte) (values : List Byte)
  /-- STAGE_SWITCH (R78): the effective time, a Date and Secs, when one is carried -/
  | stageSwitch (arrival : Arrival) (tag : Byte) (effective : Option (Nat × Nat))
  /-- STAGE_DISCARD (R80) -/
  | stageDiscard (arrival : Arrival) (tag : Byte)
  /-- DENY_ADD (R29): the codes of Reason and Action as the frame carries them -/
  | denyAdd (arrival : Arrival) (tag : Byte) (cardId : Nat) (reason action : Byte)
  /-- DENY_DROP (R29) -/
  | denyDrop (arrival : Arrival) (tag : Byte) (cardId : Nat)
  /-- COLLECT (R158) -/
  | collect (arrival : Arrival) (tag : Byte) (k : Byte)
  /-- TRIM (R159) -/
  | trim (arrival : Arrival) (tag : Byte) (firstSeq n : Nat)
  /-- LANE_MODE (R189): the mode's code as the frame carries it -/
  | laneMode (arrival : Arrival) (tag : Byte) (mode : Byte)
  /-- ACK_START (R190) -/
  | ackStart (arrival : Arrival) (tag : Byte)
  /-- RESTART (R192) -/
  | restart (arrival : Arrival) (tag : Byte)
  /-- UNKNOWN_KIND (R184) -/
  | unknownKind (arrival : Arrival) (kind : Byte) (payload : List Byte)
  /-- SIGHT (R36) -/
  | sight (arrival : Arrival) (payload : SightPayload)
  /-- SUSPECT (R51) -/
  | suspect (arrival : Arrival) (payload : SuspectPayload)
  /-- CLOCK_ADVANCE (R197) -/
  | clockAdvance
  /-- TIME_AGE_EXPIRY (R199) -/
  | timeAgeExpiry
  /-- SWITCH_APPLICATION (R82) -/
  | switchApplication
  /-- RECOVERY_EXPIRY (R40): the entry's CardId -/
  | recoveryExpiry (cardId : Nat)
  /-- POLL_TIMER_EXPIRY (R5, R6) -/
  | pollTimerExpiry (port : Port)
  /-- SENSE_ANSWER (R5, R6) -/
  | senseAnswer (port : Port) (message : List Byte)
  /-- READ_ANSWER (R7) -/
  | readAnswer (port : Port) (message : List Byte)
  /-- PROVE_ANSWER (R8) -/
  | proveAnswer (port : Port) (message : List Byte)
  /-- CHECK_ANSWER (R9) -/
  | checkAnswer (message : List Byte)
  /-- PROOF_TIMEOUT_EXPIRY (R9) -/
  | proofTimeoutExpiry
  /-- VERB_DEADLINE_EXPIRY (R4) -/
  | verbDeadlineExpiry (port : Port)
  /-- RECHECK_BEFORE_COMMIT (R15) -/
  | recheckBeforeCommit (port : Port)
  /-- MARK_ANSWER (R24) -/
  | markAnswer (port : Port) (message : List Byte)
  /-- COMMIT_ANSWER (R16) -/
  | commitAnswer (port : Port) (message : List Byte)
  /-- CONFIRMING_READ_ANSWER (R17) -/
  | confirmingReadAnswer (port : Port) (message : List Byte)
  /-- REISSUED_COMMIT_ANSWER (R18) -/
  | reissuedCommitAnswer (port : Port) (message : List Byte)
  /-- SAMPLE_TIMER_EXPIRY (R85, R86) -/
  | sampleTimerExpiry
  /-- SAMPLE_SET (R88) -/
  | sampleSet (message : List Byte)
  /-- ANOMALY (R106) -/
  | anomaly
  /-- CREDIT_LIFE_EXPIRY (R110) -/
  | creditLifeExpiry
  /-- WAIT_LIMIT_EXPIRY (R111): the direction whose head credit has waited out its limit -/
  | waitLimitExpiry (direction : Direction)
  /-- LIMIT_ASSERTED (R126): the levels of AT_OPEN and AT_CLOSED after the change -/
  | limitAsserted (atOpen atClosed : Bool)
  /-- CLOSE_DELAY_EXPIRY (R127) -/
  | closeDelayExpiry
  /-- MOTION_TIMER_EXPIRY (R129) -/
  | motionTimerExpiry
  /-- BRISK_TIMER_EXPIRY (R142) -/
  | briskTimerExpiry
  /-- DORMANT_TIMER_EXPIRY (R143) -/
  | dormantTimerExpiry
  /-- TALLY_GAP_EXPIRY (R146) -/
  | tallyGapExpiry
  deriving DecidableEq, Repr

end Sys2Proof
end

