-- ==== Sys2Proof/Decode.lean ====
section
/-! DEFINITION. The table of operations and events gives no row any bits, so no word spells a command. The bytes of frames
and messages are read in Machine/Formats.lean and Machine/Operands.lean. -/

namespace Sys2Proof

/-- The command a word spells by the table's bits: the table gives bits to no row, so there is none. -/
def decodeTableWord (_nbits _w : Nat) : Option Instr := none

end Sys2Proof
end

