-- ==== Sys2Proof/Config.lean ====
section
/-! DEFINITION. What the manual fixes for every FH-640 (capacities and limits, 00_scope.md "Principal capacities") and the
free values it leaves open. A free value has no body: nothing can be proved of which value it is. -/

namespace Sys2Proof.Config

/-- R28: the deny list holds at most 4,096 entries. -/
abbrev denyCapacity : Nat := 4096
/-- R31: the sighting table holds at most 1,024 records. -/
abbrev sightingCapacity : Nat := 1024
/-- R38: the recovery list holds at most 16 entries. -/
abbrev recoveryCapacity : Nat := 16
/-- R108: queued credits plus reservations of one direction come to at most 4. -/
abbrev creditCapacity : Nat := 4
/-- R145: the tally queue holds at most 16 steps. -/
abbrev tallyCapacity : Nat := 16
/-- R147: the journal holds 512 places. -/
abbrev journalCapacity : Nat := 512
/-- R150, R152: the last 16 free places are the journal's reserve. -/
abbrev journalReserve : Nat := 16
/-- R172: the line has 24 frame buffers. -/
abbrev bufferCount : Nat := 24
/-- R165, R172: at most 10 buffers hold frames received from one port. -/
abbrev portQuota : Nat := 10
/-- R172, R177: at most 4 buffers hold frames this part made. -/
abbrev localQuota : Nat := 4
/-- R173: a HOLD output is asserted when the port's count rises to 8. -/
abbrev holdAssert : Nat := 8
/-- R173: a HOLD output is released when the port's count falls to 5. -/
abbrev holdRelease : Nat := 5
/-- Section 5.5: the body list holds at most 3 bodies. -/
abbrev bodyCapacity : Nat := 3
/-- R86: the sensor port is silent at the eighth missed period. -/
abbrev missedLimit : Nat := 8
/-- R106: a MIDDLE body is an anomaly after 2 s. -/
abbrev anomalyAge : Nat := 2000
/-- R133: the EMERGENCY filter, in ms. -/
abbrev emergencyFilter : Nat := 50
/-- R163: the link filter, in ms. -/
abbrev linkFilter : Nat := 20
/-- The card image table: CardIds run from 1 to 2^40 − 2; 0 and 2^40 − 1 name no card. -/
abbrev noCard : Nat := 2 ^ 40 - 1

/-- R8: the challenge of each PROVE is "drawn for it alone" by a generator whose values the manual does not give: a free
value of the number of the draw (DESIGN CHOICE of form, safe; log 7). -/
opaque challenge : Nat → BitVec 64

/-- R164, R181: how far a frame that is cut off in transmission had gone out; the manual says only that the neighbour receives it
incomplete. A free value of the frame's bytes (DESIGN CHOICE of form, unsafe; log 53). -/
opaque bytesGoneOut : List Byte → Nat

end Sys2Proof.Config
end

