-- ==== Sys2Proof/Machine/State.lean ====
section
/-! DEFINITION. The state of the FH-640: every item of state the manual gives each of its nine blocks, as plain data, with the
value each holds right after a cold reset. Field defaults are the cold values; a field marked MODEL is the model's own. -/

namespace Sys2Proof.Machine

open Sys2Proof

/-! ### Pairs of like things -/

/-- One of a thing for each card port. -/
structure ByPort (α : Type) where
  a : α
  b : α
  deriving DecidableEq, Repr

/-- One of a thing for each port of the gate line. -/
structure ByLine (α : Type) where
  up : α
  down : α
  deriving DecidableEq, Repr

/-- One of a thing for each direction. -/
structure ByDir (α : Type) where
  inbound : α
  outbound : α
  deriving DecidableEq, Repr

/-- One of a thing for each beam, B1 to B6. -/
structure Six (α : Type) where
  b1 : α
  b2 : α
  b3 : α
  b4 : α
  b5 : α
  b6 : α
  deriving DecidableEq, Repr

/-- A timer: the milliseconds left while it runs, none while it is stopped or has expired and been acted on. -/
abbrev Timer := Option Nat

/-! ### Time and cards -/

/-- Service time: a Date and the Secs into the service day (Naming and annotation). -/
structure ServiceTime where
  date : Nat
  secs : Nat
  deriving DecidableEq, Repr

/-- The state of the station clock (section 10.7). -/
inductive ClockState where
  | unset | good | stale
  deriving DecidableEq, Repr

/-- Mgmt.Clock (section 10.7). -/
structure Clock where
  time : ServiceTime := ⟨0, 0⟩
  state : ClockState := .unset
  deriving DecidableEq, Repr

/-- The entry fields of a card's trip, present while Trip.State is IN (the card image). -/
structure TripEntry where
  station : Nat
  group : Nat
  date : Nat
  secs : Nat
  band : Nat
  deriving DecidableEq, Repr

/-- Status of a card (the card image). -/
inductive CardStatus where
  | active | blocked
  deriving DecidableEq, Repr

/-- The card image (section 1.1): what READ returns. `entry` is present exactly while Trip.State is IN. -/
structure Image where
  cardId : Nat
  keyGen : Nat
  cls : Nat
  classExpiry : Nat
  status : CardStatus
  balance : Int
  counter : Nat
  entry : Option TripEntry
  lastExit : Option ServiceTime
  dailyDate : Nat
  dailySpent : Nat
  deriving DecidableEq, Repr

/-- Fare kinds, in the order of the recovery entry's Fare field (section 2.5). -/
inductive FareKind where
  | regular | unclosed | unverified | overstay | sameStation
  deriving DecidableEq, Repr

/-- The refusal codes, in the order of their table (Card Dialogs). -/
inductive RefusalCode where
  | malformed | exhausted | noTariff | denied | blocked | proofFail | proofUnavailable | clone | alreadyIn | alreadyOut
  | laneClosed | laneDirection | laneBusy | journalFull | insufficient | cardChanged
  deriving DecidableEq, Repr

/-- What a SHOW tells the passenger (R22). -/
inductive OutcomeCode where
  | accepted | seeAgent | oneCard | tryAgain
  | refused (code : RefusalCode)
  deriving DecidableEq, Repr

/-- A SHOW: outcome code, optional amount, optional balance (R22). -/
structure Show where
  outcome : OutcomeCode
  amount : Option Nat := none
  balance : Option Int := none
  deriving DecidableEq, Repr

/-! ### The journal (chapter 8) -/

/-- The kinds of journal record, in the order of the table of R148. -/
inductive RecordKind where
  | entry | penalty | exit | refusal | regrant | recovered | tornUnresolved | clone | lapse | tailgate | intrusion | mode
  | fault
  deriving DecidableEq, Repr

/-- The lane modes, in the order of Lane.Mode.Eff (section 7.3). -/
inductive Mode where
  | normal | entryOnly | exitOnly | closed | freeExit | fault
  deriving DecidableEq, Repr

/-- Reasons of a TORN_UNRESOLVED record (R40). -/
inductive UnresolvedReason where
  | expired | displaced | conflict
  deriving DecidableEq, Repr

/-- Reasons of a clone finding (R148). -/
inductive CloneReason where
  | inFlight | counterBehind | balanceConflict | sightConflict | confirmConflict
  deriving DecidableEq, Repr

/-- Reasons of a lapse (R112). -/
inductive LapseReason where
  | lifetime | wait | flush
  deriving DecidableEq, Repr

/-- Reasons of an intrusion (R121, R123). -/
inductive IntrusionReason where
  | noCredit | counterflow | anomaly
  deriving DecidableEq, Repr

/-- Reasons of a FAULT record (R148). -/
inductive FaultReason where
  | sensorSilent | beamTrim | flapJam
  deriving DecidableEq, Repr

/-- The Reason field of a journal record, by the record's kind (R148, R200). -/
inductive Reason where
  | refusal (code : RefusalCode)
  | unresolved (r : UnresolvedReason)
  | clone (r : CloneReason)
  | lapse (r : LapseReason)
  | intrusion (r : IntrusionReason)
  | mode (m : Mode)
  | fault (r : FaultReason)
  deriving DecidableEq, Repr

/-- The contents of a journal record as the block that makes it offers them (R148); an absent field is none. `stale` is the
CLOCK_STALE flag a reckoning gives its contents (R53). -/
structure Content where
  kind : RecordKind
  direction : Option Direction
  cardId : Option Nat := none
  fare : Option Nat := none
  fareKind : Option FareKind := none
  balanceAfter : Option Int := none
  counterAfter : Option Nat := none
  reason : Option Reason := none
  entryGroup : Option Nat := none
  exitGroup : Option Nat := none
  bankTag : Option Nat := none
  count : Option Nat := none
  stale : Bool := false
  deriving DecidableEq, Repr

/-- A journal record: what the append adds to its contents (R147). `stale` is its CLOCK_STALE flag. -/
structure Record where
  seq : Nat
  time : ServiceTime
  isolated : Bool
  stale : Bool
  content : Content
  deriving DecidableEq, Repr

/-- The Passage Journal (chapter 8). -/
structure Journal where
  /-- Journal.Records, oldest first -/
  records : List Record := []
  /-- Journal.NextSeq -/
  nextSeq : Nat := 1
  /-- Journal.Held -/
  held : Nat := 0
  /-- Journal.Reserved -/
  reserved : Nat := 0
  /-- Journal.Overflow -/
  overflow : Bool := false
  deriving DecidableEq, Repr

/-! ### Card dialogs (chapter 1) -/

/-- The states of a dialog context, in the order of their table (section 1.2). -/
inductive DialogState where
  | idle | sensing | reading | proving | checking | judging | reckoning | committing | confirming | marking | holding
  deriving DecidableEq, Repr

/-- A proof outcome as a context records it (section 1.2). -/
inductive ProofOutcome where
  | pass | fail | unknownGen | unavailable
  deriving DecidableEq, Repr

/-- The Intended records of a reckoning (R52, R58, R68). `contents` are the journal record contents in the order in which they
are appended (R59); Trip.State is IN exactly when `entry` is present. -/
structure Intended where
  balance : Int
  entry : Option TripEntry
  lastExit : Option ServiceTime
  dailyDate : Nat
  dailySpent : Nat
  amount : Nat
  fareKind : FareKind
  cls : Nat
  contents : List Content
  bankTag : Nat
  deriving DecidableEq, Repr

/-- A dialog context (section 1.2). -/
structure Context where
  state : DialogState := .idle
  cardId : Option Nat := none
  image : Option Image := none
  preCounter : Option Nat := none
  preBalance : Option Int := none
  proof : Option ProofOutcome := none
  inFlight : Bool := false
  creditRes : Bool := false
  journalRes : Nat := 0
  intended : Option Intended := none
  switchHeld : Bool := false
  attempts : Nat := 0
  reissued : Bool := false
  pollTimer : Timer := none
  pollPeriod : Nat := 0
  /-- the refusal code that led to the mark, while State is MARKING (R24) -/
  marking : Option RefusalCode := none
  deriving DecidableEq, Repr

/-- What the verb outstanding on a port is for: the five verbs with an answer, with the READ and COMMIT of CONFIRMING told
apart (R17, R18). -/
inductive Purpose where
  | sense | read | prove | commit | mark | confirmRead | reissue
  deriving DecidableEq, Repr

/-- The verb outstanding on a card port (R2, R3). -/
structure Outstanding where
  purpose : Purpose
  tag : Nat
  /-- the time left before its deadline, in ms -/
  deadline : Nat
  /-- the challenge a PROVE carries (R8) -/
  challenge : Option (BitVec 64) := none
  /-- R25: its context was refused meanwhile, so that its answer is discarded when it comes -/
  dropped : Bool := false
  deriving DecidableEq, Repr

/-- One card port (R2). -/
structure PortLink where
  tag : Nat := 1
  outstanding : Option Outstanding := none
  pendingShow : Option Show := none
  deriving DecidableEq, Repr

/-- A request of the proof queue (section 1.5). -/
structure ProofRequest where
  port : Port
  cardId : Nat
  keyGen : Nat
  challenge : BitVec 64
  proof : BitVec 64
  attempt : Nat := 1
  /-- R10: its context was refused while it was in service -/
  abandoned : Bool := false
  deriving DecidableEq, Repr

/-- The Card Dialog Engine (chapter 1). -/
structure Dialogs where
  ctx : ByPort Context
  port : ByPort PortLink := ⟨{}, {}⟩
  /-- Dialog.ProofQueue, the head first -/
  proofQueue : List ProofRequest := []
  /-- Dialog.ProofTag -/
  proofTag : Nat := 1
  /-- the deadline of the CHECK outstanding on the proof port; none while no CHECK is outstanding -/
  proofTimer : Timer := none
  /-- MODEL: how many challenges have been drawn (R8, log 7) -/
  challengeNo : Nat := 0
  deriving DecidableEq, Repr

/-! ### Card standing (chapter 2) -/

/-- Reasons of a deny entry (section 2.2). -/
inductive DenyReason where
  | lost | stolen | clone | fraud | other
  deriving DecidableEq, Repr

/-- Who made a deny entry (section 2.2). -/
inductive DenyOrigin where
  | head | localPart | peer
  deriving DecidableEq, Repr

/-- What a dialog does with a denied card (section 2.2). -/
inductive DenyAction where
  | refuse | refuseAndMark
  deriving DecidableEq, Repr

/-- A deny entry (section 2.2). -/
structure DenyEntry where
  cardId : Nat
  reason : DenyReason
  origin : DenyOrigin
  action : DenyAction
  deriving DecidableEq, Repr

/-- Kinds of sighting record (section 2.3). -/
inductive SightKind where
  | entered | exited | lapsedIn | lapsedOut | torn
  deriving DecidableEq, Repr

/-- A sighting record (section 2.3). -/
structure Sighting where
  cardId : Nat
  counter : Nat
  balance : Int
  kind : SightKind
  gate : Nat
  time : ServiceTime
  deriving DecidableEq, Repr

/-- A recovery entry (section 2.5). Its HeldSlot is one of the slots Journal.Held counts. -/
structure RecoveryEntry where
  cardId : Nat
  preCounter : Nat
  preBalance : Int
  intendedBalance : Int
  /-- the Trip.State the write carried: true for IN -/
  intendedIn : Bool
  fare : Nat
  fareKind : FareKind
  direction : Direction
  created : ServiceTime
  bankTag : Nat
  /-- Remaining, in ms -/
  remaining : Nat
  deriving DecidableEq, Repr

/-- The Card Standing Unit (chapter 2). -/
structure Standing where
  /-- Standing.DenyList, in ascending CardId order -/
  deny : List DenyEntry := []
  /-- Standing.Sightings, kept in ascending CardId order (log 48) -/
  sightings : List Sighting := []
  /-- Standing.Recovery, in the order of creation -/
  recovery : List RecoveryEntry := []
  /-- Standing.InFlight: each port's member -/
  inFlight : ByPort (Option Nat) := ⟨none, none⟩
  deriving DecidableEq, Repr

/-! ### Tariff banks (chapter 4) -/

/-- A time band (section 4.1). -/
structure Band where
  startSecs : Nat
  factor : Nat
  deriving DecidableEq, Repr

/-- A concession class (section 4.1). -/
structure ClassRow where
  factor : Nat
  cap : Nat
  deriving DecidableEq, Repr

/-- The STATION segment. -/
structure StationSeg where
  stationCode : Nat
  fareGroup : Nat
  deriving DecidableEq, Repr

/-- The BANDS segment. -/
structure BandsSeg where
  bands : List Band
  defaultBand : Nat
  deriving DecidableEq, Repr

/-- The RULES segment. -/
structure RulesSeg where
  transferWindow : Nat
  transferDiscount : Nat
  minEntryBalance : Int
  overdraft : Nat
  maxFare : Nat
  unclosedCharge : Nat
  sameStationCharge : Nat
  sameStationWindow : Nat
  maxTrip : Nat
  fareStep : Nat
  deriving DecidableEq, Repr

/-- A whole bank (section 4.1). `matrix` holds the 1,024 base fares row by row, row e being entry group e. -/
structure Bank where
  tag : Nat
  station : StationSeg
  matrix : List Nat
  bands : BandsSeg
  classes : List ClassRow
  rules : RulesSeg
  check : Nat
  deriving DecidableEq, Repr

/-- Tariff.StageState (section 4.2). -/
inductive StageState where
  | closed | opened | complete
  deriving DecidableEq, Repr

/-- The stage (section 4.2, R201): each segment, and each of the sixteen MATRIX parts, present or missing. -/
structure Stage where
  state : StageState := .closed
  tag : Nat := 0
  station : Option StationSeg := none
  /-- parts 0 and 1 of MATRIX0, then of MATRIX1, and so on: 64 base fares each -/
  parts : List (Option (List Nat)) := List.replicate 16 none
  bands : Option BandsSeg := none
  classes : Option (List ClassRow) := none
  rules : Option RulesSeg := none
  check : Option Nat := none
  deriving DecidableEq, Repr

/-- Tariff.Switch (section 4.3). -/
inductive SwitchState where
  | none | waiting | due
  deriving DecidableEq, Repr

/-- The Tariff Store (chapter 4). -/
structure Tariff where
  /-- Tariff.Active: none while invalid -/
  active : Option Bank := Option.none
  stage : Stage := {}
  switch : SwitchState := .none
  /-- Tariff.SwitchAt -/
  switchAt : Option ServiceTime := Option.none
  deriving DecidableEq, Repr

/-! ### Lane sensing (chapter 5) -/

/-- The state of a beam (section 5.2). -/
inductive BeamState where
  | clear | blocked | trimming | fault
  deriving DecidableEq, Repr

/-- Why a beam is in FAULT (section 5.2). -/
inductive FaultCause where
  | trim | silent
  deriving DecidableEq, Repr

/-- A beam record (section 5.2). -/
structure BeamRecord where
  level : Nat := 0
  ref : Nat := 3000
  drive : Nat := 32
  state : BeamState := .clear
  count : Nat := 0
  cause : Option FaultCause := none
  steps : Nat := 0
  settle : Nat := 0
  tried : Bool := false
  deriving DecidableEq, Repr

/-- The end a body came in at (section 5.5). -/
inductive Origin where
  | entryEnd | exitEnd | middle
  deriving DecidableEq, Repr

/-- A body (section 5.5). `since` is a reading of the part's own timebase in ms. -/
structure Body where
  origin : Origin
  first : Nat
  last : Nat
  reach : Option Nat
  long : Bool
  crossed : Bool
  since : Nat
  reported : Bool
  deriving DecidableEq, Repr

/-- The Lane Sensor Unit (chapter 5). The cold reset itself sends the first SAMPLE, which makes the tag 2 (R85). -/
structure Beams where
  records : Six BeamRecord := ⟨{}, {}, {}, {}, {}, {}⟩
  /-- Beam.Bodies, oldest first -/
  bodies : List Body := []
  senseTag : Nat := 2
  missed : Nat := 0
  silent : Bool := false
  trimBeam : Option Nat := none
  /-- the acquisition flag (R91) -/
  acquiring : Bool := true
  sampleTimer : Timer := some 10
  /-- a sample set has been taken since the last SAMPLE (R85, R86) -/
  answered : Bool := false
  deriving DecidableEq, Repr

/-! ### The lane (chapters 6 and 7) -/

/-- How a credit was earned (section 6.1). -/
inductive CreditKind where
  | fare | regrant | recovered | staff
  deriving DecidableEq, Repr

/-- A credit (section 6.1). Life and Wait are in ms. -/
structure Credit where
  number : Nat
  direction : Direction
  kind : CreditKind
  cardId : Nat
  granted : ServiceTime
  life : Nat
  wait : Nat
  deriving DecidableEq, Repr

/-- Lane.Counts of one direction (section 6.1). -/
structure Counts where
  granted : Nat := 0
  consumed : Nat := 0
  lapsed : Nat := 0
  deriving DecidableEq, Repr

/-- Lane.Flap (section 6.5). -/
inductive Flap where
  | closed | opening | opened | closing | jammed
  deriving DecidableEq, Repr

/-- Lane.JamMotion (section 6.5). -/
inductive Motion where
  | towardOpen | towardClosed
  deriving DecidableEq, Repr

/-- Lane.Tempo (section 7.5). -/
inductive Tempo where
  | brisk | steady | dormant
  deriving DecidableEq, Repr

/-- Lane.TallyPhase (section 7.6). -/
inductive TallyPhase where
  | ready | first | spacing
  deriving DecidableEq, Repr

/-- The Lane Controller (chapters 6 and 7). -/
structure Lane where
  /-- Lane.Credits, the head first -/
  credits : ByDir (List Credit) := ⟨[], []⟩
  reserved : ByDir Nat := ⟨0, 0⟩
  nextCreditNo : Nat := 0
  counts : ByDir Counts := ⟨{}, {}⟩
  grant : Option Direction := none
  lastServed : Option Direction := none
  flap : Flap := .closed
  /-- Lane.FlapJam is SET while this is present, and it is Lane.JamMotion -/
  jam : Option Motion := none
  /-- Lane.CloseTimer: none is EXPIRED -/
  closeTimer : Timer := none
  /-- Lane.MotionTimer: none is STOPPED -/
  motionTimer : Timer := none
  /-- the flap-zone reading as last reported: true for blocked (R98) -/
  flapZone : Bool := false
  /-- Lane.Mode.Cmd: never FREE_EXIT nor FAULT -/
  cmd : Mode := .closed
  /-- Lane.Mode.Eff -/
  eff : Mode := .closed
  /-- Lane.Emergency: true for ASSERTED -/
  emergency : Bool := false
  /-- the filter of the EMERGENCY pin (R133) -/
  emergencyFilter : Timer := none
  faultBeams : Nat := 0
  freeCount : Nat := 0
  tempo : Tempo := .steady
  briskTimer : Timer := none
  dormantTimer : Timer := some 60000
  /-- Lane.TallyQueue, the step being output first -/
  tally : List Direction := []
  tallyPhase : TallyPhase := .ready
  tallyTimer : Timer := none
  /-- TALLY_A and TALLY_B: true for HIGH -/
  tallyA : Bool := false
  tallyB : Bool := false
  deriving DecidableEq, Repr

/-! ### The gate line (chapter 9) -/

/-- A frame between its marks (section 11.2); the Check is computed when it is sent. -/
structure Frame where
  kind : Byte
  dest : Byte
  src : Byte
  hops : Nat
  payload : List Byte
  deriving DecidableEq, Repr

/-- What a buffer counts against (section 9.4): a port's quota, or the local quota. -/
inductive Quota where
  | port (p : LinePort)
  | own
  deriving DecidableEq, Repr

/-- A frame in a buffer that waits in a queue or is in transmission. `restart` marks the REPLY that decides the moment of a
warm reset (R192). -/
structure Buffered where
  frame : Frame
  quota : Quota
  restart : Bool := false
  deriving DecidableEq, Repr

/-- A reply status, in the order of the table of R184. -/
inductive Status where
  | done | clamped | refusedState | refusedValue | full | absent | incomplete | badCheck | unknown
  deriving DecidableEq, Repr

/-- One direction's group of the QUERY reply (R187). -/
structure CreditReport where
  queued : Nat
  reserved : Nat
  counts : Counts
  head : Option Credit
  deriving DecidableEq, Repr

/-- The sticky flags of the Management Unit, Mgmt.Flags (section 10.3). -/
structure StickyFlags where
  overrun : Bool := false
  sendDrop : Bool := false
  denyFull : Bool := false
  tallyOverflow : Bool := false
  deriving DecidableEq, Repr

/-- The QUERY reply's contents (R187). -/
structure Snapshot where
  address : Nat
  connected : Bool
  link : ByLine Bool
  holdOut : ByLine Bool
  freeBuffers : Nat
  fromUp : Nat
  fromDown : Nat
  own : Nat
  clock : Clock
  freshStart : Bool
  restartPending : Bool
  eventNo : Nat
  cmd : Mode
  eff : Mode
  emergency : Bool
  faultBeams : Nat
  grant : Option Direction
  flap : Flap
  flapJam : Bool
  tempo : Tempo
  freeCount : Nat
  tallySteps : Nat
  credits : ByDir CreditReport
  dialogs : ByPort DialogState
  beams : Six BeamState
  silent : Bool
  denyEntries : Nat
  sightingRecords : Nat
  recoveryEntries : Nat
  activeTag : Nat
  stageState : StageState
  stageTag : Nat
  segmentMap : List Bool
  switch : SwitchState
  switchAt : Option ServiceTime
  recordCount : Nat
  oldestSeq : Nat
  journalFree : Nat
  journalHeld : Nat
  flags : StickyFlags
  overflow : Bool
  deriving DecidableEq, Repr

/-- What a REPLY carries after its status (section 11.2). -/
inductive ReplyContents where
  | nothing
  | set (values : List (Byte × Int))
  | query (snapshot : Snapshot)
  | collect (recordCount oldestSeq nextSeq free : Nat) (records : List Record)
  | trim (removed recordCount oldestSeq : Nat)
  | laneMode (cmd eff : Mode)
  deriving DecidableEq, Repr

/-- A REPLY (R184). -/
structure Reply where
  kind : Byte
  tag : Byte
  status : Status
  contents : ReplyContents
  deriving DecidableEq, Repr

/-- The contents of the frame to be built in a held buffer (R170, R176). -/
inductive HeldContent where
  | reply (r : Reply)
  | enumerate (n : Byte)
  | enumEnd (n : Byte) (overflow : Bool)
  deriving DecidableEq, Repr

/-- An entry of Line.Held (section 9.4): the port its buffer came from, the port the frame is bound for, the contents. -/
structure HeldEntry where
  source : LinePort
  bound : LinePort
  content : HeldContent
  restart : Bool := false
  deriving DecidableEq, Repr

/-- The queue a port's arbiter last picked from, Line.Up.Turn and Line.Down.Turn (section 9.5). -/
inductive Turn where
  | relay | own
  deriving DecidableEq, Repr

/-- The Line Interface Unit (chapter 9). The 24 buffers are in the places below, or free. -/
structure LineIf where
  /-- Line.Address -/
  address : Nat := 0
  /-- Line.Up.Link, Line.Down.Link: true for UP (log 5) -/
  link : ByLine Bool := ⟨true, true⟩
  /-- the link filters (R163) -/
  linkFilter : ByLine Timer := ⟨none, none⟩
  /-- a frame is in reception on the port, with its buffer -/
  receiving : ByLine Bool := ⟨false, false⟩
  /-- the relay queue of each port, the head first -/
  relayQ : ByLine (List Buffered) := ⟨[], []⟩
  /-- the local queue of each port, the head first -/
  localQ : ByLine (List Buffered) := ⟨[], []⟩
  /-- Line.Held, the oldest first -/
  held : List HeldEntry := []
  /-- the frame in transmission: Tx is SENDING while it is present -/
  tx : ByLine (Option Buffered) := ⟨none, none⟩
  turn : ByLine Turn := ⟨.own, .own⟩
  /-- Line.Up.HoldOut, Line.Down.HoldOut: true for ASSERTED -/
  holdOut : ByLine Bool := ⟨false, false⟩
  /-- Line.State: true for CONNECTED -/
  connected : Bool := false
  /-- Line.SilenceTimer: none is EXPIRED -/
  silenceTimer : Timer := none
  deriving DecidableEq, Repr

/-! ### Management (chapter 10) -/

/-- The Management Unit (chapter 10). -/
structure Mgmt where
  clock : Clock := {}
  /-- Mgmt.TimeAge: none is STOPPED -/
  timeAge : Timer := none
  flags : StickyFlags := {}
  freshStart : Bool := true
  restartPending : Bool := false
  /-- the REPLY of the first RESTART has left the part's hands (R192) -/
  restartReplyGone : Bool := false
  eventNo : Nat := 0
  deriving DecidableEq, Repr

/-- The parameters SET names, in the order of the table of section 10.2, each in the unit its definition gives. -/
structure Params where
  verbSense : Nat := 30
  verbRead : Nat := 40
  verbProve : Nat := 60
  verbCommit : Nat := 80
  verbMark : Nat := 80
  retries : Nat := 2
  pollBrisk : Nat := 50
  pollSteady : Nat := 150
  pollDormant : Nat := 500
  proofTimeout : Nat := 150
  passbackWindow : Nat := 60
  grace : Nat := 120
  horizon : Nat := 1800
  recoveryWindow : Nat := 600
  markOnClone : Bool := false
  sampleBrisk : Nat := 5
  sampleSteady : Nat := 10
  sampleDormant : Nat := 40
  blockLevel : Nat := 600
  releaseLevel : Nat := 300
  debounce : Nat := 3
  slowShift : Nat := 6
  fastShift : Nat := 3
  fastBound : Nat := 200
  target : Nat := 3000
  band : Nat := 16
  trimSettle : Nat := 4
  trimSteps : Nat := 8
  creditLife : Nat := 8
  waitLimit : Nat := 20
  closeDelay : Nat := 600
  flapMotionLimit : Nat := 1500
  briskHold : Nat := 3
  idleToDormant : Nat := 60
  tallyGap : Nat := 20
  highWater : Nat := 448
  sightHops : Nat := 15
  silence : Nat := 5
  timeStale : Nat := 600
  /-- Mgmt.EventMask: bit i is ON for row i of the table of R196 -/
  eventMask : BitVec 12 := 0xFFF#12
  deriving DecidableEq, Repr

/-- The levels on the input pins (Pins): true for asserted, and for up on a link detect input. -/
structure Pins where
  emergency : Bool := false
  link : ByLine Bool := ⟨true, true⟩
  hold : ByLine Bool := ⟨false, false⟩
  atOpen : Bool := false
  atClosed : Bool := true
  reset : Bool := false
  deriving DecidableEq, Repr

/-! ### What the part sends -/

/-- A verb with what it carries (section 1.1, R16). -/
inductive Verb where
  | sense
  | read (cardId : Nat)
  | prove (cardId : Nat) (challenge : BitVec 64)
  | commit (cardId expectedCounter : Nat) (balance : Int) (entry : Option TripEntry) (lastExit : Option ServiceTime)
      (dailyDate dailySpent : Nat)
  | mark (cardId : Nat)
  deriving DecidableEq, Repr

/-- A message the part has sent on one of its links. -/
inductive Sent where
  | verb (port : Port) (tag : Nat) (verb : Verb)
  /-- a SHOW, with the port's Tag as it stands (log 43) -/
  | display (port : Port) (tag : Nat) (content : Show)
  | check (tag : Nat) (request : ProofRequest)
  | sample (tag : Nat)
  | drive (beam step : Nat)
  /-- a frame whose transmission on the port has ended -/
  | frame (port : LinePort) (frame : Frame)
  /-- a frame cut off in transmission: the neighbour receives it incomplete (R164) -/
  | cutOff (port : LinePort) (frame : Frame)
  deriving DecidableEq, Repr

/-- The state of the part. -/
structure State where
  dialog : Dialogs
  standing : Standing
  tariff : Tariff
  beam : Beams
  lane : Lane
  journal : Journal
  line : LineIf
  mgmt : Mgmt
  params : Params
  pins : Pins
  /-- the part's own timebase, in ms since the cold reset -/
  now : Nat
  /-- ms left to the next second of the own timebase (R197) -/
  second : Nat
  /-- MODEL: what the part has sent on its links, the newest first (log 32) -/
  sent : List Sent
  /-- MODEL: the commands that wait, the front first -/
  pending : List Instr
  deriving DecidableEq, Repr

/-- Reasons to stop with a fault. The manual describes none: what goes wrong is discarded, refused by a reply, or recorded. -/
inductive Fault where
  /-- No meaning raises it. It stands for a behaviour to which the manual would give no effect at all; safe, since a claim
  about a next state says nothing of a step that answers it. -/
  | noEffectGiven
  deriving DecidableEq, Repr

/-- Reasons to refuse a command. -/
inductive Refusal where
  /-- A command that has no meaning yet; exec's arm gives it. Safe. -/
  | notModelled (mnemonic : String)
  /-- A command whose operands no link can carry (`Instr.wf`): its meaning gives it, and nothing happens. Safe: the part
  never meets such a command (log 41). -/
  | illFormed
  deriving DecidableEq, Repr

/-- A context after a reset: IDLE, every other field absent, the poll timer started with the STEADY period (R26, R27). -/
def Context.started (period : Nat) : Context :=
  { pollTimer := some period, pollPeriod := period }

/-- What a cold reset sends once it starts to work (R85, R87): DRIVE with step 32 for each beam, then the first SAMPLE. The
newest stands first. DESIGN CHOICE (log 55): the DRIVEs go out from B1 to B6. -/
def coldSent : List Sent :=
  [.sample 2, .drive 6 32, .drive 5 32, .drive 4 32, .drive 3 32, .drive 2 32, .drive 1 32]

/-- The part right after a cold reset that it came out of with the pins of log 5: links UP, AT_CLOSED asserted, every other
input inactive. -/
def State.reset : State where
  dialog := { ctx := ⟨.started 150, .started 150⟩ }
  standing := {}
  tariff := {}
  beam := {}
  lane := {}
  journal := {}
  line := {}
  mgmt := {}
  params := {}
  pins := {}
  now := 0
  second := 1000
  sent := coldSent
  pending := []

end Sys2Proof.Machine
end

