-- ==== Sys2Proof/WellFormed.lean ====
section
/-! DEFINITION. Which commands a link can carry at all: each operand within the width that the Formats chapter gives it (R200,
sections 11.2 to 11.5). Nothing here tests what the part itself tests: a Secs of 90,000 fits its three bytes, so the command
is well formed, and R198 refuses it. -/

namespace Sys2Proof

/-- An Arrival a good frame can have: Hops at most 62 (R166). -/
def Arrival.wf (a : Arrival) : Bool := decide (a.hops ≤ 62)

/-- A value of `n` bytes. -/
def fits (n v : Nat) : Bool := decide (v < 256 ^ n)

/-- A signed value of `n` bytes in two's complement (R200). -/
def fitsSigned (n : Nat) (v : Int) : Bool :=
  decide (-(256 ^ n / 2 : Int) ≤ v) && decide (v < (256 ^ n / 2 : Int))

/-- R200: a SIGHT payload's fields within their widths. -/
def SightPayload.wf (p : SightPayload) : Bool :=
  fits 5 p.cardId && fits 2 p.counter && fitsSigned 3 p.balance && fits 2 p.date && fits 3 p.secs

/-- R200: a SUSPECT payload's fields within their widths. -/
def SuspectPayload.wf (p : SuspectPayload) : Bool :=
  fits 5 p.cardId && fits 2 p.date && fits 3 p.secs

/-- The command is one that a link can carry. -/
def Instr.wf : Instr → Bool
  | .frameEnd _ bytes endMark => decide (bytes.length ≤ 256) && (endMark || decide (bytes.length = 256))
  | .time a _ date secs => a.wf && fits 2 date && fits 3 secs
  | .set a _ entries =>
    a.wf && decide (entries.length ≤ 47) && entries.all (fun e => fitsSigned 4 e.2)
  | .query a _ => a.wf
  | .stageOpen a _ bankTag => a.wf && fits 4 bankTag
  | .stageLoad a _ bankTag _ _ values => a.wf && fits 4 bankTag && decide (values.length ≤ 233)
  | .stageSwitch a _ effective =>
    a.wf && (match effective with
      | some (date, secs) => fits 2 date && fits 3 secs
      | none => true)
  | .stageDiscard a _ => a.wf
  | .denyAdd a _ cardId _ _ => a.wf && fits 5 cardId
  | .denyDrop a _ cardId => a.wf && fits 5 cardId
  | .collect a _ _ => a.wf
  | .trim a _ firstSeq n => a.wf && fits 4 firstSeq && fits 2 n
  | .laneMode a _ _ => a.wf
  | .ackStart a _ => a.wf
  | .restart a _ => a.wf
  | .unknownKind a kind payload => a.wf && decide (20 ≤ kind.toNat) && decide (payload.length ≤ 240)
  | .sight a p => a.wf && p.wf
  | .suspect a p => a.wf && p.wf
  | .recoveryExpiry cardId => fits 5 cardId
  | .coldReset _ | .warmReset | .emergencyPinChange _ | .emergencyTaken | .linkPinChange _ _ | .linkTaken _
  | .holdInputChange _ _ | .frameStart _ | .transmissionBegin _ | .transmissionEnd _ | .heldConversion
  | .silenceTimerExpiry | .enumerate _ | .clockAdvance | .timeAgeExpiry | .switchApplication | .pollTimerExpiry _
  | .senseAnswer _ _ | .readAnswer _ _ | .proveAnswer _ _ | .checkAnswer _ | .proofTimeoutExpiry
  | .verbDeadlineExpiry _ | .recheckBeforeCommit _ | .markAnswer _ _ | .commitAnswer _ _
  | .confirmingReadAnswer _ _ | .reissuedCommitAnswer _ _ | .sampleTimerExpiry | .sampleSet _ | .anomaly
  | .creditLifeExpiry | .waitLimitExpiry _ | .limitAsserted _ _ | .closeDelayExpiry | .motionTimerExpiry
  | .briskTimerExpiry | .dormantTimerExpiry | .tallyGapExpiry => true

end Sys2Proof
end

