-- ==== Sys2Proof/Machine/Ops.lean ====
section
/-! DEFINITION. The named operations the meanings share: reading and writing one of a pair, one block's update, timers, the
station clock, the own timebase, what is sent, and how a command takes effect at all. -/

namespace Sys2Proof.Machine

open Sys2Proof

/-! ### Pairs -/

/-- Port A's or port B's. -/
def ByPort.get {α : Type} (x : ByPort α) : Port → α
  | .a => x.a
  | .b => x.b

/-- Writes port A's or port B's. -/
def ByPort.put {α : Type} (x : ByPort α) (p : Port) (v : α) : ByPort α :=
  match p with
  | .a => { x with a := v }
  | .b => { x with b := v }

/-- The up port's or the down port's. -/
def ByLine.get {α : Type} (x : ByLine α) : LinePort → α
  | .up => x.up
  | .down => x.down

/-- Writes the up port's or the down port's. -/
def ByLine.put {α : Type} (x : ByLine α) (p : LinePort) (v : α) : ByLine α :=
  match p with
  | .up => { x with up := v }
  | .down => { x with down := v }

/-- Direction IN's or OUT's. -/
def ByDir.get {α : Type} (x : ByDir α) : Direction → α
  | .inbound => x.inbound
  | .outbound => x.outbound

/-- Writes direction IN's or OUT's. -/
def ByDir.put {α : Type} (x : ByDir α) (d : Direction) (v : α) : ByDir α :=
  match d with
  | .inbound => { x with inbound := v }
  | .outbound => { x with outbound := v }

/-- The value of beam `i`, 1 to 6; any other number reads as beam 6's. -/
def Six.get {α : Type} (x : Six α) (i : Nat) : α :=
  match i with
  | 1 => x.b1
  | 2 => x.b2
  | 3 => x.b3
  | 4 => x.b4
  | 5 => x.b5
  | _ => x.b6

/-- Writes the value of beam `i`, 1 to 6; any other number changes nothing. -/
def Six.put {α : Type} (x : Six α) (i : Nat) (v : α) : Six α :=
  match i with
  | 1 => { x with b1 := v }
  | 2 => { x with b2 := v }
  | 3 => { x with b3 := v }
  | 4 => { x with b4 := v }
  | 5 => { x with b5 := v }
  | 6 => { x with b6 := v }
  | _ => x

/-- A function at each beam. -/
def Six.map {α β : Type} (f : α → β) (x : Six α) : Six β :=
  ⟨f x.b1, f x.b2, f x.b3, f x.b4, f x.b5, f x.b6⟩

/-- The six values, B1's first. -/
def Six.toList {α : Type} (x : Six α) : List α := [x.b1, x.b2, x.b3, x.b4, x.b5, x.b6]

/-- Port A runs entry dialogs in direction IN, port B exit dialogs in direction OUT (Card Dialogs). -/
def portDirection : Port → Direction
  | .a => .inbound
  | .b => .outbound

/-- The other card port. -/
def otherPort : Port → Port
  | .a => .b
  | .b => .a

/-- The other port of the gate line. -/
def otherLine : LinePort → LinePort
  | .up => .down
  | .down => .up

/-- The other direction. -/
def otherDirection : Direction → Direction
  | .inbound => .outbound
  | .outbound => .inbound

/-! ### One block's update -/

/-- Changes the Card Dialog Engine alone. -/
def State.onDialog (f : Dialogs → Dialogs) (s : State) : State := { s with dialog := f s.dialog }
/-- Changes the Card Standing Unit alone. -/
def State.onStanding (f : Standing → Standing) (s : State) : State := { s with standing := f s.standing }
/-- Changes the Tariff Store alone. -/
def State.onTariff (f : Tariff → Tariff) (s : State) : State := { s with tariff := f s.tariff }
/-- Changes the Lane Sensor Unit alone. -/
def State.onBeam (f : Beams → Beams) (s : State) : State := { s with beam := f s.beam }
/-- Changes the Lane Controller alone. -/
def State.onLane (f : Lane → Lane) (s : State) : State := { s with lane := f s.lane }
/-- Changes the Passage Journal alone. -/
def State.onJournal (f : Journal → Journal) (s : State) : State := { s with journal := f s.journal }
/-- Changes the Line Interface Unit alone. -/
def State.onLine (f : LineIf → LineIf) (s : State) : State := { s with line := f s.line }
/-- Changes the Management Unit alone. -/
def State.onMgmt (f : Mgmt → Mgmt) (s : State) : State := { s with mgmt := f s.mgmt }
/-- Changes the input pins' levels alone. -/
def State.onPins (f : Pins → Pins) (s : State) : State := { s with pins := f s.pins }

/-- Sends a message on one of the part's links. -/
def State.send (m : Sent) (s : State) : State := { s with sent := m :: s.sent }

/-- The dialog context of a port. -/
def State.ctx (s : State) (p : Port) : Context := s.dialog.ctx.get p
/-- Changes the dialog context of a port alone. -/
def State.onCtx (p : Port) (f : Context → Context) (s : State) : State :=
  s.onDialog fun d => { d with ctx := d.ctx.put p (f (d.ctx.get p)) }
/-- The card port. -/
def State.port (s : State) (p : Port) : PortLink := s.dialog.port.get p
/-- Changes a card port alone. -/
def State.onPort (p : Port) (f : PortLink → PortLink) (s : State) : State :=
  s.onDialog fun d => { d with port := d.port.put p (f (d.port.get p)) }

/-! ### Timers and tags -/

/-- The timer has run out: its expiry is due. -/
def Timer.due (t : Timer) : Bool := t == some 0

/-- One millisecond of a running timer. -/
def Timer.tick (t : Timer) : Timer := t.map (· - 1)

/-- R2: a Tag rises by 1 and wraps from 255 to 1. -/
def nextTag (t : Nat) : Nat := if t ≥ 255 then 1 else t + 1

/-! ### Service time -/

/-- The absolute second of a service time (Terms). -/
def ServiceTime.absolute (t : ServiceTime) : Nat := t.date * 86400 + t.secs

/-- The station clock. -/
def State.clock (s : State) : Clock := s.mgmt.clock

/-- R31: the time a record of this part takes: the station clock's, Date 0 and Secs 0 while it is UNSET. -/
def State.stamp (s : State) : ServiceTime :=
  if s.clock.state = .unset then ⟨0, 0⟩ else s.clock.time

/-- R32, R53: elapsed seconds from an earlier time to the clock, 0 where the difference would be negative. -/
def elapsedSince (now earlier : ServiceTime) : Nat := now.absolute - earlier.absolute

/-! ### Lane readings that several blocks share -/

/-- NORMAL, ENTRY_ONLY and EXIT_ONLY are the modes in service (section 7.1). -/
def Mode.inService : Mode → Bool
  | .normal | .entryOnly | .exitOnly => true
  | .closed | .freeExit | .fault => false

/-- FREE_EXIT and FAULT hold the flaps open (R125). -/
def Mode.holdsOpen : Mode → Bool
  | .freeExit | .fault => true
  | _ => false

/-- R5, R144: the card poll period for a tempo. -/
def Params.pollPeriod (q : Params) : Tempo → Nat
  | .brisk => q.pollBrisk
  | .steady => q.pollSteady
  | .dormant => q.pollDormant

/-- R85, R144: the beam sample period for a tempo. -/
def Params.samplePeriod (q : Params) : Tempo → Nat
  | .brisk => q.sampleBrisk
  | .steady => q.sampleSteady
  | .dormant => q.sampleDormant

/-- FLAP_OPEN: driven in OPENING (R124), never while the RESET pin is asserted (R194). -/
def State.flapOpenOut (s : State) : Bool := !s.pins.reset && s.lane.flap == .opening

/-- FLAP_CLOSE: driven in CLOSING (R124), never while the RESET pin is asserted (R194). -/
def State.flapCloseOut (s : State) : Bool := !s.pins.reset && s.lane.flap == .closing

/-- No credit is queued and no reservation held in either direction (R93, R143). -/
def Lane.noCredits (l : Lane) : Bool :=
  l.credits.inbound.isEmpty && l.credits.outbound.isEmpty && l.reserved.inbound == 0 && l.reserved.outbound == 0

/-- R93: the lane is idle for the trim. -/
def State.laneIdle (s : State) : Bool :=
  s.beam.bodies.isEmpty && s.lane.noCredits
    && (s.lane.flap == .closed || (s.lane.flap == .opened && s.lane.eff.holdsOpen))
    && s.lane.tempo != .brisk

/-- R143: a context that leaves the lane quiet. -/
def DialogState.quiet : DialogState → Bool
  | .idle | .sensing | .holding => true
  | _ => false

/-- R143: the lane is quiet. -/
def State.laneQuiet (s : State) : Bool :=
  s.beam.bodies.isEmpty && s.lane.noCredits && (s.ctx .a).state.quiet && (s.ctx .b).state.quiet

/-! ### What follows every step -/

/-- R142: the brisk timer starts again when the body list has become empty after an expiry that found a body in it. -/
def followBrisk (s : State) : State :=
  if s.lane.tempo = .brisk ∧ s.lane.briskTimer = none ∧ s.beam.bodies = [] then
    s.onLane fun l => { l with briskTimer := some (s.params.briskHold * 1000) }
  else s

/-- R143: the dormant timer runs while the tempo is STEADY and the lane is quiet, from the full time at each such start. -/
def followDormant (s : State) : State :=
  if s.lane.tempo = .steady ∧ s.laneQuiet = true then
    if s.lane.dormantTimer = none then
      s.onLane fun l => { l with dormantTimer := some (s.params.idleToDormant * 1000) }
    else s
  else s.onLane fun l => { l with dormantTimer := none }

/-- R97: Tried is cleared for every beam when the idle period ends. -/
def followTried (s : State) : State :=
  if s.laneIdle then s
  else s.onBeam fun b => { b with records := b.records.map fun r => { r with tried := false } }

/-- What holds from one moment to the next whatever the step: the rules on the brisk timer, the dormant timer and Tried. -/
def follow (s : State) : State := followTried (followDormant (followBrisk s))

/-! ### How a command takes effect -/

/-- The outcome of a command: no link can carry it and it is refused (log 41); or the RESET pin is asserted and the part takes
nothing (R194); or it has no effect (`none`); or it has its effect, and what follows every step follows. -/
def effect (c : Instr) (s : State) (r : State → Option State) : Host.Outcome State Fault Refusal :=
  if c.wf = false then .refused .illFormed
  else if s.pins.reset then .next s
  else match r s with
    | none => .next s
    | some t => .next (follow t)

end Sys2Proof.Machine
end

