-- ==== Sys2Proof/Machine/Fare.lean ====
section
/-! DEFINITION. The Fare Reckoner (chapter 3): a function of the direction, the card image, one reading of the station clock
and the active bank (R52). -/

namespace Sys2Proof.Machine

open Sys2Proof

/-- What a reckoning returns (R52). -/
inductive Reckoning where
  | insufficient (amount : Nat)
  | taken (records : Intended)
  deriving DecidableEq, Repr

/-- R53: the reading of the clock that is "now": Date 0 and Secs 0 while it is UNSET. -/
def Clock.reading (c : Clock) : ServiceTime := if c.state = .unset then ⟨0, 0⟩ else c.time

/-- R54: the class in effect. -/
def classInEffect (i : Image) (today : Nat) : Nat := if i.classExpiry ≠ 0 ∧ i.classExpiry < today then 0 else i.cls

/-- R70: a card whose class in effect is 7 is a staff card. -/
abbrev staffClass : Nat := 7

/-- R55: the index of the band in effect at a seconds value. -/
def BandsSeg.inEffect (b : BandsSeg) (secs : Nat) : Nat :=
  let started := b.bands.countP fun x => decide (x.startSecs ≤ secs)
  if started = 0 then b.bands.length - 1 else started - 1

/-- R62: the factor of the band a card was opened in, the default band's when the bank has no such band. -/
def BandsSeg.factorOf (b : BandsSeg) (entryBand : Nat) : Nat :=
  match b.bands[entryBand]? with
  | some x => x.factor
  | none => match b.bands[b.defaultBand]? with
    | some x => x.factor
    | none => 0

/-- The base fare from an entry group to an exit group (section 4.1). -/
def Bank.baseFare (b : Bank) (entryGroup exitGroup : Nat) : Nat := b.matrix.getD (entryGroup * 32 + exitGroup) 0

/-- The row of a concession class. -/
def Bank.classRow (b : Bank) (k : Nat) : ClassRow := b.classes.getD k ⟨0, 0⟩

/-- The entry's absolute second. -/
def TripEntry.time (e : TripEntry) : ServiceTime := ⟨e.date, e.secs⟩

/-! ### The regular fare (section 3.5) -/

/-- R64, stage 1. -/
def bandStage (base factor : Nat) : Nat := min ((base * factor + 500) / 1000) 65535

/-- R64, stage 2. -/
def classStage (t factor : Nat) : Nat := (t * factor + 500) / 1000

/-- R63: the transfer discount. -/
def transferDiscount (r : RulesSeg) (e : TripEntry) (lastExit : Option ServiceTime) : Nat :=
  match lastExit with
  | some x =>
    if x.absolute ≤ e.time.absolute ∧ e.time.absolute - x.absolute ≤ r.transferWindow then r.transferDiscount else 0
  | none => 0

/-- R65, stage 3: the fare less the discount, never below 0. -/
def transferStage (c d : Nat) : Nat := c - d

/-- R65, stage 4. -/
def stepStage (x step : Nat) : Nat :=
  let r := (x + step / 2) / step * step
  if 65535 < r then 65535 / step * step else r

/-- R66: the effective Daily.Spent. -/
def spentToday (i : Image) (today : Nat) : Nat := if i.dailyDate = today then i.dailySpent else 0

/-- R66, stage 5. -/
def capStage (r cap spent : Nat) : Nat := if cap = 0 then r else if cap ≤ spent then 0 else min r (cap - spent)

/-- R64, R65: stages 1 to 4 for a trip. -/
def steppedFare (b : Bank) (i : Image) (e : TripEntry) (k : Nat) : Nat :=
  stepStage
    (transferStage
      (classStage (bandStage (b.baseFare e.group b.station.fareGroup) (b.bands.factorOf e.band)) (b.classRow k).factor)
      (transferDiscount b.rules e i.lastExit))
    b.rules.fareStep

/-! ### Entry (section 3.3) -/

/-- R56, R70: the charge of an entry. -/
def entryCharge (b : Bank) (i : Image) (k : Nat) : Nat :=
  if i.entry.isNone ∨ k = staffClass then 0 else b.rules.unclosedCharge

/-- R59: the journal record contents of an entry, the PENALTY before the ENTRY. -/
def entryContents (b : Bank) (i : Image) (charge : Nat) (stale : Bool) : List Content :=
  let entry : Content :=
    { kind := .entry, direction := some .inbound, cardId := some i.cardId, fare := some 0, fareKind := some .regular
      entryGroup := some b.station.fareGroup, bankTag := some b.tag, stale := stale }
  match i.entry with
  | none => [entry]
  | some e =>
    [{ kind := .penalty, direction := some .inbound, cardId := some i.cardId, fare := some charge
       fareKind := some .unclosed, entryGroup := some e.group, exitGroup := some b.station.fareGroup
       bankTag := some b.tag, stale := stale }, entry]

/-- R57: the balance after the charge does not let the entry be taken. -/
def entryRefused (b : Bank) (k : Nat) (after : Int) : Bool :=
  (decide (k ≠ staffClass) && decide (after < b.rules.minEntryBalance)) || decide (after < -(b.rules.overdraft : Int))

/-- R56 to R59, R70: the reckoning of an entry. -/
def reckonEntry (b : Bank) (i : Image) (c : Clock) : Reckoning :=
  let now := c.reading
  let stale := c.state != .good
  let k := classInEffect i now.date
  let charge := entryCharge b i k
  let after := i.balance - charge
  if entryRefused b k after then .insufficient charge
  else .taken
    { balance := after
      entry := some ⟨b.station.stationCode, b.station.fareGroup, now.date, now.secs,
        if c.state = .good then b.bands.inEffect now.secs else b.bands.defaultBand⟩
      lastExit := i.lastExit
      dailyDate := i.dailyDate
      dailySpent := i.dailySpent
      amount := charge
      fareKind := if i.entry.isNone then .regular else .unclosed
      cls := k
      contents := entryContents b i charge stale
      bankTag := b.tag }

/-! ### Exit (section 3.4) -/

/-- R60: the fare kind of an exit. -/
def exitKind (b : Bank) (i : Image) (now : ServiceTime) : FareKind :=
  match i.entry with
  | none => .unverified
  | some e =>
    if b.rules.maxTrip < elapsedSince now e.time then .overstay
    else if e.station = b.station.stationCode ∧ elapsedSince now e.time ≤ b.rules.sameStationWindow then .sameStation
    else .regular

/-- R60, R61, R66, R70: the amount of an exit. -/
def exitAmount (b : Bank) (i : Image) (now : ServiceTime) (k : Nat) : Nat :=
  if k = staffClass then 0
  else match exitKind b i now with
    | .unverified | .overstay => b.rules.maxFare
    | .sameStation => b.rules.sameStationCharge
    | .unclosed => 0
    | .regular => match i.entry with
      | some e => capStage (steppedFare b i e k) (b.classRow k).cap (spentToday i now.date)
      | none => 0

/-- R60 to R70: the reckoning of an exit. -/
def reckonExit (b : Bank) (i : Image) (c : Clock) : Reckoning :=
  let now := c.reading
  let stale := c.state != .good
  let k := classInEffect i now.date
  let kind := exitKind b i now
  let fare := exitAmount b i now k
  let after := i.balance - fare
  if after < -(b.rules.overdraft : Int) then .insufficient fare
  else .taken
    { balance := after
      entry := none
      lastExit := some now
      dailyDate := if kind = .regular then now.date else i.dailyDate
      dailySpent := if kind = .regular then min 65535 (spentToday i now.date + fare) else i.dailySpent
      amount := fare
      fareKind := kind
      cls := k
      contents :=
        [{ kind := .exit, direction := some .outbound, cardId := some i.cardId, fare := some fare, fareKind := some kind
           entryGroup := i.entry.map TripEntry.group, exitGroup := some b.station.fareGroup, bankTag := some b.tag
           stale := stale }]
      bankTag := b.tag }

/-- R52: the reckoning for a direction. -/
def reckon (d : Direction) (b : Bank) (i : Image) (c : Clock) : Reckoning :=
  match d with
  | .inbound => reckonEntry b i c
  | .outbound => reckonExit b i c

end Sys2Proof.Machine
end

