-- ==== Sys2Proof/Machine/Flags.lean ====
section
/-! DEFINITION. The sticky flags (section 10.3, R188): one operation for each flag's setting, and the clearing by a QUERY. The
FH-640 has no arithmetic flags. -/

namespace Sys2Proof.Machine

/-- R165: a frame that found no buffer. -/
def setOverrun (s : State) : State := s.onMgmt fun m => { m with flags := { m.flags with overrun := true } }

/-- R177: a SIGHT, SUSPECT or EVENT frame that found no local place. -/
def setSendDrop (s : State) : State := s.onMgmt fun m => { m with flags := { m.flags with sendDrop := true } }

/-- R30: a LOCAL or PEER deny entry that found the list full. -/
def setDenyFull (s : State) : State := s.onMgmt fun m => { m with flags := { m.flags with denyFull := true } }

/-- R145: a tally step dropped from a full queue. -/
def setTallyOverflow (s : State) : State := s.onMgmt fun m => { m with flags := { m.flags with tallyOverflow := true } }

/-- R154: a reserve record dropped for want of a slot. -/
def setJournalOverflow (s : State) : State := s.onJournal fun j => { j with overflow := true }

/-- R188: every flag is made CLEAR, by a QUERY's snapshot and by a reset. -/
def clearFlags (s : State) : State :=
  (s.onMgmt fun m => { m with flags := {} }).onJournal fun j => { j with overflow := false }

end Sys2Proof.Machine
end

