-- ==== Sys2Proof/Machine/Formats.lean ====
section
/-! DEFINITION. The bytes a bus partner sees (chapter 11): the check, the codes of named values, and the layouts of what the
part sends. What the part receives is read in Machine/Operands.lean. -/

namespace Sys2Proof.Machine

open Sys2Proof

/-! ### Encoding (R200) -/

/-- A number in `n` bytes, most significant byte first. -/
def be : Nat → Nat → List Byte
  | 0, _ => []
  | n + 1, v => byte (v / 256 ^ n) :: be n v

/-- A signed number in `n` bytes in two's complement, most significant byte first. -/
def beSigned (n : Nat) (v : Int) : List Byte := be n (v % (256 ^ n : Int)).toNat

/-- The number that bytes hold, most significant byte first. -/
def ofBe (bytes : List Byte) : Nat := bytes.foldl (fun acc b => acc * 256 + b.toNat) 0

/-- The signed number that bytes hold in two's complement. -/
def ofBeSigned (bytes : List Byte) : Int :=
  let v := ofBe bytes
  if v < 256 ^ bytes.length / 2 then (v : Int) else (v : Int) - (256 ^ bytes.length : Nat)

/-- One bit of the CRC: generator x^16 + x^12 + x^5 + 1. -/
def crcBit (c : Nat) : Nat := if c < 32768 then 2 * c else (2 * c - 65536) ^^^ 4129

/-- `n` bits of the CRC. -/
def crcBits : Nat → Nat → Nat
  | 0, c => c
  | n + 1, c => crcBits n (crcBit c)

/-- The 16-bit check of R200: it starts from all ones and takes each byte most significant bit first. -/
def crc16 (bytes : List Byte) : Nat := bytes.foldl (fun c b => crcBits 8 (c ^^^ (b.toNat * 256))) 65535

/-- Bytes followed by their check. -/
def withCheck (bytes : List Byte) : List Byte := bytes ++ be 2 (crc16 bytes)

/-- What a received message carries before its check, when the check is good. -/
def checked (message : List Byte) : Option (List Byte) :=
  let body := message.take (message.length - 2)
  if 2 ≤ message.length ∧ message.drop (message.length - 2) = be 2 (crc16 body) then some body else none

/-- The bits of a list, the first the least significant. -/
def bitsValue : List Bool → Nat
  | [] => 0
  | b :: bs => (if b then 1 else 0) + 2 * bitsValue bs

/-! ### Codes of named values: the position in the list where the item is defined (R200) -/

/-- Direction: IN 0, OUT 1, none 2. -/
def directionCode : Option Direction → Nat
  | some .inbound => 0
  | some .outbound => 1
  | none => 2

/-- Lane.Grant: NONE 0, IN 1, OUT 2. -/
def grantCode : Option Direction → Nat
  | none => 0
  | some .inbound => 1
  | some .outbound => 2

/-- SET 0, CLEAR 1. -/
def setCode (set : Bool) : Nat := if set then 0 else 1

/-- UP 0, DOWN 1; ASSERTED 0, RELEASED 1; CONNECTED 0, ISOLATED 1: a pair whose first value the flag means. -/
def firstCode (first : Bool) : Nat := if first then 0 else 1

/-- NO 0, YES 1. -/
def yesCode (yes : Bool) : Nat := if yes then 1 else 0

/-- Mgmt.Clock's state: UNSET, GOOD, STALE. -/
def ClockState.code : ClockState → Nat
  | .unset => 0 | .good => 1 | .stale => 2

/-- Fare kinds (section 2.5). -/
def FareKind.code : FareKind → Nat
  | .regular => 0 | .unclosed => 1 | .unverified => 2 | .overstay => 3 | .sameStation => 4

/-- Refusal codes: the row of their table. -/
def RefusalCode.code : RefusalCode → Nat
  | .malformed => 0 | .exhausted => 1 | .noTariff => 2 | .denied => 3 | .blocked => 4 | .proofFail => 5
  | .proofUnavailable => 6 | .clone => 7 | .alreadyIn => 8 | .alreadyOut => 9 | .laneClosed => 10 | .laneDirection => 11
  | .laneBusy => 12 | .journalFull => 13 | .insufficient => 14 | .cardChanged => 15

/-- Outcome codes of SHOW (section 11.3). -/
def OutcomeCode.code : OutcomeCode → Nat
  | .accepted => 0 | .seeAgent => 1 | .oneCard => 2 | .tryAgain => 3
  | .refused c => 4 + c.code

/-- Journal kinds: the row of the table of R148. -/
def RecordKind.code : RecordKind → Nat
  | .entry => 0 | .penalty => 1 | .exit => 2 | .refusal => 3 | .regrant => 4 | .recovered => 5 | .tornUnresolved => 6
  | .clone => 7 | .lapse => 8 | .tailgate => 9 | .intrusion => 10 | .mode => 11 | .fault => 12

/-- Lane.Mode.Eff, whose first four values are Lane.Mode.Cmd's. -/
def Mode.code : Mode → Nat
  | .normal => 0 | .entryOnly => 1 | .exitOnly => 2 | .closed => 3 | .freeExit => 4 | .fault => 5

/-- Reasons of a TORN_UNRESOLVED record. -/
def UnresolvedReason.code : UnresolvedReason → Nat
  | .expired => 0 | .displaced => 1 | .conflict => 2

/-- Reasons of a CLONE record. -/
def CloneReason.code : CloneReason → Nat
  | .inFlight => 0 | .counterBehind => 1 | .balanceConflict => 2 | .sightConflict => 3 | .confirmConflict => 4

/-- Reasons of a LAPSE record. -/
def LapseReason.code : LapseReason → Nat
  | .lifetime => 0 | .wait => 1 | .flush => 2

/-- Reasons of an INTRUSION record. -/
def IntrusionReason.code : IntrusionReason → Nat
  | .noCredit => 0 | .counterflow => 1 | .anomaly => 2

/-- Reasons of a FAULT record. -/
def FaultReason.code : FaultReason → Nat
  | .sensorSilent => 0 | .beamTrim => 1 | .flapJam => 2

/-- The Reason of a journal record, within the list its Kind gives (R200). -/
def Reason.code : Reason → Nat
  | .refusal c => c.code
  | .unresolved r => r.code
  | .clone r => r.code
  | .lapse r => r.code
  | .intrusion r => r.code
  | .mode m => m.code
  | .fault r => r.code

/-- Dialog states (section 1.2). -/
def DialogState.code : DialogState → Nat
  | .idle => 0 | .sensing => 1 | .reading => 2 | .proving => 3 | .checking => 4 | .judging => 5 | .reckoning => 6
  | .committing => 7 | .confirming => 8 | .marking => 9 | .holding => 10

/-- Deny reasons (section 2.2). -/
def DenyReason.code : DenyReason → Nat
  | .lost => 0 | .stolen => 1 | .clone => 2 | .fraud => 3 | .other => 4

/-- Sighting kinds (section 2.3). -/
def SightKind.code : SightKind → Nat
  | .entered => 0 | .exited => 1 | .lapsedIn => 2 | .lapsedOut => 3 | .torn => 4

/-- Beam states (section 5.2). -/
def BeamState.code : BeamState → Nat
  | .clear => 0 | .blocked => 1 | .trimming => 2 | .fault => 3

/-- Credit kinds (section 6.1). -/
def CreditKind.code : CreditKind → Nat
  | .fare => 0 | .regrant => 1 | .recovered => 2 | .staff => 3

/-- Lane.Flap (section 6.5). -/
def Flap.code : Flap → Nat
  | .closed => 0 | .opening => 1 | .opened => 2 | .closing => 3 | .jammed => 4

/-- Lane.JamMotion (section 6.5). -/
def Motion.code : Motion → Nat
  | .towardOpen => 0 | .towardClosed => 1

/-- Lane.Tempo (section 7.5). -/
def Tempo.code : Tempo → Nat
  | .brisk => 0 | .steady => 1 | .dormant => 2

/-- Tariff.StageState (section 4.2). -/
def StageState.code : StageState → Nat
  | .closed => 0 | .opened => 1 | .complete => 2

/-- Tariff.Switch (section 4.3). -/
def SwitchState.code : SwitchState → Nat
  | .none => 0 | .waiting => 1 | .due => 2

/-- Reply statuses: the row of the table of R184. -/
def Status.code : Status → Nat
  | .done => 0 | .clamped => 1 | .refusedState => 2 | .refusedValue => 3 | .full => 4 | .absent => 5 | .incomplete => 6
  | .badCheck => 7 | .unknown => 8

/-! ### The journal record (section 11.4) -/

/-- A service time: Date in 2 bytes, Secs in 3. -/
def ServiceTime.bytes (t : ServiceTime) : List Byte := be 2 t.date ++ be 3 t.secs

/-- The bytes of an optional field: none when it is absent. -/
def optionBytes {α : Type} (f : α → List Byte) : Option α → List Byte
  | some x => f x
  | none => []

/-- The presence word of a record's optional fields, in the order of section 11.4. -/
def Content.presence (c : Content) : Nat :=
  bitsValue [c.cardId.isSome, c.fare.isSome, c.fareKind.isSome, c.balanceAfter.isSome, c.counterAfter.isSome,
    c.reason.isSome, c.entryGroup.isSome, c.exitGroup.isSome, c.bankTag.isSome, c.count.isSome]

/-- The optional fields of a record, in the order of their presence bits. -/
def Content.fieldBytes (c : Content) : List Byte :=
  optionBytes (be 5) c.cardId ++ optionBytes (be 2) c.fare ++ optionBytes (fun k => be 1 (FareKind.code k)) c.fareKind
    ++ optionBytes (beSigned 3) c.balanceAfter ++ optionBytes (be 2) c.counterAfter
    ++ optionBytes (fun r => be 1 (Reason.code r)) c.reason ++ optionBytes (be 1) c.entryGroup
    ++ optionBytes (be 1) c.exitGroup ++ optionBytes (be 4) c.bankTag ++ optionBytes (be 2) c.count

/-- A journal record as COLLECT carries it. -/
def Record.bytes (r : Record) : List Byte :=
  be 4 r.seq ++ r.time.bytes ++ be 1 r.content.kind.code ++ be 1 (directionCode r.content.direction)
    ++ be 1 (bitsValue [r.isolated, r.stale]) ++ be 2 r.content.presence ++ r.content.fieldBytes

/-! ### Events (R196) -/

/-- The event kinds with their contents. A BEAM_FAULT names the beam 1 to 6, or 0 for the sensor port (section 11.2). -/
inductive Event where
  | clone (cardId : Nat) (reason : CloneReason) (direction : Option Direction)
  | intrusion (direction : Option Direction) (reason : IntrusionReason)
  | tailgate (direction : Direction) (cardId : Nat)
  | beamFault (beam : Nat)
  | flapFault (motion : Motion)
  | modeChange (left new : Mode) (count : Nat)
  | journalHigh (recordCount oldestSeq : Nat)
  | journalFull (recordCount held oldestSeq : Nat)
  | tornUnresolved (cardId : Nat) (direction : Direction) (fare : Nat) (fareKind : FareKind) (reason : UnresolvedReason)
  | bankActive (bankTag : Nat)
  | emergencyOn
  | emergencyOff
  deriving DecidableEq, Repr

/-- An event's kind: its row in the table of R196, which is also its bit in Mgmt.EventMask. -/
def Event.row : Event → Nat
  | .clone .. => 0 | .intrusion .. => 1 | .tailgate .. => 2 | .beamFault .. => 3 | .flapFault .. => 4
  | .modeChange .. => 5 | .journalHigh .. => 6 | .journalFull .. => 7 | .tornUnresolved .. => 8 | .bankActive .. => 9
  | .emergencyOn => 10 | .emergencyOff => 11

/-- An event's contents in the order of the table of R196. -/
def Event.contents : Event → List Byte
  | .clone c r d => be 5 c ++ be 1 r.code ++ be 1 (directionCode d)
  | .intrusion d r => be 1 (directionCode d) ++ be 1 r.code
  | .tailgate d c => be 1 (directionCode (some d)) ++ be 5 c
  | .beamFault b => be 1 b
  | .flapFault m => be 1 m.code
  | .modeChange l n c => be 1 l.code ++ be 1 n.code ++ be 2 c
  | .journalHigh n q => be 2 n ++ be 4 q
  | .journalFull n h q => be 2 n ++ be 1 h ++ be 4 q
  | .tornUnresolved c d f k r =>
    be 5 c ++ be 1 (directionCode (some d)) ++ be 2 f ++ be 1 (FareKind.code k) ++ be 1 (UnresolvedReason.code r)
  | .bankActive t => be 4 t
  | .emergencyOn => []
  | .emergencyOff => []

/-! ### Frames (section 11.2) -/

/-- The Kind code of a REPLY. -/
abbrev kindReply : Byte := 16
/-- The Kind code of an EVENT. -/
abbrev kindEvent : Byte := 17
/-- The Kind code of a SIGHT. -/
abbrev kindSight : Byte := 18
/-- The Kind code of a SUSPECT. -/
abbrev kindSuspect : Byte := 19
/-- Dest 63: all gates. -/
abbrev broadcastDest : Byte := 63

/-- A frame between its marks: header, payload and Check. -/
def Frame.bytes (f : Frame) : List Byte :=
  withCheck ([f.kind, f.dest, f.src, byte f.hops, byte f.payload.length] ++ f.payload)

/-- The EVENT frame's payload. -/
def eventPayload (number : Nat) (clock : Clock) (stamp : ServiceTime) (e : Event) : List Byte :=
  be 2 number ++ be 1 e.row ++ stamp.bytes ++ be 1 clock.state.code ++ e.contents

/-- The SIGHT frame's payload. -/
def sightPayload (r : Sighting) : List Byte :=
  be 5 r.cardId ++ be 2 r.counter ++ beSigned 3 r.balance ++ be 1 r.kind.code ++ be 1 r.gate ++ r.time.bytes

/-- The SUSPECT frame's payload, with Reason CLONE (R48). -/
def suspectPayload (cardId gate : Nat) (time : ServiceTime) : List Byte :=
  be 5 cardId ++ be 1 (DenyReason.code .clone) ++ be 1 gate ++ time.bytes

/-- One direction's group of the QUERY reply: the head credit's fields follow only when the count is not 0. -/
def CreditReport.bytes (r : CreditReport) : List Byte :=
  be 1 r.queued ++ be 1 r.reserved ++ be 4 r.counts.granted ++ be 4 r.counts.consumed ++ be 4 r.counts.lapsed
    ++ optionBytes (fun (c : Credit) => be 2 c.number ++ be 1 (CreditKind.code c.kind) ++ be 5 c.cardId
        ++ c.granted.bytes ++ be 2 c.life) r.head

/-- The QUERY reply's contents, in the order of the table of R187. DESIGN CHOICE (log 54): of a pair that the table does not order, up
stands before down and IN before OUT; the beams stand B1 first. -/
def Snapshot.bytes (q : Snapshot) : List Byte :=
  be 1 q.address ++ be 1 (firstCode q.connected) ++ be 1 (firstCode q.link.up) ++ be 1 (firstCode q.link.down)
    ++ be 1 (firstCode q.holdOut.up) ++ be 1 (firstCode q.holdOut.down) ++ be 1 q.freeBuffers ++ be 1 q.fromUp
    ++ be 1 q.fromDown ++ be 1 q.own
    ++ q.clock.time.bytes ++ be 1 q.clock.state.code ++ be 1 (setCode q.freshStart) ++ be 1 (setCode q.restartPending)
    ++ be 2 q.eventNo
    ++ be 1 q.cmd.code ++ be 1 q.eff.code ++ be 1 (firstCode q.emergency) ++ be 1 q.faultBeams ++ be 1 (grantCode q.grant)
    ++ be 1 q.flap.code ++ be 1 (setCode q.flapJam) ++ be 1 q.tempo.code ++ be 2 q.freeCount ++ be 1 q.tallySteps
    ++ q.credits.inbound.bytes ++ q.credits.outbound.bytes
    ++ be 1 q.dialogs.a.code ++ be 1 q.dialogs.b.code
    ++ (q.beams.toList.map fun b => byte b.code) ++ be 1 (yesCode q.silent)
    ++ be 2 q.denyEntries ++ be 2 q.sightingRecords ++ be 1 q.recoveryEntries
    ++ be 4 q.activeTag ++ be 1 q.stageState.code ++ be 4 q.stageTag ++ be 2 (bitsValue q.segmentMap)
    ++ be 1 q.switch.code ++ be 1 (yesCode q.switchAt.isSome) ++ optionBytes ServiceTime.bytes q.switchAt
    ++ be 2 q.recordCount ++ be 4 q.oldestSeq ++ be 2 q.journalFree ++ be 1 q.journalHeld
    ++ be 1 (setCode q.flags.overrun) ++ be 1 (setCode q.flags.sendDrop) ++ be 1 (setCode q.flags.denyFull)
    ++ be 1 (setCode q.flags.tallyOverflow) ++ be 1 (setCode q.overflow)

/-- What a REPLY carries after its status (section 11.2). -/
def ReplyContents.bytes : ReplyContents → List Byte
  | .nothing => []
  | .set values => be 1 values.length ++ values.flatMap fun e => e.1 :: beSigned 4 e.2
  | .query q => q.bytes
  | .collect n oldest next free records =>
    be 2 n ++ be 4 oldest ++ be 4 next ++ be 2 free ++ be 1 records.length ++ records.flatMap Record.bytes
  | .trim removed n oldest => be 2 removed ++ be 2 n ++ be 4 oldest
  | .laneMode cmd eff => be 1 cmd.code ++ be 1 eff.code

/-- A REPLY's payload. -/
def Reply.payload (r : Reply) : List Byte := [r.kind, r.tag, byte r.status.code] ++ r.contents.bytes

/-- The frame built in a held buffer, with the address at that moment as Src (R170, R176). An ENUM-END with OVERFLOW set is
made by a gate that has just become unassigned, whose Src is 0 by the same rule. -/
def HeldContent.frame (address : Nat) : HeldContent → Frame
  | .reply r => ⟨kindReply, 0, byte address, 0, r.payload⟩
  | .enumerate n => ⟨0, broadcastDest, byte address, 0, [n]⟩
  | .enumEnd n overflow => ⟨1, 0, byte address, 0, [n, byte (yesCode overflow)]⟩

/-! ### Card ports (section 11.3), proof port (11.6), lane sensor port (11.7) -/

/-- Verb codes: the row of the table of section 1.1. -/
def Verb.code : Verb → Nat
  | .sense => 0 | .read _ => 1 | .prove _ _ => 2 | .commit .. => 3 | .mark _ => 4

/-- The verb code of what an outstanding verb is for. -/
def Purpose.code : Purpose → Nat
  | .sense => 0 | .read => 1 | .prove => 2 | .commit => 3 | .mark => 4 | .confirmRead => 1 | .reissue => 3

/-- Presence byte, Trip.State, entry fields and last exit, as the card image and COMMIT carry them. -/
def tripBytes (entry : Option TripEntry) (lastExit : Option ServiceTime) : List Byte :=
  be 1 (bitsValue [entry.isSome, lastExit.isSome]) ++ be 1 (yesCode entry.isSome)
    ++ optionBytes (fun (e : TripEntry) => be 2 e.station ++ be 1 e.group ++ be 2 e.date ++ be 3 e.secs ++ be 1 e.band) entry
    ++ optionBytes ServiceTime.bytes lastExit

/-- The fields a verb carries after its code and Tag. -/
def Verb.fields : Verb → List Byte
  | .sense => []
  | .read c => be 5 c
  | .prove c h => be 5 c ++ be 8 h.toNat
  | .commit c expected balance entry lastExit dd ds =>
    be 5 c ++ be 2 expected ++ beSigned 3 balance ++ tripBytes entry lastExit ++ be 2 dd ++ be 2 ds
  | .mark c => be 5 c

/-- A card image as a READ answer carries it. -/
def Image.bytes (i : Image) : List Byte :=
  be 5 i.cardId ++ be 1 i.keyGen ++ be 1 i.cls ++ be 2 i.classExpiry ++ be 1 (firstCode (i.status == .active))
    ++ beSigned 3 i.balance ++ be 2 i.counter ++ tripBytes i.entry i.lastExit ++ be 2 i.dailyDate ++ be 2 i.dailySpent

/-- R164, R181: what has gone out of a frame cut off in transmission. DESIGN CHOICE: its first bytes, never all of them, as many as a
free value says (log 53). -/
def Frame.cutOffBytes (f : Frame) : List Byte := f.bytes.take (Config.bytesGoneOut f.bytes % f.bytes.length)

/-- The bytes of a message the part has sent. -/
def Sent.bytes : Sent → List Byte
  | .verb _ tag v => withCheck ([byte v.code, byte tag] ++ v.fields)
  | .display _ tag w => withCheck ([5, byte tag, byte w.outcome.code, byte (bitsValue [w.amount.isSome, w.balance.isSome])]
      ++ optionBytes (be 2) w.amount ++ optionBytes (beSigned 3) w.balance)
  | .check tag r => withCheck ([byte tag] ++ be 5 r.cardId ++ be 1 r.keyGen ++ be 8 r.challenge.toNat ++ be 8 r.proof.toNat)
  | .sample tag => withCheck [0, byte tag]
  | .drive beam step => withCheck [1, byte beam, byte step]
  | .frame _ f => f.bytes
  | .cutOff _ f => f.cutOffBytes

end Sys2Proof.Machine
end

