-- ==== Sys2Proof/Machine/Sending.lean ====
section
/-! DEFINITION. The buffer pool and what the part makes for the line: the quota counts and HOLD outputs (R172, R173), the
conversion of held entries (R176), the copies of SIGHT and SUSPECT and the EVENT frames (R177, R195). -/

namespace Sys2Proof.Machine

open Sys2Proof

/-! ### The buffer pool (section 9.4) -/

/-- The buffers that hold a whole frame in a queue or in transmission. -/
def LineIf.buffered (l : LineIf) : List Buffered :=
  l.relayQ.up ++ l.relayQ.down ++ l.localQ.up ++ l.localQ.down ++ l.tx.up.toList ++ l.tx.down.toList

/-- The buffers in reception on a port or held from it. -/
def LineIf.arrived (l : LineIf) : Quota → Nat
  | .port p => (if l.receiving.get p then 1 else 0) + l.held.countP (fun h => h.source == p)
  | .own => 0

/-- Line.FromUp, Line.FromDown and Line.Local: the buffers counted against a quota (R172). -/
def LineIf.count (l : LineIf) (q : Quota) : Nat := l.arrived q + l.buffered.countP (fun b => b.quota == q)

/-- The number of free buffers. -/
def LineIf.free (l : LineIf) : Nat :=
  Config.bufferCount - (l.count (.port .up) + l.count (.port .down) + l.count .own)

/-- R173: the level of a HOLD output for a count: asserted from 8, released to 5, kept between. -/
def holdLevel (count : Nat) (now : Bool) : Bool :=
  if Config.holdAssert ≤ count then true else if count ≤ Config.holdRelease then false else now

/-- R173: both HOLD outputs set from their counts. -/
def LineIf.setHold (l : LineIf) : LineIf :=
  { l with holdOut := ⟨holdLevel (l.count (.port .up)) l.holdOut.up, holdLevel (l.count (.port .down)) l.holdOut.down⟩ }

/-- A change of the buffers' places, after which the HOLD outputs are set (R173). -/
def State.onBuffers (f : LineIf → LineIf) (s : State) : State := s.onLine fun l => (f l).setHold

/-! ### Held entries (R176) -/

/-- A held entry is converted: its frame is built in its buffer and joins the tail of the local queue of its port. -/
def LineIf.convertHead (l : LineIf) : LineIf :=
  match l.held with
  | [] => l
  | h :: rest =>
    { l with
      held := rest
      localQ := l.localQ.put h.bound
        (l.localQ.get h.bound ++ [⟨h.content.frame l.address, .own, h.restart⟩]) }

/-- R176: the oldest held entry is converted when a local place is free. -/
def convertOne (s : State) : State :=
  if s.line.held ≠ [] ∧ s.line.count .own < Config.localQuota then s.onBuffers LineIf.convertHead else s

/-- R176: held entries are converted while one waits and a local place is free: at most the four places. -/
def convertWaiting (s : State) : State := convertOne (convertOne (convertOne (convertOne s)))

/-! ### What the part makes (R177, R195) -/

/-- R177: one copy of a frame for one port: none while its link is DOWN; dropped, with SEND_DROP set, when no local place is
free. A held entry that waits takes a free place before the request does (R176). -/
def sendCopy (p : LinePort) (f : Frame) (s : State) : State :=
  if s.line.link.get p = false then s
  else
    let t := convertWaiting s
    if t.line.count .own < Config.localQuota then
      t.onBuffers fun l => { l with localQ := l.localQ.put p (l.localQ.get p ++ [⟨f, .own, false⟩]) }
    else setSendDrop t

/-- R177: a SIGHT or SUSPECT is broadcast: the copy for the up port first, the copy for the down port second. -/
def broadcast (kind : Byte) (payload : List Byte) (s : State) : State :=
  let f : Frame := ⟨kind, broadcastDest, byte s.line.address, s.params.sightHops, payload⟩
  sendCopy .down f (sendCopy .up f s)

/-- R195: a block asks for an event: nothing while its kind is OFF; otherwise it takes Mgmt.EventNo, and the EVENT frame is
asked for. -/
def event (e : Event) (s : State) : State :=
  if s.params.eventMask.getLsbD e.row then
    let number := s.mgmt.eventNo
    let t := s.onMgmt fun m => { m with eventNo := (m.eventNo + 1) % 65536 }
    sendCopy .up ⟨kindEvent, 0, byte s.line.address, 0, eventPayload number s.clock s.stamp e⟩ t
  else s

/-- R34: a sighting is handed to the Line Interface Unit to be broadcast in a SIGHT frame. -/
def broadcastSight (r : Sighting) (s : State) : State := broadcast kindSight (sightPayload r) s

/-- R48: a SUSPECT frame with the CardId, Reason CLONE, this part's address and the station clock. -/
def broadcastSuspect (cardId : Nat) (s : State) : State :=
  broadcast kindSuspect (suspectPayload cardId s.line.address s.stamp) s

end Sys2Proof.Machine
end

