-- ==== Sys2Proof/Machine/JournalOps.lean ====
section
/-! DEFINITION. The Passage Journal (chapter 8): its slots, the four ways a record is admitted, and what COLLECT and TRIM
do. -/

namespace Sys2Proof.Machine

open Sys2Proof

/-- Journal.Free (R149). -/
def Journal.free (j : Journal) : Nat := Config.journalCapacity - (j.records.length + j.held + j.reserved)

/-- The Seq of the oldest record, 0 when the journal is empty (R158). -/
def Journal.oldestSeq (j : Journal) : Nat :=
  match j.records with
  | [] => 0
  | r :: _ => r.seq

/-- The successor number of a Seq (section 8.1). -/
def nextSeqOf (q : Nat) : Nat := if q = 4294967295 then 1 else q + 1

/-- R156: a step that has brought Journal.Free from 17 to 16 sends JOURNAL_FULL. -/
def fullEvent (freeBefore : Nat) (s : State) : State :=
  if freeBefore = Config.journalReserve + 1 ∧ s.journal.free = Config.journalReserve then
    event (.journalFull s.journal.records.length s.journal.held s.journal.oldestSeq) s
  else s

/-- R147: the record with the clock's time and its flags, with Journal.NextSeq as its Seq, at the tail. -/
def Journal.append (c : Content) (time : ServiceTime) (isolated stale : Bool) (j : Journal) : Journal :=
  { j with
    records := j.records ++ [⟨j.nextSeq, time, isolated, stale || c.stale, c⟩]
    nextSeq := nextSeqOf j.nextSeq }

/-- R147, R155, R156: a record is appended, after `take` has freed the place it fills; JOURNAL_HIGH when the count reaches
the mark, JOURNAL_FULL when the free count falls from 17 to 16, in that order (log 34). -/
def appendRecord (take : Journal → Journal) (c : Content) (s : State) : State :=
  let free := s.journal.free
  let t := s.onJournal fun j =>
    (take j).append c s.stamp (!s.line.connected) (s.clock.state != .good)
  let u :=
    if t.journal.records.length = s.params.highWater then
      event (.journalHigh t.journal.records.length t.journal.oldestSeq) t
    else t
  fullEvent free u

/-- R150: a reserved slot is filled. -/
def appendReserved (c : Content) (s : State) : State := appendRecord (fun j => { j with reserved := j.reserved - 1 }) c s

/-- R151: a held slot is filled by its final record. -/
def appendHeld (c : Content) (s : State) : State := appendRecord (fun j => { j with held := j.held - 1 }) c s

/-- R153: an open refusal is appended when more than 16 slots are free; otherwise nothing is written or changed. -/
def appendOpenRefusal (c : Content) (s : State) : State :=
  if Config.journalReserve < s.journal.free then appendRecord id c s else s

/-- R154: a reserve record is appended when a slot is free, and otherwise dropped with JOURNAL_OVERFLOW set. -/
def appendReserve (c : Content) (s : State) : State :=
  if 1 ≤ s.journal.free then appendRecord id c s else setJournalOverflow s

/-- R150: a slot is reserved. -/
def reserveJournal (s : State) : State :=
  fullEvent s.journal.free (s.onJournal fun j => { j with reserved := j.reserved + 1 })

/-- R150: reserved slots are released. -/
def releaseJournal (n : Nat) (s : State) : State := s.onJournal fun j => { j with reserved := j.reserved - n }

/-- R151: a reserved slot becomes a held slot. -/
def holdSlot (s : State) : State := s.onJournal fun j => { j with reserved := j.reserved - 1, held := j.held + 1 }

/-- R151: a held slot is released unused. -/
def releaseHeld (s : State) : State := s.onJournal fun j => { j with held := j.held - 1 }

/-! ### Collection (section 8.5) -/

/-- R158: the oldest records that fit, up to `k` of them, within `room` bytes. -/
def copyRecords : Nat → Nat → List Record → List Record
  | 0, _, _ => []
  | _ + 1, _, [] => []
  | k + 1, room, r :: rs =>
    if r.bytes.length ≤ room then r :: copyRecords k (room - r.bytes.length) rs else []

/-- R158: what COLLECT copies into its reply: 240 bytes of payload less 16 of fixed part leave 224 for records. -/
def Journal.collect (k : Nat) (j : Journal) : ReplyContents :=
  .collect j.records.length j.oldestSeq j.nextSeq j.free (copyRecords k 224 j.records)

/-- R159: the oldest min(n, count) records are removed. -/
def Journal.trim (n : Nat) (j : Journal) : Journal := { j with records := j.records.drop n }

end Sys2Proof.Machine
end

