-- ==== Sys2Proof/Machine/Operands.lean ====
section
/-! DEFINITION. Every form of operand the part receives, read from its bytes: card images and answers of verbs, the key
module's answer, sample sets, frames, the payload of every line command; and the table of parameters that SET names. -/

namespace Sys2Proof.Machine

open Sys2Proof

/-- The number in the `n` bytes that start at place `i`. -/
def fieldAt (bytes : List Byte) (i n : Nat) : Nat := ofBe ((bytes.drop i).take n)

/-! ### The card image (sections 1.1 and 11.3) -/

/-- The CardId an image carries, when it is long enough to carry one. -/
def imageCardId (b : List Byte) : Option Nat := if 5 ≤ b.length then some (fieldAt b 0 5) else none

/-- The length that an image's presence byte gives it (R200). -/
def imageLength (presence : Nat) : Nat :=
  21 + (if presence % 2 = 1 then 9 else 0) + (if presence / 2 % 2 = 1 then 5 else 0)

/-- The fields of an image in their places, without their ranges: none when bytes are missing or out of place. -/
def imageFields (b : List Byte) : Option Image :=
  let presence := fieldAt b 15 1
  let after := 17 + (if presence % 2 = 1 then 9 else 0)
  let daily := imageLength presence - 4
  if b.length < 21 ∨ 3 < presence ∨ b.length ≠ imageLength presence then none
  else if 1 < fieldAt b 9 1 ∨ 1 < fieldAt b 16 1 then none
  else if fieldAt b 16 1 = 1 ∧ presence % 2 = 0 then none
  else some
    { cardId := fieldAt b 0 5
      keyGen := fieldAt b 5 1
      cls := fieldAt b 6 1
      classExpiry := fieldAt b 7 2
      status := if fieldAt b 9 1 = 0 then .active else .blocked
      balance := ofBeSigned ((b.drop 10).take 3)
      counter := fieldAt b 13 2
      entry := if fieldAt b 16 1 = 1 then
          some ⟨fieldAt b 17 2, fieldAt b 19 1, fieldAt b 20 2, fieldAt b 22 3, fieldAt b 25 1⟩
        else none
      lastExit := if presence / 2 % 2 = 1 then some ⟨fieldAt b after 2, fieldAt b (after + 2) 3⟩ else none
      dailyDate := fieldAt b daily 2
      dailySpent := fieldAt b (daily + 2) 2 }

/-- The ranges of the trip's entry fields (the card image table). -/
def TripEntry.inRange (e : TripEntry) : Bool :=
  decide (e.station ≤ 4095) && decide (e.group ≤ 31) && decide (e.date ≤ 65535) && decide (e.secs ≤ 86399) && decide (e.band ≤ 3)

/-- A service time's ranges. -/
def ServiceTime.inRange (t : ServiceTime) : Bool := decide (t.date ≤ 65535) && decide (t.secs ≤ 86399)

/-- A CardId that names a card: 1 to 2^40 − 2. -/
def namesCard (cardId : Nat) : Bool := decide (0 < cardId) && decide (cardId < Config.noCard)

/-- The ranges of the card image table. -/
def Image.inRange (i : Image) : Bool :=
  namesCard i.cardId && decide (i.keyGen ≤ 15) && decide (i.cls ≤ 7) && decide (i.classExpiry ≤ 65535)
    && decide (-50000 ≤ i.balance) && decide (i.balance ≤ 500000) && decide (i.counter ≤ 65535)
    && i.entry.all TripEntry.inRange && i.lastExit.all ServiceTime.inRange
    && decide (i.dailyDate ≤ 65535) && decide (i.dailySpent ≤ 65535)

/-- R7, test 1: a well-formed image, none for a MALFORMED one. Entry fields present while Trip.State is NONE are
disregarded. -/
def parseImage (b : List Byte) : Option Image :=
  match imageFields b with
  | some i => if i.inRange then some i else none
  | none => none

/-! ### Answers of verbs (section 11.3) -/

/-- The ending byte of an answer, with what an ANSWERED answer carries. -/
inductive Ending where
  | answered (contents : List Byte)
  | fieldLost
  | garbled
  deriving DecidableEq, Repr

/-- An answer: its verb code, its Tag and its ending. A message whose check fails, or that has no ending of section 11.3, is
none: it is discarded (log 8). -/
def parseAnswer (message : List Byte) : Option (Nat × Nat × Ending) :=
  match checked message with
  | some (code :: tag :: ending :: rest) =>
    match ending.toNat, rest with
    | 0, _ => some (code.toNat, tag.toNat, .answered rest)
    | 1, [] => some (code.toNat, tag.toNat, .fieldLost)
    | 2, [] => some (code.toNat, tag.toNat, .garbled)
    | _, _ => none
  | _ => none

/-- The results of SENSE. -/
inductive SenseResult where
  | card (cardId : Nat)
  | noCard
  | clash
  deriving DecidableEq, Repr

/-- The contents of a SENSE answer. -/
def parseSense (b : List Byte) : Option SenseResult :=
  match b with
  | [] => none
  | r :: rest =>
    match r.toNat with
    | 0 => if rest.length = 5 then some (.card (ofBe rest)) else none
    | 1 => if rest = [] then some .noCard else none
    | 2 => if rest = [] then some .clash else none
    | _ => none

/-- The contents of a PROVE answer: the 8-byte proof. -/
def parseProof (b : List Byte) : Option (BitVec 64) := if b.length = 8 then some (BitVec.ofNat 64 (ofBe b)) else none

/-- The results of COMMIT. -/
inductive CommitResult where
  | ok | mismatch | fail
  deriving DecidableEq, Repr

/-- The contents of a COMMIT answer. -/
def parseCommit (b : List Byte) : Option CommitResult :=
  match b with
  | [r] => match r.toNat with
    | 0 => some .ok
    | 1 => some .mismatch
    | 2 => some .fail
    | _ => none
  | _ => none

/-! ### The proof port and the lane sensor port (sections 11.6 and 11.7) -/

/-- The key module's outcomes. -/
inductive CheckOutcome where
  | pass | fail | unknownGen | garbled
  deriving DecidableEq, Repr

/-- The key module's answer: its ProofTag and outcome; none when it is discarded. DESIGN CHOICE: an answer with a good check whose
outcome code is above 3, or that has another length, is discarded, and the CHECK stays outstanding (log 8). -/
def parseCheck (message : List Byte) : Option (Nat × CheckOutcome) :=
  match checked message with
  | some [tag, r] =>
    match r.toNat with
    | 0 => some (tag.toNat, .pass)
    | 1 => some (tag.toNat, .fail)
    | 2 => some (tag.toNat, .unknownGen)
    | 3 => some (tag.toNat, .garbled)
    | _ => none
  | _ => none

/-- A sample set: its tag and the six levels; none when its check is bad or it is not six levels of 0 to 4,095 (R85, log 9). -/
def parseSample (message : List Byte) : Option (Nat × Six Nat) :=
  match checked message with
  | some b =>
    let levels : Six Nat := ⟨fieldAt b 1 2, fieldAt b 3 2, fieldAt b 5 2, fieldAt b 7 2, fieldAt b 9 2, fieldAt b 11 2⟩
    if b.length = 13 ∧ levels.toList.all (fun l => decide (l ≤ 4095)) = true then some (fieldAt b 0 1, levels) else none
  | none => none

/-! ### Frames and line commands (section 11.2) -/

/-- R166: the frame that received bytes hold, none when it is to be discarded. DESIGN CHOICE: bytes with a good Check that are too few
for a header are discarded too (log 52). -/
def parseFrame (bytes : List Byte) (endMark : Bool) : Option Frame :=
  match checked bytes with
  | some (kind :: dest :: src :: hops :: length :: payload) =>
    if endMark = true ∧ length.toNat ≤ 240 ∧ payload.length = length.toNat ∧ hops.toNat ≤ 62 then
      some ⟨kind, dest, src, hops.toNat, payload⟩
    else none
  | _ => none

/-- The line commands with their payloads' fields (section 11.2). -/
inductive LineCommand where
  | time (date secs : Nat)
  | set (entries : List (Byte × Int))
  | query
  | stageOpen (bankTag : Nat)
  | stageLoad (bankTag : Nat) (segment part : Byte) (values : List Byte)
  | stageSwitch (effective : Option (Nat × Nat))
  | stageDiscard
  | denyAdd (cardId : Nat) (reason action : Byte)
  | denyDrop (cardId : Nat)
  | collect (k : Byte)
  | trim (firstSeq n : Nat)
  | laneMode (mode : Byte)
  | ackStart
  | restart
  deriving DecidableEq, Repr

/-- A line command's Kind code. -/
def LineCommand.kind : LineCommand → Byte
  | .time .. => 2 | .set .. => 3 | .query => 4 | .stageOpen .. => 5 | .stageLoad .. => 6 | .stageSwitch .. => 7
  | .stageDiscard => 8 | .denyAdd .. => 9 | .denyDrop .. => 10 | .collect .. => 11 | .trim .. => 12 | .laneMode .. => 13
  | .ackStart => 14 | .restart => 15

/-- A line command's payload after the Tag. -/
def LineCommand.fields : LineCommand → List Byte
  | .time date secs => be 2 date ++ be 3 secs
  | .set entries => byte entries.length :: entries.flatMap fun e => e.1 :: beSigned 4 e.2
  | .query => []
  | .stageOpen t => be 4 t
  | .stageLoad t seg part values => be 4 t ++ [seg, part] ++ values
  | .stageSwitch none => [0]
  | .stageSwitch (some (date, secs)) => [1] ++ be 2 date ++ be 3 secs
  | .stageDiscard => []
  | .denyAdd c r a => be 5 c ++ [r, a]
  | .denyDrop c => be 5 c
  | .collect k => [k]
  | .trim q n => be 4 q ++ be 2 n
  | .laneMode m => [m]
  | .ackStart => []
  | .restart => []

/-- SET's entries, `n` of them, each a parameter number and a value of 4 bytes; none when the length is not theirs. -/
def parseEntries : Nat → List Byte → Option (List (Byte × Int))
  | 0, [] => some []
  | n + 1, p :: a :: b :: c :: d :: rest =>
    match parseEntries n rest with
    | some es => some ((p, ofBeSigned [a, b, c, d]) :: es)
    | none => none
  | _, _ => none

/-- A line command from its Kind code and its payload after the Tag; none when the length is not the one section 11.2
gives. -/
def parseLineCommand (kind : Nat) (b : List Byte) : Option LineCommand :=
  match kind with
  | 2 => if b.length = 5 then some (.time (fieldAt b 0 2) (fieldAt b 2 3)) else none
  | 3 => match b with
    | n :: rest => (parseEntries n.toNat rest).map .set
    | [] => none
  | 4 => if b = [] then some .query else none
  | 5 => if b.length = 4 then some (.stageOpen (fieldAt b 0 4)) else none
  | 6 => if 6 ≤ b.length then some (.stageLoad (fieldAt b 0 4) (byte (fieldAt b 4 1)) (byte (fieldAt b 5 1)) (b.drop 6)) else none
  | 7 => if b = [0] then some (.stageSwitch none)
    else if b.length = 6 ∧ b.head? = some 1 then some (.stageSwitch (some (fieldAt b 1 2, fieldAt b 3 3))) else none
  | 8 => if b = [] then some .stageDiscard else none
  | 9 => if b.length = 7 then some (.denyAdd (fieldAt b 0 5) (byte (fieldAt b 5 1)) (byte (fieldAt b 6 1))) else none
  | 10 => if b.length = 5 then some (.denyDrop (fieldAt b 0 5)) else none
  | 11 => match b with
    | [k] => some (.collect k)
    | _ => none
  | 12 => if b.length = 6 then some (.trim (fieldAt b 0 4) (fieldAt b 4 2)) else none
  | 13 => match b with
    | [m] => some (.laneMode m)
    | _ => none
  | 14 => if b = [] then some .ackStart else none
  | 15 => if b = [] then some .restart else none
  | _ => none

/-- What a frame's Kind and payload ask of this part (R169). -/
inductive FrameBody where
  /-- a line command with its Tag -/
  | command (tag : Byte) (c : LineCommand)
  /-- a Kind of a line command whose payload has not the length section 11.2 gives: refused REFUSED_VALUE (R184) -/
  | malformed (tag : Byte)
  /-- a Kind this part does not know -/
  | unknown
  | enumerate (n : Byte)
  | sight (p : SightPayload)
  | suspect (p : SuspectPayload)
  /-- not acted on: REPLY, EVENT, ENUM-END, and an ENUMERATE, SIGHT or SUSPECT of another length (log 11) -/
  | inert
  deriving DecidableEq, Repr

/-- The body of a frame. -/
def parseBody (kind : Byte) (payload : List Byte) : FrameBody :=
  match kind.toNat with
  | 0 => match payload with
    | [n] => .enumerate n
    | _ => .inert
  | 1 | 16 | 17 => .inert
  | 18 =>
    if payload.length = 17 then
      .sight ⟨fieldAt payload 0 5, fieldAt payload 5 2, ofBeSigned ((payload.drop 7).take 3), byte (fieldAt payload 10 1),
        byte (fieldAt payload 11 1), fieldAt payload 12 2, fieldAt payload 14 3⟩
    else .inert
  | 19 =>
    if payload.length = 12 then
      .suspect ⟨fieldAt payload 0 5, byte (fieldAt payload 5 1), byte (fieldAt payload 6 1), fieldAt payload 7 2,
        fieldAt payload 9 3⟩
    else .inert
  | k =>
    if k ≤ 15 then
      match payload with
      | tag :: b => match parseLineCommand k b with
        | some c => .command tag c
        | none => .malformed tag
      | [] => .malformed 0
    else .unknown

/-- The payload of a SIGHT frame from its fields. -/
def SightPayload.bytes (p : SightPayload) : List Byte :=
  be 5 p.cardId ++ be 2 p.counter ++ beSigned 3 p.balance ++ [p.kind, p.gate] ++ be 2 p.date ++ be 3 p.secs

/-- The payload of a SUSPECT frame from its fields. -/
def SuspectPayload.bytes (p : SuspectPayload) : List Byte :=
  be 5 p.cardId ++ [p.reason, p.gate] ++ be 2 p.date ++ be 3 p.secs

/-! ### The parameters of SET (sections 10.2 and 11.2) -/

/-- The range of a parameter, by its number; none for a number no parameter has. The dependent bounds of R92 are not among
these: Beam.FastShift is bounded here by the greatest Beam.SlowShift (log 37). Standing.MarkOnClone and Mgmt.EventMask
are not clamped (R186, log 13). -/
def paramRange : Nat → Option (Int × Int)
  | 1 => some (10, 200) | 2 => some (10, 500) | 3 => some (10, 500) | 4 => some (20, 1000) | 5 => some (20, 1000)
  | 6 => some (1, 4) | 7 => some (20, 200) | 8 => some (50, 1000) | 9 => some (100, 5000) | 10 => some (50, 2000)
  | 11 => some (10, 600) | 12 => some (10, 600) | 13 => some (60, 7200) | 14 => some (60, 3600)
  | 16 => some (2, 20) | 17 => some (5, 50) | 18 => some (10, 200) | 19 => some (50, 2000) | 20 => some (0, 1950)
  | 21 => some (1, 8) | 22 => some (2, 10) | 23 => some (1, 10) | 24 => some (20, 2000) | 25 => some (500, 4000)
  | 26 => some (1, 64) | 27 => some (1, 16) | 28 => some (1, 32)
  | 29 => some (2, 30) | 30 => some (5, 120) | 31 => some (200, 3000) | 32 => some (500, 5000) | 33 => some (1, 30)
  | 34 => some (10, 3600) | 35 => some (5, 250) | 36 => some (64, 496) | 37 => some (1, 62) | 38 => some (1, 60)
  | 39 => some (60, 7200)
  | _ => none

/-- A value set to the nearer bound of its range. -/
def clampInt (lo hi v : Int) : Int := if v < lo then lo else if hi < v then hi else v

/-- Writes a parameter's value, already within its range. -/
def Params.write (q : Params) (n v : Nat) : Params :=
  match n with
  | 1 => { q with verbSense := v } | 2 => { q with verbRead := v } | 3 => { q with verbProve := v }
  | 4 => { q with verbCommit := v } | 5 => { q with verbMark := v } | 6 => { q with retries := v }
  | 7 => { q with pollBrisk := v } | 8 => { q with pollSteady := v } | 9 => { q with pollDormant := v }
  | 10 => { q with proofTimeout := v } | 11 => { q with passbackWindow := v } | 12 => { q with grace := v }
  | 13 => { q with horizon := v } | 14 => { q with recoveryWindow := v }
  | 16 => { q with sampleBrisk := v } | 17 => { q with sampleSteady := v } | 18 => { q with sampleDormant := v }
  | 19 => { q with blockLevel := v } | 20 => { q with releaseLevel := v } | 21 => { q with debounce := v }
  | 22 => { q with slowShift := v } | 23 => { q with fastShift := v } | 24 => { q with fastBound := v }
  | 25 => { q with target := v } | 26 => { q with band := v } | 27 => { q with trimSettle := v }
  | 28 => { q with trimSteps := v } | 29 => { q with creditLife := v } | 30 => { q with waitLimit := v }
  | 31 => { q with closeDelay := v } | 32 => { q with flapMotionLimit := v } | 33 => { q with briskHold := v }
  | 34 => { q with idleToDormant := v } | 35 => { q with tallyGap := v } | 36 => { q with highWater := v }
  | 37 => { q with sightHops := v } | 38 => { q with silence := v } | 39 => { q with timeStale := v }
  | _ => q

/-- The value now stored for a parameter, as the REPLY to SET carries it. -/
def Params.read (q : Params) (n : Nat) : Int :=
  match n with
  | 1 => q.verbSense | 2 => q.verbRead | 3 => q.verbProve | 4 => q.verbCommit | 5 => q.verbMark | 6 => q.retries
  | 7 => q.pollBrisk | 8 => q.pollSteady | 9 => q.pollDormant | 10 => q.proofTimeout | 11 => q.passbackWindow
  | 12 => q.grace | 13 => q.horizon | 14 => q.recoveryWindow | 15 => if q.markOnClone then 1 else 0
  | 16 => q.sampleBrisk | 17 => q.sampleSteady | 18 => q.sampleDormant | 19 => q.blockLevel | 20 => q.releaseLevel
  | 21 => q.debounce | 22 => q.slowShift | 23 => q.fastShift | 24 => q.fastBound | 25 => q.target | 26 => q.band
  | 27 => q.trimSettle | 28 => q.trimSteps | 29 => q.creditLife | 30 => q.waitLimit | 31 => q.closeDelay
  | 32 => q.flapMotionLimit | 33 => q.briskHold | 34 => q.idleToDormant | 35 => q.tallyGap | 36 => q.highWater
  | 37 => q.sightHops | 38 => q.silence | 39 => q.timeStale | 40 => q.eventMask.toNat
  | _ => 0

/-- A number that names a parameter. -/
def knownParam (n : Nat) : Bool := decide (1 ≤ n) && decide (n ≤ 40)

/-- R186: one entry of SET applied, and whether its value was clamped. -/
def Params.applyEntry (q : Params) (n : Nat) (v : Int) : Params × Bool :=
  if n = 15 then ({ q with markOnClone := decide (v ≠ 0) }, false)
  else if n = 40 then ({ q with eventMask := BitVec.ofInt 12 v }, false)
  else match paramRange n with
    | some (lo, hi) => (q.write n (clampInt lo hi v).toNat, decide (clampInt lo hi v ≠ v))
    | none => (q, false)

/-- R186: the entries of SET in order; whether any was clamped. -/
def Params.applyEntries : Params → List (Byte × Int) → Params × Bool
  | q, [] => (q, false)
  | q, (n, v) :: es =>
    let r := q.applyEntry n.toNat v
    let t := r.1.applyEntries es
    (t.1, r.2 || t.2)

/-- R92: the dependent bounds of the Beam parameters; whether either changed a value. -/
def Params.dependentBounds (q : Params) : Params × Bool :=
  let release := min q.releaseLevel (q.blockLevel - 50)
  let fast := min q.fastShift q.slowShift
  ({ q with releaseLevel := release, fastShift := fast }, decide (release ≠ q.releaseLevel ∨ fast ≠ q.fastShift))

end Sys2Proof.Machine
end

