-- ==== Sys2Proof/Machine/StandingOps.lean ====
section
/-! DEFINITION. The Card Standing Unit (chapter 2): the deny list, the sighting table, the recovery list and the in-flight set,
and the findings it makes. The verdict itself stands in Machine/DialogOps.lean, where the dialog carries it out. -/

namespace Sys2Proof.Machine

open Sys2Proof

/-! ### Lists in ascending order of a key -/

/-- Puts an item in its place by its key, in the place of the item of the same key if there is one. -/
def putBy {α : Type} (key : α → Nat) (x : α) : List α → List α
  | [] => [x]
  | y :: ys =>
    if key x < key y then x :: y :: ys
    else if key x = key y then x :: ys
    else y :: putBy key x ys

/-- The item of a key. -/
def findBy {α : Type} (key : α → Nat) (k : Nat) (l : List α) : Option α := l.find? fun x => key x == k

/-- Removes the item of a key. -/
def dropBy {α : Type} (key : α → Nat) (k : Nat) (l : List α) : List α := l.filter fun x => key x != k

/-! ### The deny list (section 2.2) -/

/-- R28: the deny entry of a card. -/
def State.denied (s : State) (cardId : Nat) : Option DenyEntry := findBy DenyEntry.cardId cardId s.standing.deny

/-- R30: the Action of a LOCAL or PEER entry. -/
def State.foundAction (s : State) : DenyAction := if s.params.markOnClone then .refuseAndMark else .refuse

/-- R30: a LOCAL or PEER add: a present entry is left unchanged; a full list sets DENY_FULL. -/
def addFound (origin : DenyOrigin) (cardId : Nat) (s : State) : State :=
  if (s.denied cardId).isSome then s
  else if s.standing.deny.length < Config.denyCapacity then
    s.onStanding fun t => { t with deny := putBy DenyEntry.cardId ⟨cardId, .clone, origin, s.foundAction⟩ t.deny }
  else setDenyFull s

/-! ### The sighting table (section 2.3) -/

/-- R32: the age of a record in seconds: 0 while the clock is UNSET, and where the record's time lies ahead. -/
def State.age (s : State) (r : ServiceTime) : Nat :=
  if s.clock.state = .unset then 0 else elapsedSince s.clock.time r

/-- R32: a record that counts as absent. -/
def State.agedOut (s : State) (r : Sighting) : Bool := decide (s.params.horizon < s.age r.time)

/-- R32: the record of a card as it stands, aged out or not. -/
def State.sighting (s : State) (cardId : Nat) : Option Sighting := findBy Sighting.cardId cardId s.standing.sightings

/-- R32: a touch removes the card's record if it has aged out. -/
def touch (cardId : Nat) (s : State) : State :=
  match s.sighting cardId with
  | some r =>
    if s.agedOut r then s.onStanding fun t => { t with sightings := dropBy Sighting.cardId cardId t.sightings } else s
  | none => s

/-- R31: of two records, the older: the smaller absolute second, then the smaller CardId. -/
def olderOf (x y : Sighting) : Sighting :=
  if y.time.absolute < x.time.absolute ∨ (y.time.absolute = x.time.absolute ∧ y.cardId < x.cardId) then y else x

/-- R31: the oldest record. -/
def oldestSighting : List Sighting → Option Sighting
  | [] => none
  | x :: xs => some (xs.foldl olderOf x)

/-- R33: a record enters the table, in the place of its card's record if there is one; a full table first evicts its
oldest record. -/
def enterSighting (r : Sighting) (l : List Sighting) : List Sighting :=
  if (findBy Sighting.cardId r.cardId l).isSome ∨ l.length < Config.sightingCapacity then putBy Sighting.cardId r l
  else match oldestSighting l with
    | some o => putBy Sighting.cardId r (dropBy Sighting.cardId o.cardId l)
    | none => putBy Sighting.cardId r l

/-- R33: a received record that a full table does not take: older than every stored record. -/
def lostSighting (r : Sighting) (l : List Sighting) : Bool :=
  decide (Config.sightingCapacity ≤ l.length) && l.all fun x => decide (r.time.absolute < x.time.absolute)

/-- R34: this part's own record of a card: its address as Gate, the clock as Time. -/
def State.ownSighting (s : State) (cardId counter : Nat) (balance : Int) (kind : SightKind) : Sighting :=
  ⟨cardId, counter, balance, kind, s.line.address, s.stamp⟩

/-- R33, R34: a sighting is written. -/
def writeSighting (r : Sighting) (s : State) : State :=
  s.onStanding fun t => { t with sightings := enterSighting r t.sightings }

/-- R34: a sighting is written and handed over to be broadcast. -/
def writeAndBroadcast (r : Sighting) (s : State) : State := broadcastSight r (writeSighting r s)

/-- R34: ENTERED at the entry end, EXITED at the exit end. -/
def admittedKind : Direction → SightKind
  | .inbound => .entered
  | .outbound => .exited

/-- LAPSED_IN for direction IN, LAPSED_OUT for direction OUT (R35). -/
def lapsedKind : Direction → SightKind
  | .inbound => .lapsedIn
  | .outbound => .lapsedOut

/-- R35: the report of a lapsed or flushed credit. -/
def lapseReport (cardId : Nat) (d : Direction) (s : State) : State :=
  let t := touch cardId s
  match t.sighting cardId with
  | some r =>
    if r.kind = admittedKind d ∧ r.gate = t.line.address then
      writeSighting { r with kind := lapsedKind d, time := t.stamp } t
    else t
  | none => t

/-! ### Findings (sections 2.4, 2.7, 2.9) -/

/-- R148: a CLONE record's contents. -/
def cloneContent (d : Option Direction) (cardId : Nat) (r : CloneReason) (counter : Nat) (balance : Int) : Content :=
  { kind := .clone, direction := d, cardId := some cardId, reason := some (.clone r), counterAfter := some counter
    balanceAfter := some balance }

/-- R37: a conflict of two sightings: a LOCAL deny entry, a CLONE record and a CLONE event, and no SUSPECT frame. -/
def sightConflict (r : Sighting) (s : State) : State :=
  event (.clone r.cardId .sightConflict none)
    (appendReserve (cloneContent none r.cardId .sightConflict r.counter r.balance) (addFound .localPart r.cardId s))

/-- R36: a received sighting whose fields can be those of a record. -/
def sightAccepted (p : SightPayload) : Option Sighting :=
  let kind : Option SightKind :=
    match p.kind.toNat with
    | 0 => some .entered
    | 1 => some .exited
    | 4 => some .torn
    | _ => none
  match kind with
  | some k =>
    if namesCard p.cardId = true ∧ p.counter ≤ 65535 ∧ -50000 ≤ p.balance ∧ p.balance ≤ 500000 then
      some ⟨p.cardId, p.counter, p.balance, k, p.gate.toNat, ⟨p.date, p.secs⟩⟩
    else none
  | none => none

/-- R36, R37: a received record is merged against the stored one. -/
def mergeSighting (r : Sighting) (s : State) : State :=
  if s.agedOut r then s
  else
    let t := touch r.cardId s
    match t.sighting r.cardId with
    | none => if lostSighting r t.standing.sightings then t else writeSighting r t
    | some x =>
      if x.counter < r.counter then writeSighting r t
      else if r.counter < x.counter then t
      else if r.balance = x.balance then writeSighting { x with time := r.time, gate := r.gate, kind := r.kind } t
      else sightConflict r t

/-- R36: a SIGHT frame handed to this unit. -/
def takeSight (p : SightPayload) (s : State) : State :=
  match sightAccepted p with
  | some r => mergeSighting r s
  | none => s

/-- R51: a SUSPECT frame handed to this unit. -/
def takeSuspect (p : SuspectPayload) (s : State) : State :=
  if namesCard p.cardId then addFound .peer p.cardId s else s

/-- R154: a CLONE record from a dialog: a free slot, or one of the dialog's own reserved slots when no other is free. -/
def appendClone (p : Port) (c : Content) (s : State) : State :=
  if 1 ≤ s.journal.free then appendRecord id c s
  else if 1 ≤ (s.ctx p).journalRes then
    appendReserved c (s.onCtx p fun x => { x with journalRes := x.journalRes - 1 })
  else setJournalOverflow s

/-- R48: a clone finding of a dialog: the LOCAL entry, the CLONE record, the SUSPECT broadcast and the CLONE event, in this
order. -/
def cloneFinding (p : Port) (cardId : Nat) (r : CloneReason) (counter : Nat) (balance : Int) (s : State) : State :=
  let d := some (portDirection p)
  event (.clone cardId r d)
    (broadcastSuspect cardId
      (appendClone p (cloneContent d cardId r counter balance) (addFound .localPart cardId s)))

/-! ### The recovery list (section 2.5) -/

/-- The recovery entry of a card. -/
def State.recoveryOf (s : State) (cardId : Nat) : Option RecoveryEntry :=
  findBy RecoveryEntry.cardId cardId s.standing.recovery

/-- A recovery entry leaves the list. -/
def removeRecovery (e : RecoveryEntry) (s : State) : State :=
  s.onStanding fun t => { t with recovery := t.recovery.erase e }

/-- R40: the contents of a TORN_UNRESOLVED record. -/
def unresolvedContent (e : RecoveryEntry) (r : UnresolvedReason) : Content :=
  { kind := .tornUnresolved, direction := some e.direction, cardId := some e.cardId, fare := some e.fare
    fareKind := some e.fareKind, bankTag := some e.bankTag, counterAfter := some e.preCounter
    balanceAfter := some e.preBalance, reason := some (.unresolved r) }

/-- R40: an entry is resolved as unresolved: its record into the held slot, the entry removed, the event. -/
def resolveUnresolved (e : RecoveryEntry) (r : UnresolvedReason) (s : State) : State :=
  event (.tornUnresolved e.cardId e.direction e.fare e.fareKind r)
    (removeRecovery e (appendHeld (unresolvedContent e r) s))

/-- R44: the contents of a RECOVERED record. -/
def recoveredContent (e : RecoveryEntry) : Content :=
  { kind := .recovered, direction := some e.direction, cardId := some e.cardId, fare := some e.fare
    fareKind := some e.fareKind, bankTag := some e.bankTag, counterAfter := some (e.preCounter + 1)
    balanceAfter := some e.intendedBalance }

/-- R44, R34: an entry is resolved as recovered: its record into the held slot, the entry removed, the sighting written and
broadcast. -/
def resolveRecovered (e : RecoveryEntry) (s : State) : State :=
  let t := removeRecovery e (appendHeld (recoveredContent e) s)
  writeAndBroadcast (t.ownSighting e.cardId (e.preCounter + 1) e.intendedBalance (admittedKind e.direction)) t

/-- R44: NOT_APPLIED: the entry is removed and its held slot released unused. -/
def notApplied (e : RecoveryEntry) (s : State) : State := releaseHeld (removeRecovery e s)

/-- R39: of two entries, the one displaced first: the smaller Remaining, then the smaller CardId. -/
def soonerOf (x y : RecoveryEntry) : RecoveryEntry :=
  if y.remaining < x.remaining ∨ (y.remaining = x.remaining ∧ y.cardId < x.cardId) then y else x

/-- R39: a full list first displaces the entry with the smallest Remaining. -/
def displace (s : State) : State :=
  if s.standing.recovery.length < Config.recoveryCapacity then s
  else match s.standing.recovery with
    | [] => s
    | x :: xs => resolveUnresolved (xs.foldl soonerOf x) .displaced s

/-- R39: a recovery entry is created; the caller has made one journal slot its held slot. -/
def createRecovery (e : RecoveryEntry) (s : State) : State :=
  (displace s).onStanding fun t => { t with recovery := t.recovery ++ [e] }

/-! ### The in-flight set (section 2.6) -/

/-- R41: a CardId joins the set for a port. -/
def joinInFlight (p : Port) (cardId : Nat) (s : State) : State :=
  (s.onStanding fun t => { t with inFlight := t.inFlight.put p (some cardId) }).onCtx p fun c => { c with inFlight := true }

/-- R41: a port's member is withdrawn, if its dialog set InFlight. -/
def withdraw (p : Port) (s : State) : State :=
  if (s.ctx p).inFlight then
    (s.onStanding fun t => { t with inFlight := t.inFlight.put p none }).onCtx p fun c => { c with inFlight := false }
  else s

/-- R45: how the clone check judges a card against a sighting record: none when it passes. -/
def cloneCheck (i : Image) (r : Sighting) : Option CloneReason :=
  if i.counter < r.counter then some .counterBehind
  else if i.counter = r.counter ∧ i.balance ≠ r.balance then some .balanceConflict
  else none

end Sys2Proof.Machine
end

