-- ==== Sys2Proof/Machine/LaneOps.lean ====
section
/-! DEFINITION. The Lane Controller's credits, grant, flaps, crossings, tempo and tally (chapters 6 and 7). The effective mode
stands in Machine/ModeOps.lean, since a change of it reaches the dialogs. -/

namespace Sys2Proof.Machine

open Sys2Proof

/-! ### Flap motions (section 6.5) -/

/-- R124: an entry into OPENING or CLOSING starts the motion timer afresh. -/
def startMotion (f : Flap) (s : State) : State :=
  s.onLane fun l => { l with flap := f, motionTimer := some s.params.flapMotionLimit }

/-- The granted direction's queue has a head credit. -/
def Lane.grantedCredit (l : Lane) : Bool :=
  match l.grant with
  | some d => !(l.credits.get d).isEmpty
  | none => false

/-- R125: the open condition. -/
def Lane.openCondition (l : Lane) : Bool := l.grantedCredit || l.eff.holdsOpen

/-- R125, R130: what turns a closing motion back: the open condition, but not FAULT during a retry toward closed. A CLOSING
with FlapJam SET is such a retry. -/
def Lane.reverses (l : Lane) : Bool := l.grantedCredit || l.eff == .freeExit || (l.eff == .fault && l.jam.isNone)

/-- R125: the open condition is tested. -/
def openTest (s : State) : State :=
  match s.lane.flap with
  | .closed => if s.lane.openCondition then startMotion .opening s else s
  | .closing => if s.lane.reverses then startMotion .opening s else s
  | .opening | .opened | .jammed => s

/-- R127: the closing conditions. -/
def Lane.closeCondition (l : Lane) : Bool :=
  l.flap == .opened && !l.grantedCredit && !l.flapZone && l.closeTimer.isNone && !l.eff.holdsOpen

/-- R127: the closing conditions are tested. -/
def closeTest (s : State) : State := if s.lane.closeCondition then startMotion .closing s else s

/-- R126, R118: the close-delay timer is started. -/
def startCloseDelay (s : State) : State := s.onLane fun l => { l with closeTimer := some s.params.closeDelay }

/-- R107, R127, R128: the flap-zone reading has changed. -/
def flapZoneReport (blocked : Bool) (s : State) : State :=
  let t := s.onLane fun l => { l with flapZone := blocked }
  if blocked then (if t.lane.flap = .closing then startMotion .opening t else t) else closeTest t

/-! ### The grant (section 6.3) -/

/-- R115: the direction the arbiter would grant. -/
def Lane.nextGrant (l : Lane) : Option Direction :=
  match l.credits.inbound, l.credits.outbound with
  | [], [] => none
  | _ :: _, [] => some .inbound
  | [], _ :: _ => some .outbound
  | _ :: _, _ :: _ => match l.lastServed with
    | some d => some (otherDirection d)
    | none => some .inbound

/-- R115: while the grant is NONE, a direction with credits is granted, and the opening of the flaps is tested. -/
def arbitrate (s : State) : State :=
  match s.lane.grant, s.lane.nextGrant with
  | none, some d => openTest (s.onLane fun l => { l with grant := some d })
  | _, _ => s

/-- The end of the lane that a direction's bodies come in at. -/
def originOf : Direction → Origin
  | .inbound => .entryEnd
  | .outbound => .exitEnd

/-- R116: the grant of a direction is to be released. -/
def State.releases (s : State) (d : Direction) : Bool :=
  (s.lane.credits.get d).isEmpty && !s.beam.bodies.any (fun b => b.origin == originOf d) && s.lane.flap == .closed

/-- R116: the release of the grant is tested; on release the arbiter is applied at once. -/
def releaseTest (s : State) : State :=
  match s.lane.grant with
  | some d =>
    if s.releases d then arbitrate (s.onLane fun l => { l with grant := none, lastServed := some d }) else s
  | none => s

/-! ### Credits (sections 6.1 and 6.2) -/

/-- R108: a credit slot is free in a direction. -/
def State.creditSlotFree (s : State) (d : Direction) : Bool :=
  decide ((s.lane.credits.get d).length + s.lane.reserved.get d < Config.creditCapacity)

/-- R108: a credit slot is reserved. -/
def reserveCredit (d : Direction) (s : State) : State :=
  s.onLane fun l => { l with reserved := l.reserved.put d (l.reserved.get d + 1) }

/-- R108: a credit slot is given back. -/
def releaseCredit (d : Direction) (s : State) : State :=
  s.onLane fun l => { l with reserved := l.reserved.put d (l.reserved.get d - 1) }

/-- R112, R119: what is tested when a credit has left a direction's queue. -/
def creditLeft (d : Direction) (s : State) : State :=
  closeTest (if s.lane.grant = some d then releaseTest s else s)

/-- R112: a LAPSE record's contents. -/
def lapseContent (c : Credit) (r : LapseReason) : Content :=
  { kind := .lapse, direction := some c.direction, cardId := some c.cardId, reason := some (.lapse r) }

/-- R112, steps 1 and 2: a credit leaves its queue by a lapse. -/
def Lane.dropLapsed (d : Direction) (c : Credit) (l : Lane) : Lane :=
  { l with
    credits := l.credits.put d ((l.credits.get d).erase c)
    counts := l.counts.put d { l.counts.get d with lapsed := (l.counts.get d).lapsed + 1 } }

/-- R112: a credit lapses. -/
def lapse (d : Direction) (c : Credit) (r : LapseReason) (s : State) : State :=
  creditLeft d (appendReserve (lapseContent c r) (lapseReport c.cardId d (s.onLane (Lane.dropLapsed d c))))

/-- R137: the credits of a direction lapse one by one from the head with Reason FLUSH. -/
def flush (d : Direction) (s : State) : State := (s.lane.credits.get d).foldl (fun t c => lapse d c .flush t) s

/-- R109: the credit a concluding dialog brings. -/
def State.newCredit (s : State) (d : Direction) (kind : CreditKind) (cardId : Nat) : Credit :=
  ⟨s.lane.nextCreditNo, d, kind, cardId, s.stamp, s.params.creditLife * 1000, 0⟩

/-- R109: a reservation becomes a credit at the tail of its queue. -/
def Lane.join (d : Direction) (c : Credit) (l : Lane) : Lane :=
  { l with
    reserved := l.reserved.put d (l.reserved.get d - 1)
    credits := l.credits.put d (l.credits.get d ++ [c])
    counts := l.counts.put d { l.counts.get d with granted := (l.counts.get d).granted + 1 }
    nextCreditNo := (l.nextCreditNo + 1) % 65536 }

/-- R109: a credit joins; out of service it lapses at once; in service the arbiter and the opening are tested. -/
def joinCredit (d : Direction) (kind : CreditKind) (cardId : Nat) (s : State) : State :=
  let c := s.newCredit d kind cardId
  let t := s.onLane (Lane.join d c)
  if t.lane.eff.inService then openTest (arbitrate t) else lapse d c .flush t

/-! ### Tempo (section 7.5) -/

/-- R142: a tap or an appearance. -/
def makeBrisk (s : State) : State :=
  s.onLane fun l => { l with tempo := .brisk, briskTimer := some (s.params.briskHold * 1000), dormantTimer := none }

/-! ### Tally (section 7.6) -/

/-- A change of level of one tally line, by which of the two lines it is: IN's first line is TALLY_A. -/
def Lane.toggleTally (d : Direction) (l : Lane) : Lane :=
  match d with
  | .inbound => { l with tallyA := !l.tallyA }
  | .outbound => { l with tallyB := !l.tallyB }

/-- R146: in READY the head step is begun. -/
def Lane.beginTally (gap : Nat) (l : Lane) : Lane :=
  match l.tallyPhase, l.tally with
  | .ready, d :: _ => { l.toggleTally d with tallyPhase := .first, tallyTimer := some gap }
  | _, _ => l

/-- R146: the gap timer has expired. -/
def Lane.tallyGap (gap : Nat) (l : Lane) : Lane :=
  match l.tallyPhase, l.tally with
  | .first, d :: rest =>
    { l.toggleTally (otherDirection d) with tally := rest, tallyPhase := .spacing, tallyTimer := some gap }
  | .first, [] => { l with tallyPhase := .ready, tallyTimer := none }
  | .spacing, _ => { l with tallyPhase := .ready, tallyTimer := none }.beginTally gap
  | .ready, _ => { l with tallyTimer := none }

/-- R145: a crossing hands over a tally step; a full queue drops it with TALLY_OVERFLOW set. -/
def tallyStep (d : Direction) (s : State) : State :=
  if s.lane.tally.length < Config.tallyCapacity then
    s.onLane fun l => { l with tally := l.tally ++ [d] }.beginTally s.params.tallyGap
  else setTallyOverflow s

/-! ### Crossings (section 6.4) -/

/-- R121, R123: an intrusion: its record and its event. -/
def intrusion (d : Option Direction) (r : IntrusionReason) (s : State) : State :=
  event (.intrusion d r) (appendReserve { kind := .intrusion, direction := d, reason := some (.intrusion r) } s)

/-- R119: the head credit of a queue is consumed. -/
def Lane.consume (d : Direction) (l : Lane) : Lane :=
  { l with
    credits := l.credits.put d (l.credits.get d).tail
    counts := l.counts.put d { l.counts.get d with consumed := (l.counts.get d).consumed + 1 } }

/-- R120: a Long crossing that found only one credit. -/
def tailgate (d : Direction) (cardId : Nat) (s : State) : State :=
  event (.tailgate d cardId) (appendReserve { kind := .tailgate, direction := some d, cardId := some cardId } s)

/-- R119, R120: a crossing in the granted direction with credit `c` at the head and `rest` behind it. -/
def pay (d : Direction) (long : Bool) (c : Credit) (rest : List Credit) (s : State) : State :=
  let t := s.onLane (Lane.consume d)
  if long then
    match rest with
    | [] => creditLeft d (tailgate d c.cardId t)
    | _ :: _ => creditLeft d (t.onLane (Lane.consume d))
  else creditLeft d t

/-- R122: a free crossing. -/
def freeCrossing (s : State) : State := s.onLane fun l => { l with freeCount := min 65535 (l.freeCount + 1) }

/-- R118: the first line of its table that applies. -/
def judgeCrossing (d : Direction) (long : Bool) (s : State) : State :=
  if s.lane.eff.holdsOpen then freeCrossing s
  else if s.lane.grant = none then intrusion (some d) .noCredit s
  else if s.lane.grant ≠ some d then intrusion (some d) .counterflow s
  else match s.lane.credits.get d with
    | [] => intrusion (some d) .noCredit s
    | c :: rest => pay d long c rest s

/-- R118: a crossing restarts the close-delay timer, hands over a tally step and is judged (log 26). -/
def crossing (d : Direction) (long : Bool) (s : State) : State := judgeCrossing d long (tallyStep d (startCloseDelay s))

end Sys2Proof.Machine
end

