-- ==== Sys2Proof/Machine/DialogOps.lean ====
section
/-! DEFINITION. The Card Dialog Engine (chapter 1) and the verdict it carries out (sections 2.7 to 2.9): verbs, refusals,
reservations, the write and its confirming, conclusions, the proof queue, and what a change of mode does to dialogs. -/

namespace Sys2Proof.Machine

open Sys2Proof

/-! ### SHOW and the verbs (R2) -/

/-- R2: the pending SHOW is sent while no verb is outstanding on the port, and cleared. -/
def flushShow (p : Port) (s : State) : State :=
  match (s.port p).outstanding, (s.port p).pendingShow with
  | none, some w => (s.onPort p fun l => { l with pendingShow := none }).send (.display p (s.port p).tag w)
  | _, _ => s

/-- R2: a SHOW is sent at once, or becomes the pending SHOW while a verb is outstanding. -/
def showNow (p : Port) (w : Show) (s : State) : State := flushShow p (s.onPort p fun l => { l with pendingShow := some w })

/-- R2: the verb outstanding on a port ends. -/
def endVerb (p : Port) (s : State) : State := flushShow p (s.onPort p fun l => { l with outstanding := none })

/-- R2: the time allowed for a verb. -/
def Params.timeAllowed (q : Params) : Purpose → Nat
  | .sense => q.verbSense
  | .read | .confirmRead => q.verbRead
  | .prove => q.verbProve
  | .commit | .reissue => q.verbCommit
  | .mark => q.verbMark

/-- The challenge a verb carries: one drawn for it alone for a PROVE (R8). -/
def State.drawn (s : State) : Purpose → Option (BitVec 64)
  | .prove => some (Config.challenge s.dialog.challengeNo)
  | .sense | .read | .commit | .mark | .confirmRead | .reissue => none

/-- R16: the COMMIT of a context. -/
def Context.commit (c : Context) : Verb :=
  match c.intended with
  | some i => .commit (c.cardId.getD 0) (c.preCounter.getD 0) i.balance i.entry i.lastExit i.dailyDate i.dailySpent
  | none => .sense

/-- The verb issued for a purpose, with what it carries (section 1.1). -/
def State.verbFor (s : State) (p : Port) : Purpose → Verb
  | .sense => .sense
  | .read | .confirmRead => .read ((s.ctx p).cardId.getD 0)
  | .prove => .prove ((s.ctx p).cardId.getD 0) (Config.challenge s.dialog.challengeNo)
  | .commit | .reissue => (s.ctx p).commit
  | .mark => .mark ((s.ctx p).cardId.getD 0)

/-- R8: the challenge generator has drawn a challenge. -/
def drawChallenge (u : Purpose) (s : State) : State :=
  if u = .prove then s.onDialog fun d => { d with challengeNo := d.challengeNo + 1 } else s

/-- R2: a verb is issued: any pending SHOW first, then the verb with a new Tag, and its deadline. -/
def issue (p : Port) (u : Purpose) (s : State) : State :=
  let t := flushShow p s
  let tag := nextTag (t.port p).tag
  let v := t.verbFor p u
  let o : Outstanding := { purpose := u, tag := tag, deadline := t.params.timeAllowed u, challenge := t.drawn u }
  (drawChallenge u (t.onPort p fun l => { l with tag := tag, outstanding := some o })).send (.verb p tag v)

/-- A verb is issued as the first attempt of its step (R4). -/
def issueFirst (p : Port) (u : Purpose) (s : State) : State := issue p u (s.onCtx p fun c => { c with attempts := 1 })

/-- R4: a SENSE, READ or PROVE is issued again as often as Dialog.Retries allows; then the step has failed. -/
def retryOr (p : Port) (u : Purpose) (failed : State → State) (s : State) : State :=
  if (s.ctx p).attempts ≤ s.params.retries then issue p u (s.onCtx p fun c => { c with attempts := c.attempts + 1 })
  else failed s

/-! ### Where a context goes -/

/-- R5: the poll timer is started with the period for the tempo at that moment. -/
def startPoll (p : Port) (s : State) : State :=
  let period := s.params.pollPeriod s.lane.tempo
  s.onCtx p fun c => { c with pollTimer := some period, pollPeriod := period }

/-- The context returns to IDLE: every other field absent, the poll timer started. -/
def toIdle (p : Port) (s : State) : State := startPoll p (s.onCtx p fun _ => {})

/-- The context enters HOLDING with its CardId; its poll timer is started, or waits for the verb outstanding to end (R25). -/
def toHolding (p : Port) (s : State) : State :=
  let t := s.onCtx p fun c =>
    { c with state := .holding, switchHeld := false, attempts := 0, marking := none, pollTimer := none }
  if (t.port p).outstanding.isNone then startPoll p t else t

/-- R5, R6: a CARD answer starts a dialog: the CardId taken, a tap reported, READ issued. -/
def startDialog (p : Port) (cardId : Nat) (s : State) : State :=
  issueFirst p .read (makeBrisk (s.onCtx p fun _ => { state := .reading, cardId := some cardId }))

/-- R25: a verb whose context was refused meanwhile has ended; its answer is discarded, and the poll timer started. -/
def droppedVerbEnds (p : Port) (s : State) : State := startPoll p (endVerb p s)

/-! ### Refusals (R22 to R24) -/

/-- R22: the SHOW of a refusal. -/
def refusalShow (c : Context) (code : RefusalCode) (amount : Option Nat) : Show :=
  ⟨.refused code, amount, c.image.map Image.balance⟩

/-- R23: a REFUSAL record's contents. -/
def refusalContent (p : Port) (cardId : Option Nat) (code : RefusalCode) : Content :=
  { kind := .refusal, direction := some (portDirection p), cardId := cardId, reason := some (.refusal code) }

/-- R23, step 1: any CreditRes is released. -/
def dropCreditRes (p : Port) (s : State) : State :=
  if (s.ctx p).creditRes then releaseCredit (portDirection p) (s.onCtx p fun c => { c with creditRes := false }) else s

/-- Journal slots a context still holds are released (R23, R150). -/
def dropJournalRes (p : Port) (s : State) : State :=
  releaseJournal (s.ctx p).journalRes s |>.onCtx p fun c => { c with journalRes := 0 }

/-- R23, step 2: the journal record of a refusal. -/
def refusalRecord (p : Port) (code : RefusalCode) (s : State) : State :=
  let content := refusalContent p (s.ctx p).cardId code
  if code = .clone then dropJournalRes p s
  else if (s.ctx p).journalRes = 0 then appendOpenRefusal content s
  else dropJournalRes p (appendReserved content (s.onCtx p fun c => { c with journalRes := c.journalRes - 1 }))

/-- R23: a refusal. `amount` is what INSUFFICIENT could not take. -/
def refuse (p : Port) (code : RefusalCode) (mark : Bool) (amount : Option Nat) (s : State) : State :=
  let t := refusalRecord p code (dropCreditRes p s)
  if mark then issue p .mark (t.onCtx p fun c => { c with state := .marking, marking := some code, switchHeld := false })
  else toHolding p (withdraw p (showNow p (refusalShow (t.ctx p) code amount) t))

/-- R24: the MARK has ended: the refusal is shown and the context concludes. -/
def markEnds (p : Port) (fieldLost : Bool) (s : State) : State :=
  let t := withdraw p (match (s.ctx p).marking with
    | some code => showNow p (refusalShow (s.ctx p) code none) s
    | none => s)
  if fieldLost then toIdle p t else toHolding p t

/-- R7, R8: a dialog ends with TRY_AGAIN: IDLE after FIELD_LOST, HOLDING after used-up attempts. -/
def tryAgain (p : Port) (fieldLost : Bool) (s : State) : State :=
  let t := showNow p ⟨.tryAgain, none, none⟩ s
  if fieldLost then toIdle p t else toHolding p t

/-! ### Reservations (R12, R13) -/

/-- R12, step 1: the lane test. -/
def laneTest (p : Port) (m : Mode) : Option RefusalCode :=
  match m, p with
  | .closed, _ | .freeExit, _ | .fault, _ => some .laneClosed
  | .entryOnly, .b | .exitOnly, .a => some .laneDirection
  | .normal, _ | .entryOnly, .a | .exitOnly, .b => none

/-- R150: a journal slot can be reserved. -/
def State.journalSlotFree (s : State) : Bool := decide (Config.journalReserve < s.journal.free)

/-- R12, R13: why the lane test or the credit slot fails, none when both pass. -/
def State.laneRefusal (s : State) (p : Port) : Option RefusalCode :=
  match laneTest p s.lane.eff with
  | some code => some code
  | none => if s.creditSlotFree (portDirection p) then none else some .laneBusy

/-- R12, R13: the credit slot is reserved. -/
def takeCreditRes (p : Port) (s : State) : State :=
  reserveCredit (portDirection p) (s.onCtx p fun c => { c with creditRes := true })

/-- R12, R14: a journal slot is reserved. -/
def takeJournalRes (p : Port) (s : State) : State :=
  reserveJournal (s.onCtx p fun c => { c with journalRes := c.journalRes + 1 })

/-! ### Reckoning (R14) -/

/-- R14: the Intended records are kept, and a second journal slot is reserved when they call for it. -/
def keepIntended (p : Port) (i : Intended) (s : State) : State :=
  let t := s.onCtx p fun c => { c with intended := some i }
  if i.contents.length ≤ 1 then t
  else if t.journalSlotFree then takeJournalRes p t
  else refuse p .journalFull false none t

/-- R14: the context enters RECKONING and the Fare Reckoner is asked. -/
def enterReckoning (p : Port) (s : State) : State :=
  let t := s.onCtx p fun c => { c with state := .reckoning, switchHeld := false }
  match t.tariff.active, (t.ctx p).image with
  | some b, some i =>
    match reckon (portDirection p) b i t.clock with
    | .insufficient amount => refuse p .insufficient false (some amount) t
    | .taken r => keepIntended p r t
  | _, _ => t

/-- R14: a context ready for RECKONING waits while a switch is DUE. -/
def readyToReckon (p : Port) (s : State) : State :=
  if s.tariff.switch = .due then s.onCtx p fun c => { c with switchHeld := true } else enterReckoning p s

/-- R80, R82: a context held for a switch goes on into RECKONING. -/
def releaseHeldContext (p : Port) (s : State) : State := if (s.ctx p).switchHeld then enterReckoning p s else s

/-- R80, R82: the contexts held for a switch go on, port A's first (log 22). -/
def releaseHeldContexts (s : State) : State := releaseHeldContext .b (releaseHeldContext .a s)

/-! ### Conclusions (R20, R21) -/

/-- R20: a content completed with the counter and balance after the write. -/
def Content.written (counter : Nat) (balance : Int) (c : Content) : Content :=
  { c with counterAfter := some counter, balanceAfter := some balance }

/-- R20, R147: the records of a confirmed write go into the reserved slots, in the order the reckoning gives. -/
def appendWritten (counter : Nat) (balance : Int) (cs : List Content) (s : State) : State :=
  cs.foldl (fun t c => appendReserved (c.written counter balance) t) s

/-- R20: Kind STAFF when the class in effect is 7. -/
def Intended.creditKind (i : Intended) : CreditKind := if i.cls = staffClass then .staff else .fare

/-- R20, R21, R109: CreditRes becomes a credit. -/
def spendCreditRes (p : Port) (kind : CreditKind) (cardId : Nat) (s : State) : State :=
  joinCredit (portDirection p) kind cardId (s.onCtx p fun c => { c with creditRes := false })

/-- R20, R21: the end of an admission: SHOW ACCEPTED, the in-flight set, HOLDING. -/
def admitted (p : Port) (amount : Nat) (balance : Int) (s : State) : State :=
  toHolding p (withdraw p (showNow p ⟨.accepted, some amount, some balance⟩ s))

/-- R20: conclusion with write: journal, sighting and its broadcast, credit, SHOW (log 31). -/
def concludeWrite (p : Port) (s : State) : State :=
  match (s.ctx p).intended, (s.ctx p).cardId, (s.ctx p).preCounter with
  | some i, some cardId, some pre =>
    let t := appendWritten (pre + 1) i.balance i.contents (s.onCtx p fun c => { c with journalRes := c.journalRes - i.contents.length })
    let u := writeAndBroadcast (t.ownSighting cardId (pre + 1) i.balance (admittedKind (portDirection p))) t
    admitted p i.amount i.balance (spendCreditRes p i.creditKind cardId u)
  | _, _, _ => s

/-- R21: a REGRANT record's contents. -/
def regrantContent (p : Port) (i : Image) : Content :=
  { kind := .regrant, direction := some (portDirection p), cardId := some i.cardId, counterAfter := some i.counter
    balanceAfter := some i.balance }

/-- R21: conclusion of a REGRANT, with the sighting record `r` that allowed it. -/
def concludeRegrant (p : Port) (i : Image) (r : Sighting) (s : State) : State :=
  let t := appendReserved (regrantContent p i) (s.onCtx p fun c => { c with journalRes := c.journalRes - 1 })
  let u := writeAndBroadcast (t.ownSighting r.cardId r.counter r.balance (admittedKind (portDirection p))) t
  admitted p 0 i.balance (spendCreditRes p .regrant i.cardId u)

/-- R21, R44: conclusion of a RECOVERED verdict. -/
def concludeRecovered (p : Port) (i : Image) (e : RecoveryEntry) (s : State) : State :=
  admitted p e.fare i.balance (spendCreditRes p .recovered i.cardId (resolveRecovered e s))

/-! ### The verdict (sections 2.7 and 2.8) -/

/-- R48: a clone finding of a dialog, and its refusal. -/
def refuseClone (p : Port) (cardId : Nat) (r : CloneReason) (counter : Nat) (balance : Int) (s : State) : State :=
  refuse p .clone s.params.markOnClone none (cloneFinding p cardId r counter balance s)

/-- R29, R42: a refusal by a deny entry. -/
def refuseDenied (p : Port) (e : DenyEntry) (s : State) : State := refuse p .denied (e.action == .refuseAndMark) none s

/-- R47: the passback refusal of a port. -/
def passbackCode : Port → RefusalCode
  | .a => .alreadyIn
  | .b => .alreadyOut

/-- Step 10 (R47): PROCEED: the reservations, then RECKONING (R12, R14). -/
def verdictProceed (p : Port) (s : State) : State :=
  match s.laneRefusal p with
  | some code => refuse p code false none s
  | none =>
    let t := takeCreditRes p s
    if t.journalSlotFree then readyToReckon p (takeJournalRes p t) else refuse p .journalFull false none t

/-- Step 9 (R47): a fresh record of this direction. -/
def passback (p : Port) (i : Image) (r : Sighting) (s : State) : Bool :=
  r.kind == admittedKind (portDirection p) && i.counter == r.counter && decide (s.age r.time ≤ s.params.passbackWindow)

/-- Step 8 (R46): a lapsed record that allows a regrant. -/
def regrants (p : Port) (i : Image) (r : Sighting) (s : State) : Bool :=
  r.kind == lapsedKind (portDirection p) && i.counter == r.counter && i.balance == r.balance
    && decide (s.age r.time ≤ s.params.grace)

/-- R13, R46: a REGRANT verdict, if its reservations can be made. -/
def verdictRegrant (p : Port) (i : Image) (r : Sighting) (s : State) : State :=
  match s.laneRefusal p with
  | some code => refuse p code false none s
  | none =>
    let t := takeCreditRes p s
    if t.journalSlotFree then concludeRegrant p i r (takeJournalRes p t) else refuse p .journalFull false none t

/-- Steps 7 to 10 (R45 to R47). -/
def verdictSighting (p : Port) (i : Image) (s : State) : State :=
  let t := touch i.cardId s
  match t.sighting i.cardId with
  | none => verdictProceed p t
  | some r =>
    match cloneCheck i r with
    | some reason => refuseClone p i.cardId reason i.counter i.balance t
    | none =>
      if regrants p i r t then verdictRegrant p i r t
      else if passback p i r t then refuse p (passbackCode p) false none t
      else verdictProceed p t

/-- R13, R44: a RECOVERED verdict, if its reservations can be made. -/
def verdictRecovered (p : Port) (i : Image) (e : RecoveryEntry) (s : State) : State :=
  match s.laneRefusal p with
  | some code => refuse p code false none s
  | none => concludeRecovered p i e (takeCreditRes p s)

/-- Step 6 (R44), and what follows it. -/
def verdictRecovery (p : Port) (i : Image) (s : State) : State :=
  match s.recoveryOf i.cardId with
  | none => verdictSighting p i s
  | some e =>
    if i.counter = e.preCounter + 1 ∧ i.balance = e.intendedBalance then
      if portDirection p = e.direction then verdictRecovered p i e s else verdictSighting p i (resolveRecovered e s)
    else if i.counter = e.preCounter ∧ i.balance = e.preBalance then verdictSighting p i (notApplied e s)
    else verdictSighting p i (resolveUnresolved e .conflict s)

/-- Step 5 (R43), and what follows it. -/
def verdictInFlight (p : Port) (i : Image) (s : State) : State :=
  if s.standing.inFlight.get (otherPort p) = some i.cardId then refuseClone p i.cardId .inFlight i.counter i.balance s
  else verdictRecovery p i (joinInFlight p i.cardId s)

/-- R11, R42: the verdict, steps 1 to 4 and what follows them. -/
def judge (p : Port) (i : Image) (o : ProofOutcome) (s : State) : State :=
  if s.tariff.active.isNone then refuse p .noTariff false none s
  else match s.denied i.cardId with
    | some e => refuseDenied p e s
    | none =>
      if i.status = .blocked then refuse p .blocked false none s
      else match o with
        | .fail | .unknownGen => refuse p .proofFail false none s
        | .unavailable => refuse p .proofUnavailable false none s
        | .pass => verdictInFlight p i s

/-- R15, R49: the recheck and the issue of COMMIT. -/
def recheck (p : Port) (i : Image) (s : State) : State :=
  match s.denied i.cardId with
  | some e => refuseDenied p e s
  | none =>
    let t := touch i.cardId s
    match (t.sighting i.cardId).bind (cloneCheck i) with
    | some reason => refuseClone p i.cardId reason i.counter i.balance t
    | none => issue p .commit (t.onCtx p fun c => { c with state := .committing, attempts := 0 })

/-! ### The write (R16 to R19) -/

/-- R17: the context enters CONFIRMING, or starts its confirming READs afresh (R18). -/
def enterConfirming (p : Port) (s : State) : State :=
  issue p .confirmRead (s.onCtx p fun c => { c with state := .confirming, attempts := 1 })

/-- R18: COMMIT is issued once more. -/
def reissueCommit (p : Port) (s : State) : State := issue p .reissue (s.onCtx p fun c => { c with reissued := true })

/-- R19, R39: the recovery entry of a torn write. -/
def State.tornEntry (s : State) (p : Port) (i : Intended) (cardId pre : Nat) (preBalance : Int) : RecoveryEntry :=
  { cardId := cardId, preCounter := pre, preBalance := preBalance, intendedBalance := i.balance
    intendedIn := i.entry.isSome, fare := i.amount, fareKind := i.fareKind, direction := portDirection p
    created := s.stamp, bankTag := i.bankTag, remaining := s.params.recoveryWindow * 1000 }

/-- R19, R39, R34: a torn write is recorded: one journal slot held, a second one and the credit slot released, the recovery
entry created, the TORN sighting written. -/
def recordTorn (p : Port) (s : State) : State :=
  match (s.ctx p).intended, (s.ctx p).cardId, (s.ctx p).preCounter, (s.ctx p).preBalance with
  | some i, some cardId, some pre, some preBalance =>
    let t := dropJournalRes p (holdSlot (s.onCtx p fun c => { c with journalRes := c.journalRes - 1 }))
    let u := createRecovery (t.tornEntry p i cardId pre preBalance) (dropCreditRes p t)
    writeSighting (u.ownSighting cardId pre preBalance .torn) u
  | _, _, _, _ => s

/-- R19: the TORN sighting is broadcast. -/
def broadcastTorn (p : Port) (s : State) : State :=
  match (s.ctx p).cardId, (s.ctx p).preCounter, (s.ctx p).preBalance with
  | some cardId, some pre, some preBalance => broadcastSight (s.ownSighting cardId pre preBalance .torn) s
  | _, _, _ => s

/-- R19: a write is torn: SHOW SEE_AGENT, and the context returns to IDLE. -/
def torn (p : Port) (s : State) : State :=
  toIdle p (withdraw p (showNow p ⟨.seeAgent, none, none⟩ (broadcastTorn p (recordTorn p s))))

/-- R19, R41, R50: a write is torn and the confirming READ's image is a clone case. DEDUCED: the CardId leaves the in-flight set as the
write is found torn, also when the refusal carries the mark, of which R23, step 3, says that it stays until the MARK ends (log 50). -/
def tornClone (p : Port) (i : Image) (s : State) : State :=
  refuseClone p i.cardId .confirmConflict i.counter i.balance (withdraw p (broadcastTorn p (recordTorn p s)))

/-- R17: a confirming READ that showed nothing: a further one while Attempts is below Dialog.Retries; else torn. -/
def confirmAgain (p : Port) (s : State) : State :=
  if (s.ctx p).attempts < s.params.retries then
    issue p .confirmRead (s.onCtx p fun c => { c with attempts := c.attempts + 1 })
  else torn p s

/-- R17: a well-formed image of the CardId is judged. -/
def judgeConfirming (p : Port) (i : Image) (s : State) : State :=
  let c := s.ctx p
  if some i.counter = c.preCounter.map (· + 1) ∧ some i.balance = c.intended.map Intended.balance then concludeWrite p s
  else if some i.counter = c.preCounter ∧ some i.balance = c.preBalance then
    if c.reissued then torn p s else reissueCommit p s
  else tornClone p i s

/-! ### The proof queue (section 1.5) -/

/-- R9: the head request is sent as CHECK when no CHECK is outstanding. -/
def sendCheck (s : State) : State :=
  match s.dialog.proofQueue, s.dialog.proofTimer with
  | r :: _, none =>
    let tag := nextTag s.dialog.proofTag
    (s.onDialog fun d => { d with proofTag := tag, proofTimer := some s.params.proofTimeout }).send (.check tag r)
  | _, _ => s

/-- R8, R9: a request joins the tail of the proof queue. -/
def enqueueProof (r : ProofRequest) (s : State) : State :=
  sendCheck (s.onDialog fun d => { d with proofQueue := d.proofQueue ++ [r] })

/-- R9: the head leaves the queue and the next request is sent. -/
def popProof (s : State) : State :=
  sendCheck (s.onDialog fun d => { d with proofQueue := d.proofQueue.tail, proofTimer := none })

/-- R9: CHECK is sent again for the head with attempt 2. -/
def resendCheck (r : ProofRequest) (s : State) : State :=
  sendCheck (s.onDialog fun d => { d with proofQueue := { r with attempt := 2 } :: d.proofQueue.tail, proofTimer := none })

/-- R9, R11: the owning context records the outcome and enters JUDGING. -/
def proofKnown (p : Port) (o : ProofOutcome) (s : State) : State :=
  match (s.ctx p).state, (s.ctx p).image with
  | .checking, some i => judge p i o (s.onCtx p fun c => { c with state := .judging, proof := some o })
  | _, _ => s

/-- R9, R10: the CHECK of the head request has ended: `o` is its outcome, none for GARBLED or no answer. -/
def checkEnds (r : ProofRequest) (o : Option ProofOutcome) (s : State) : State :=
  if r.abandoned then popProof s
  else match o with
    | some x => proofKnown r.port x (popProof s)
    | none => if r.attempt = 1 then resendCheck r s else proofKnown r.port .unavailable (popProof s)

/-- R10: a context's request is abandoned: removed while it waits, kept at the head until its CHECK ends while in service. -/
def Dialogs.abandon (p : Port) (d : Dialogs) : Dialogs :=
  match d.proofQueue, d.proofTimer with
  | r :: rest, some _ =>
    { d with proofQueue := { r with abandoned := r.abandoned || r.port == p } :: rest.filter (fun x => x.port != p) }
  | q, _ => { d with proofQueue := q.filter fun x => x.port != p }

/-! ### A change of effective mode (R25) -/

/-- A context that a change of mode can refuse: from READING to RECKONING. -/
def DialogState.refusable : DialogState → Bool
  | .reading | .proving | .checking | .judging | .reckoning => true
  | .idle | .sensing | .committing | .confirming | .marking | .holding => false

/-- R25: a context is refused by a change of mode. -/
def refuseByMode (m : Mode) (p : Port) (s : State) : State :=
  match laneTest p m, (s.ctx p).state.refusable with
  | some code, true =>
    let t := (s.onDialog (Dialogs.abandon p)).onPort p fun l =>
      { l with outstanding := l.outstanding.map fun o => { o with dropped := true } }
    refuse p code false none t
  | _, _ => s

/-- R25: the Card Dialog Engine is told of the new mode; port A's context first (log 22). -/
def dialogsTold (m : Mode) (s : State) : State := refuseByMode m .b (refuseByMode m .a s)

end Sys2Proof.Machine
end

