-- ==== Sys2Proof/Machine/ModeOps.lean ====
section
/-! DEFINITION. The effective lane mode (sections 7.2 to 7.4), and the flap steps that report to it: a limit reached, a jam, a
retry (R126, R129, R130). -/

namespace Sys2Proof.Machine

open Sys2Proof

/-- R135: the effective mode that the lane's inputs give. -/
def Lane.derived (l : Lane) : Mode :=
  if l.emergency then .freeExit
  else if l.jam.isSome ∨ 2 ≤ l.faultBeams then .fault
  else l.cmd

/-- R136, step 1: the Count of the mode left. -/
def Lane.countOfMode (l : Lane) : Nat := if l.eff.holdsOpen then l.freeCount else 0

/-- R136: a MODE record's contents. -/
def modeContent (new : Mode) (count : Nat) : Content :=
  { kind := .mode, direction := none, reason := some (.mode new), count := some count }

/-- R136, step 3, R137: leaving service flushes both queues, IN first. -/
def flushOnLeaving (left new : Mode) (s : State) : State :=
  if left.inService = true ∧ new.inService = false then flush .outbound (flush .inbound s) else s

/-- R136, step 4, R138. -/
def freshCount (new : Mode) (s : State) : State :=
  if new.holdsOpen then s.onLane fun l => { l with freeCount := 0 } else s

/-- R136, steps 1 and 2: the change is recorded and its event sent, and the lane acts on the new mode from here on. -/
def reportMode (new : Mode) (s : State) : State :=
  let left := s.lane.eff
  let count := s.lane.countOfMode
  event (.modeChange left new count) (appendReserve (modeContent new count) (s.onLane fun l => { l with eff := new }))

/-- R136: a change of effective mode. -/
def changeMode (new : Mode) (s : State) : State :=
  let left := s.lane.eff
  closeTest (openTest (dialogsTold new (freshCount new (flushOnLeaving left new (reportMode new s)))))

/-- R135: the effective mode is derived; a derivation that gives the mode in effect changes nothing. -/
def deriveMode (s : State) : State := if s.lane.derived = s.lane.eff then s else changeMode s.lane.derived s

/-- R134: the Lane Sensor Unit reports the number of beams in FAULT. -/
def faultReport (n : Nat) (s : State) : State := deriveMode (s.onLane fun l => { l with faultBeams := n })

/-- R133: a level of the EMERGENCY pin is taken. -/
def takeEmergency (asserted : Bool) (s : State) : State :=
  let t := s.onLane fun l => { l with emergency := asserted, emergencyFilter := none }
  deriveMode (event (if asserted then .emergencyOn else .emergencyOff) t)

/-- R126: a motion that has reached its limit ends a jam, and the mode rule is told. -/
def clearJam (s : State) : State :=
  if s.lane.jam.isSome then deriveMode (s.onLane fun l => { l with jam := none }) else s

/-- R126: AT_OPEN in OPENING. -/
def reachOpen (s : State) : State :=
  clearJam (startCloseDelay (s.onLane fun l => { l with flap := .opened, motionTimer := none }))

/-- R126: AT_CLOSED in CLOSING: the jam first, then the release of the grant, then the open condition (log 25). -/
def reachClosed (s : State) : State :=
  openTest (releaseTest (clearJam (s.onLane fun l => { l with flap := .closed, motionTimer := none })))

/-- R126: the limit inputs as they stand, read against the motion in progress. -/
def readLimits (atOpen atClosed : Bool) (s : State) : State :=
  match s.lane.flap with
  | .opening => if atOpen then reachOpen s else s
  | .closing => if atClosed then reachClosed s else s
  | .closed | .opened | .jammed => s

/-- R129: a motion has jammed. -/
def jamMotion (m : Motion) (s : State) : State :=
  let t := s.onLane fun l => { l with flap := .jammed, motionTimer := none, jam := some m }
  deriveMode (event (.flapFault m)
    (appendReserve { kind := .fault, direction := none, reason := some (.fault .flapJam) } t))

/-- R130: the motion a retry makes: the jammed one, but toward open when the flap zone is blocked. -/
def Lane.retryMotion (l : Lane) : Flap := if l.jam = some .towardClosed ∧ l.flapZone = false then .closing else .opening

/-- R130: a LANE-MODE taken while the flaps are JAMMED starts a retry; FREE_EXIT turns one toward closed back (log 24). -/
def flapRetry (s : State) : State :=
  match s.lane.flap with
  | .jammed => openTest (startMotion s.lane.retryMotion s)
  | .closed | .opening | .opened | .closing => s

/-- R132, R189: a LANE-MODE that is taken: the mode commanded, the derivation, the retry. -/
def commandMode (m : Mode) (s : State) : State :=
  flapRetry (if s.lane.cmd = m then s else deriveMode (s.onLane fun l => { l with cmd := m }))

end Sys2Proof.Machine
end

