-- ==== Sys2Proof/Machine/TariffOps.lean ====
section
/-! DEFINITION. The Tariff Store's stage and switch (chapter 4): the four stage commands, each with the status of its reply, the
check sum, and the application of a switch. -/

namespace Sys2Proof.Machine

open Sys2Proof

/-! ### The stage's content -/

/-- R201: a MATRIX segment is LOADED when both its parts have been accepted. -/
def Stage.matrixLoaded (g : Stage) (i : Nat) : Bool :=
  (g.parts.getD (2 * i) none).isSome && (g.parts.getD (2 * i + 1) none).isSome

/-- Tariff.SegmentMap: true for LOADED, in the order of the segments' codes (section 4.2, section 11.5). -/
def Stage.loaded (g : Stage) : List Bool :=
  [g.station.isSome] ++ (List.range 8).map g.matrixLoaded
    ++ [g.bands.isSome, g.classes.isSome, g.rules.isSome, g.check.isSome]

/-- The fares of all the parts accepted, row by row. -/
def Stage.fares (g : Stage) : List Nat := g.parts.flatMap fun p => p.getD []

/-- R82: the bank the stage holds, when no segment is missing. -/
def Stage.bank (g : Stage) : Option Bank :=
  match g.station, g.bands, g.classes, g.rules, g.check with
  | some station, some bands, some classes, some rules, some check =>
    if g.parts.all Option.isSome then some ⟨g.tag, station, g.fares, bands, classes, rules, check⟩ else none
  | _, _, _, _, _ => none

/-- R77: the values of the ten rules. -/
def RulesSeg.values (r : RulesSeg) : List Int :=
  [r.transferWindow, r.transferDiscount, r.minEntryBalance, r.overdraft, r.maxFare, r.unclosedCharge, r.sameStationCharge,
    r.sameStationWindow, r.maxTrip, r.fareStep]

/-- R77: the values the check sum is taken over. -/
def Bank.values (b : Bank) : List Int :=
  ([(b.tag / 65536 : Nat), (b.tag % 65536 : Nat), b.station.stationCode, b.station.fareGroup] : List Int)
    ++ b.matrix.map (fun (f : Nat) => (f : Int))
    ++ [(b.bands.bands.length : Int)]
    ++ b.bands.bands.flatMap (fun (x : Band) => [(x.startSecs : Int), (x.factor : Int)])
    ++ [(b.bands.defaultBand : Int)]
    ++ b.classes.flatMap (fun (x : ClassRow) => [(x.factor : Int), (x.cap : Int)])
    ++ b.rules.values

/-- R77: the sum modulo 65,536 of the values, each taken modulo 65,536. -/
def Bank.checkSum (b : Bank) : Nat := ((b.values.map fun v => v % 65536).sum % 65536).toNat

/-- R77: the check passes. -/
def Bank.checks (b : Bank) : Bool := b.checkSum == b.check

/-! ### Loading a segment (R74 to R76) -/

/-- Cuts bytes into `n` pieces of `size` bytes each. -/
def pieces (size : Nat) : Nat → List Byte → List (List Byte)
  | 0, _ => []
  | n + 1, b => b.take size :: pieces size n (b.drop size)

/-- A value set to the nearer bound of its range, and whether it was clamped (R75). -/
def clampNat (lo hi v : Nat) : Nat := min hi (max lo v)

/-- R75: STATION from its 3 bytes. -/
def readStation (b : List Byte) : StationSeg × Bool :=
  let code := fieldAt b 0 2
  let group := fieldAt b 2 1
  let seg : StationSeg := ⟨clampNat 0 4095 code, clampNat 0 31 group⟩
  (seg, decide (seg ≠ ⟨code, group⟩))

/-- R76: the structure of BANDS: 1 to 4 bands, every StartSecs at most 86,399, strictly ascending. -/
def bandsWellFormed (bands : List Band) : Bool :=
  decide (1 ≤ bands.length) && decide (bands.length ≤ 4) && bands.all (fun x => decide (x.startSecs ≤ 86399))
    && decide (bands.Pairwise fun x y => x.startSecs < y.startSecs)

/-- R75, R76: BANDS from its bytes, none when a structural test fails. -/
def readBands (b : List Byte) : Option (BandsSeg × Bool) :=
  let n := fieldAt b 0 1
  let raw := (pieces 5 n (b.drop 1)).map fun x => (⟨fieldAt x 0 3, fieldAt x 3 2⟩ : Band)
  let default := fieldAt b (1 + 5 * n) 1
  if b.length = 2 + 5 * n ∧ bandsWellFormed raw = true then
    let seg : BandsSeg := ⟨raw.map fun x => { x with factor := clampNat 100 4000 x.factor }, clampNat 0 (n - 1) default⟩
    some (seg, decide (seg ≠ ⟨raw, default⟩))
  else none

/-- R75: CLASSES from its 32 bytes. -/
def readClasses (b : List Byte) : List ClassRow × Bool :=
  let raw := (pieces 4 8 b).map fun x => (⟨fieldAt x 0 2, fieldAt x 2 2⟩ : ClassRow)
  let rows := raw.map fun x => { x with factor := clampNat 0 1000 x.factor }
  (rows, decide (rows ≠ raw))

/-- R75: RULES from its 21 bytes. -/
def readRules (b : List Byte) : RulesSeg × Bool :=
  let raw : RulesSeg :=
    { transferWindow := fieldAt b 0 2, transferDiscount := fieldAt b 2 2
      minEntryBalance := ofBeSigned ((b.drop 4).take 3), overdraft := fieldAt b 7 2, maxFare := fieldAt b 9 2
      unclosedCharge := fieldAt b 11 2, sameStationCharge := fieldAt b 13 2, sameStationWindow := fieldAt b 15 2
      maxTrip := fieldAt b 17 3, fareStep := fieldAt b 20 1 }
  let seg : RulesSeg :=
    { raw with
      transferWindow := clampNat 0 7200 raw.transferWindow
      minEntryBalance := clampInt (-50000) 65535 raw.minEntryBalance
      overdraft := clampNat 0 50000 raw.overdraft
      sameStationWindow := clampNat 0 7200 raw.sameStationWindow
      maxTrip := clampNat 60 86399 raw.maxTrip
      fareStep := clampNat 1 100 raw.fareStep }
  (seg, decide (seg ≠ raw))

/-- R74, tests 3 to 5, and R75: the stage with one segment or MATRIX part stored, and whether a value was clamped; none when a
test fails. -/
def Stage.store (g : Stage) (segment part : Nat) (b : List Byte) : Option (Stage × Bool) :=
  match segment with
  | 0 => if part = 0 ∧ b.length = 3 then some ({ g with station := some (readStation b).1 }, (readStation b).2) else none
  | 9 =>
    if part = 0 then
      match readBands b with
      | some (seg, clamped) => some ({ g with bands := some seg }, clamped)
      | none => none
    else none
  | 10 => if part = 0 ∧ b.length = 32 then some ({ g with classes := some (readClasses b).1 }, (readClasses b).2) else none
  | 11 => if part = 0 ∧ b.length = 21 then some ({ g with rules := some (readRules b).1 }, (readRules b).2) else none
  | 12 => if part = 0 ∧ b.length = 2 then some ({ g with check := some (fieldAt b 0 2) }, false) else none
  | k =>
    if k ≤ 8 ∧ part ≤ 1 ∧ b.length = 128 then
      some ({ g with parts := g.parts.set (2 * (k - 1) + part) (some ((pieces 2 64 b).map ofBe)) }, false)
    else none

/-! ### The stage commands -/

/-- R80: the stage is replaced and a pending switch cancelled; the contexts held for it go on. -/
def replaceStage (g : Stage) (s : State) : State :=
  releaseHeldContexts (s.onTariff fun t => { t with stage := g, switch := .none, switchAt := none })

/-- R73: STAGE-OPEN. -/
def stageOpened (bankTag : Nat) (s : State) : Status × State :=
  if bankTag = 0 ∨ s.tariff.active.map Bank.tag = some bankTag then (.refusedValue, s)
  else (.done, replaceStage { state := .opened, tag := bankTag } s)

/-- R74: STAGE-LOAD. -/
def stageLoaded (bankTag segment part : Nat) (b : List Byte) (s : State) : Status × State :=
  if s.tariff.stage.state ≠ .opened then (.refusedState, s)
  else if s.tariff.stage.tag ≠ bankTag then (.refusedValue, s)
  else match s.tariff.stage.store segment part b with
    | some (g, clamped) => (if clamped then .clamped else .done, s.onTariff fun t => { t with stage := g })
    | none => (.refusedValue, s)

/-- R79: the effective time of a switch has come: at once when it has none. -/
def State.switchReached (s : State) : Bool :=
  match s.tariff.switchAt with
  | none => true
  | some at' => s.clock.state != .unset && decide (at'.absolute ≤ s.clock.time.absolute)

/-- R79: a WAITING switch is tested. -/
def testSwitch (s : State) : State :=
  if s.tariff.switch = .waiting ∧ s.switchReached = true then s.onTariff fun t => { t with switch := .due } else s

/-- R78: a switch is accepted: the stage COMPLETE, the effective time kept, WAITING and tested at once. -/
def acceptSwitch (effective : Option ServiceTime) (s : State) : State :=
  testSwitch (s.onTariff fun t =>
    { t with stage := { t.stage with state := .complete }, switch := .waiting, switchAt := effective })

/-- R80: a further STAGE-SWITCH replaces the effective time; a DUE switch stays DUE. -/
def retimeSwitch (effective : Option ServiceTime) (s : State) : State :=
  testSwitch (s.onTariff fun t => { t with switchAt := effective })

/-- R78: STAGE-SWITCH. -/
def stageSwitched (effective : Option ServiceTime) (s : State) : Status × State :=
  let badTime := effective.any fun e => decide (86399 < e.secs)
  match s.tariff.stage.state with
  | .closed => (.refusedState, s)
  | .opened =>
    if badTime then (.refusedValue, s)
    else match s.tariff.stage.bank with
      | none => (.incomplete, s)
      | some b => if b.checks then (.done, acceptSwitch effective s) else (.badCheck, s)
  | .complete => if badTime then (.refusedValue, s) else (.done, retimeSwitch effective s)

/-- R80: STAGE-DISCARD. -/
def stageDiscarded (s : State) : State :=
  match s.tariff.stage.state with
  | .closed => s
  | .opened | .complete => replaceStage {} s

/-! ### The application of a switch (R82) -/

/-- R81: a context is in its fare phase. -/
def DialogState.farePhase : DialogState → Bool
  | .reckoning | .committing | .confirming => true
  | .idle | .sensing | .reading | .proving | .checking | .judging | .marking | .holding => false

/-- R82: a DUE switch can be applied. -/
def State.switchReady (s : State) : Bool :=
  s.tariff.switch == .due && !(s.ctx .a).state.farePhase && !(s.ctx .b).state.farePhase

/-- R82: the stage's bank becomes the active bank, the event is sent, and the contexts held go on. -/
def applySwitch (b : Bank) (s : State) : State :=
  releaseHeldContexts (event (.bankActive b.tag)
    (s.onTariff fun _ => { active := some b, stage := {}, switch := .none, switchAt := none }))

end Sys2Proof.Machine
end

