-- ==== Sys2Proof/Machine/BeamOps.lean ====
section
/-! DEFINITION. The Lane Sensor Unit (chapter 5): the beam layer, the trim, the blocked view, the matching of bodies, the
reports of a view, the silence of the sensor port. -/

namespace Sys2Proof.Machine

open Sys2Proof

/-- Changes the record of one beam. -/
def onRecord (i : Nat) (f : BeamRecord → BeamRecord) (s : State) : State :=
  s.onBeam fun b => { b with records := b.records.put i (f (b.records.get i)) }

/-- The record of one beam. -/
def State.record (s : State) (i : Nat) : BeamRecord := s.beam.records.get i

/-! ### The beam layer (section 5.2) -/

/-- R90: the step of reference tracking for a difference d. -/
def trackStep (shift : Nat) (d : Int) : Int :=
  let step := d.tdiv (2 ^ shift)
  if step ≠ 0 then step else if 0 < d then 1 else if d < 0 then -1 else 0

/-- R90: the new Ref. -/
def trackedRef (q : Params) (ref level : Nat) : Nat :=
  let d : Int := level - ref
  (ref + trackStep (if (q.fastBound : Int) < d then q.fastShift else q.slowShift) d).toNat

/-- R89: a CLEAR beam counts toward BLOCKED; R90: it is tracked while the sample does not count. -/
def sampleClear (q : Params) (level : Nat) (r : BeamRecord) : BeamRecord :=
  if (q.blockLevel : Int) ≤ (r.ref : Int) - level then
    if q.debounce ≤ r.count + 1 then { r with state := .blocked, count := 0 } else { r with count := r.count + 1 }
  else { r with count := 0, ref := trackedRef q r.ref level }

/-- R89: a BLOCKED beam counts toward CLEAR. -/
def sampleBlocked (q : Params) (level : Nat) (r : BeamRecord) : BeamRecord :=
  if (r.ref : Int) - level ≤ (q.releaseLevel : Int) then
    if q.debounce ≤ r.count + 1 then { r with state := .clear, count := 0 } else { r with count := r.count + 1 }
  else { r with count := 0 }

/-- R88: a beam's record after one sample of it. -/
def sampleBeam (q : Params) (r : BeamRecord) (level : Nat) : BeamRecord :=
  let t := { r with level := level }
  match r.state with
  | .clear => sampleClear q level t
  | .blocked => sampleBlocked q level t
  | .trimming | .fault => t

/-- Two sixes joined beam by beam. -/
def Six.join {α β γ : Type} (f : α → β → γ) (x : Six α) (y : Six β) : Six γ :=
  ⟨f x.b1 y.b1, f x.b2 y.b2, f x.b3 y.b3, f x.b4 y.b4, f x.b5 y.b5, f x.b6 y.b6⟩

/-- R88, R91: the records after a sample set: an acquisition takes each level as the reference. -/
def Beams.sampled (q : Params) (levels : Six Nat) (b : Beams) : Beams :=
  if b.acquiring then
    { b with records := b.records.join (fun r l => { r with level := l, ref := l }) levels, acquiring := false }
  else { b with records := b.records.join (sampleBeam q) levels }

/-- The number of beams in FAULT. -/
def Beams.faults (b : Beams) : Nat := b.records.toList.countP fun r => r.state == .fault

/-! ### Trim (section 5.3) -/

/-- R93: the half-width of the band in levels. -/
def Params.bandLimit (q : Params) : Nat := q.target * q.band / 128

/-- R93: Ref lies below the band. -/
def Params.belowBand (q : Params) (ref : Nat) : Bool := decide (ref + q.bandLimit < q.target)

/-- R93: Ref lies above the band. -/
def Params.aboveBand (q : Params) (ref : Nat) : Bool := decide (q.target + q.bandLimit < ref)

/-- R93: Ref lies in the band. -/
def Params.inBand (q : Params) (ref : Nat) : Bool := !q.belowBand ref && !q.aboveBand ref

/-- R93: a candidate for a trim or a retry. -/
def Params.candidate (q : Params) (r : BeamRecord) : Bool :=
  (r.state == .clear && !q.inBand r.ref && r.count == 0) || (r.state == .fault && r.cause == some .trim && !r.tried)

/-- R93: the candidate of the lowest number. -/
def State.trimCandidate (s : State) : Option Nat := [1, 2, 3, 4, 5, 6].find? fun i => s.params.candidate (s.record i)

/-- R94: the Drive step a trim step needs, none when it would leave 0 to 63. -/
def Params.nextDrive (q : Params) (r : BeamRecord) : Option Nat :=
  if q.belowBand r.ref then (if r.drive < 63 then some (r.drive + 1) else none)
  else (if 0 < r.drive then some (r.drive - 1) else none)

/-- R94: a trim step. -/
def trimStep (i drive : Nat) (s : State) : State :=
  (onRecord i (fun r => { r with drive := drive, steps := r.steps + 1, settle := 0 }) s).send (.drive i drive)

/-- R95: a trim or a retry that succeeds. Settle 0 is the worked table's; Steps stands (log 51). -/
def trimSucceeds (i : Nat) (s : State) : State :=
  (onRecord i (fun r => { r with state := .clear, count := 0, cause := none, settle := 0 }) s).onBeam fun b =>
    { b with trimBeam := none }

/-- R95: the record and the event of a failed trim. -/
def trimFault (i : Nat) (s : State) : State :=
  event (.beamFault i)
    (appendReserve { kind := .fault, direction := none, reason := some (.fault .beamTrim), count := some i } s)

/-- R95: a trim that fails enters FAULT, with a record and an event; a retry that fails leaves its FAULT as it was. DESIGN CHOICE:
R95 names neither Settle nor Steps; Settle becomes 0 and Steps stands (log 51). -/
def trimFails (i : Nat) (s : State) : State :=
  let t := s.onBeam fun b => { b with trimBeam := none }
  if (t.record i).state = .fault then onRecord i (fun r => { r with settle := 0 }) t
  else trimFault i (onRecord i (fun r => { r with state := .fault, cause := some .trim, settle := 0 }) t)

/-- R94: the band test and the limits, after a settle and at the beginning of a trim (log 17). -/
def judgeTrim (i : Nat) (s : State) : State :=
  let r := s.record i
  if s.params.inBand r.ref then trimSucceeds i s
  else match s.params.nextDrive r with
    | some drive => if r.steps < s.params.trimSteps then trimStep i drive s else trimFails i s
    | none => trimFails i s

/-- R94: a sample set of a trim under way: Settle rises, and at its end Ref takes the sample's Level and is judged. -/
def settleTrim (i : Nat) (s : State) : State :=
  let t := onRecord i (fun r => { r with settle := r.settle + 1 }) s
  if s.params.trimSettle ≤ (t.record i).settle then judgeTrim i (onRecord i (fun r => { r with ref := r.level }) t) else t

/-- R96: a trimmed beam's record at an interruption; a retried FAULT beam keeps its fault and its Ref. -/
def interruptedRecord (r : BeamRecord) : BeamRecord :=
  if r.state = .trimming then { r with state := .clear, count := 0, ref := r.level, steps := 0, settle := 0 }
  else { r with steps := 0, settle := 0 }

/-- R96: a trim is interrupted. -/
def interruptTrim (i : Nat) (s : State) : State :=
  (onRecord i interruptedRecord s).onBeam fun b => { b with trimBeam := none }

/-- R96: a trim that still runs when a sample set has been processed is interrupted if the lane has ceased to be idle. -/
def interruptTest (s : State) : State :=
  match s.beam.trimBeam with
  | some i => if s.laneIdle then s else interruptTrim i s
  | none => s

/-- R88, R94, R96: the trim under way meets a sample set: the trimmed beam is processed with the other beams (R88's table), and
the interruption is tested after that. -/
def advanceTrim (s : State) : State :=
  match s.beam.trimBeam with
  | some i => interruptTest (settleTrim i s)
  | none => s

/-- R93: a candidate begins its trim or its retry. -/
def beginTrim (i : Nat) (s : State) : State :=
  let t := onRecord i (fun r =>
    if r.state = .fault then { r with tried := true, steps := 0 } else { r with state := .trimming, steps := 0 }) s
  judgeTrim i (t.onBeam fun b => { b with trimBeam := some i })

/-- R93: a candidate is sought when no trim runs and the lane is idle. -/
def seekTrim (s : State) : State :=
  if s.beam.trimBeam = none ∧ s.laneIdle = true then
    match s.trimCandidate with
    | some i => beginTrim i s
    | none => s
  else s

/-! ### The blocked view (section 5.4) -/

/-- R98: the reading of beam `i`; a FAULT beam is read by its neighbours. -/
def Beams.reads (b : Beams) (i : Nat) : Bool :=
  match (b.records.get i).state with
  | .blocked => true
  | .clear | .trimming => false
  | .fault =>
    match i with
    | 1 => (b.records.get 2).state == .blocked
    | 6 => (b.records.get 5).state == .blocked
    | _ => (b.records.get (i - 1)).state == .blocked && (b.records.get (i + 1)).state == .blocked

/-- R98: the blocked view, B1's reading first. -/
def Beams.view (b : Beams) : List Bool := [1, 2, 3, 4, 5, 6].map b.reads

/-- R98: the flap-zone reading. -/
def Beams.flapZone (b : Beams) : Bool := b.reads 3 || b.reads 4

/-- A run: its first and last beam (section 5.5). -/
abbrev Run := Nat × Nat

/-- The runs of a view from beam `i` on; `start` is the first beam of the run under way. -/
def runsFrom (i : Nat) (start : Option Nat) : List Bool → List Run
  | [] => (start.map fun f => (f, i - 1)).toList
  | true :: rest => runsFrom (i + 1) (some (start.getD i)) rest
  | false :: rest => (start.map fun f => (f, i - 1)).toList ++ runsFrom (i + 1) none rest

/-- The runs of a view, from B1 toward B6. -/
def runsOf (view : List Bool) : List Run := runsFrom 1 none view

/-! ### Bodies (section 5.5) -/

/-- R99: a run and a body overlap. -/
def Body.overlaps (b : Body) (r : Run) : Bool := decide (r.1 ≤ b.last) && decide (b.first ≤ r.2)

/-- R101: Reach never moves back toward the origin end. -/
def Body.reached (b : Body) : Body :=
  match b.origin with
  | .entryEnd => { b with reach := some (max (b.reach.getD b.last) b.last) }
  | .exitEnd => { b with reach := some (min (b.reach.getD b.first) b.first) }
  | .middle => { b with reach := none }

/-- R101: a body moves to a run. -/
def Body.moveTo (b : Body) (r : Run) : Body :=
  { b with first := r.1, last := r.2, long := b.long || decide (4 ≤ r.2 + 1 - r.1) }.reached

/-- R100, R103: a body absorbs a run: the smallest stretch that covers both, and Long set. -/
def Body.absorb (b : Body) (r : Run) : Body :=
  { b with first := min b.first r.1, last := max b.last r.2, long := true }.reached

/-- R100: the origin of a new body. -/
def runOrigin (r : Run) : Origin :=
  if r.1 = 1 ∧ r.2 ≠ 6 then .entryEnd else if r.2 = 6 ∧ r.1 ≠ 1 then .exitEnd else .middle

/-- R100: a new body. -/
def newBody (now : Nat) (r : Run) : Body :=
  Body.moveTo ⟨runOrigin r, r.1, r.2, none, false, false, now, false⟩ r

/-- R103: a split-off body. -/
def Body.splitOff (b : Body) (r : Run) : Body :=
  { b with first := r.1, last := r.2, reach := none, long := false }.reached

/-- R104: the body's Reach covers its crossing beam for the first time. -/
def Body.crosses (b : Body) : Bool :=
  !b.crossed && match b.origin, b.reach with
    | .entryEnd, some x => decide (4 ≤ x)
    | .exitEnd, some x => decide (x ≤ 3)
    | _, _ => false

/-- The direction of a body's crossing (R104). -/
def Origin.direction : Origin → Direction
  | .exitEnd => .outbound
  | .entryEnd | .middle => .inbound

/-- R103: of the runs of a group, the one the body keeps: the farthest from its origin end; the longest for MIDDLE. -/
def keptRun (o : Origin) : Run → List Run → Run
  | r, [] => r
  | r, x :: rest =>
    let better := match o with
      | .entryEnd => decide (r.2 < x.2)
      | .exitEnd => decide (x.1 < r.1)
      | .middle => decide (r.2 - r.1 < x.2 - x.1)
    keptRun o (if better then x else r) rest

/-- The kinds of departure (R105). -/
inductive Departure where
  | passage | retreat
  deriving DecidableEq, Repr

/-- R105: the kind of a departure, none for a MIDDLE body. -/
def Body.departure (b : Body) : Option Departure :=
  let far := match b.origin with
    | .entryEnd => decide (b.last = 6)
    | _ => decide (b.first = 1)
  let near := match b.origin with
    | .entryEnd => decide (b.first = 1)
    | _ => decide (b.last = 6)
  if b.origin = .middle then none
  else if far then some .passage
  else if near then some .retreat
  else some (if b.crossed then .passage else .retreat)

/-- A report of the Lane Sensor Unit to the Lane Controller (R107). -/
inductive Report where
  | faultCount (n : Nat)
  | flapZone (blocked : Bool)
  | appearance (o : Origin)
  | crossing (d : Direction) (long : Bool)
  | departure (o : Origin) (kind : Option Departure) (crossed : Bool)
  deriving DecidableEq, Repr

/-- A body with a number that names it while one view is matched. -/
abbrev Named := Nat × Body

/-- What the matching of one view has made so far: the body list, oldest first; the number of the next new body; the
appearances; the crossings found, each with the body that made it, or none for one reported at a merge (R102, R104). -/
structure Matching where
  bodies : List Named
  next : Nat
  appeared : List Origin := []
  crossings : List (Direction × Option Nat) := []
  deriving DecidableEq, Repr

/-- Writes a body of the list. -/
def Matching.put (m : Matching) (x : Named) : Matching :=
  { m with bodies := m.bodies.map fun y => if y.1 = x.1 then x else y }

/-- R104: a body is written, and its crossing noted if it crosses. -/
def Matching.settle (m : Matching) (x : Named) : Matching :=
  if x.2.crosses then
    { m.put (x.1, { x.2 with crossed := true }) with
      crossings := m.crossings ++ [(x.2.origin.direction, some x.1)] }
  else m.put x

/-- The list keeps its order by age: a split-off body stands after the bodies at least as old (log 21). -/
def insertByAge (x : Named) : List Named → List Named
  | [] => [x]
  | y :: ys => if y.2.since ≤ x.2.since then y :: insertByAge x ys else x :: y :: ys

/-- A group: the bodies, oldest first, and the runs, from B1 toward B6, that overlaps link (R99). -/
structure Group where
  bodies : List Named
  runs : List Run
  deriving DecidableEq, Repr

/-- Puts a run in its order from B1 toward B6. -/
def insertRun (r : Run) : List Run → List Run
  | [] => [r]
  | x :: xs => if r.1 < x.1 then r :: x :: xs else x :: insertRun r xs

/-- Puts a group in the order of its first run. -/
def insertGroup (g : Group) : List Group → List Group
  | [] => [g]
  | x :: xs =>
    if (g.runs.head?.map Prod.fst).getD 0 < (x.runs.head?.map Prod.fst).getD 0 then g :: x :: xs else x :: insertGroup g xs

/-- R99: a body joins the groups it overlaps into one; a body that overlaps none leaves them as they are. -/
def linkBody (gs : List Group) (x : Named) : List Group :=
  let touching := gs.filter fun g => g.runs.any x.2.overlaps
  let others := gs.filter fun g => !g.runs.any x.2.overlaps
  match touching with
  | [] => gs
  | _ =>
    insertGroup
      ⟨insertNamed x (touching.flatMap Group.bodies), (touching.flatMap Group.runs).foldl (fun l r => insertRun r l) []⟩ others
where
  /-- The bodies of a group stand in the order of the list, oldest first. -/
  insertNamed (x : Named) : List Named → List Named
    | [] => [x]
    | y :: ys => if x.1 < y.1 then x :: y :: ys else y :: insertNamed x ys

/-- R99: the groups of a view, from B1 toward B6. -/
def groupsOf (bodies : List Named) (runs : List Run) : List Group := bodies.foldl linkBody (runs.map fun r => ⟨[], [r]⟩)

/-- R102: the merged body absorbs another; the crossing reported at the merge, if there is one. -/
def Body.mergeWith (m a : Body) : Body × Option Direction :=
  let took := m.origin == .middle && a.origin != .middle
  let t := { m with long := true, origin := if took then a.origin else m.origin, reach := if took then a.reach else m.reach }
  if t.origin = a.origin ∧ a.origin ≠ .middle then
    ({ t with crossed := t.crossed || a.crossed },
      if t.crossed = true ∧ a.crossed = false then some t.origin.direction else none)
  else (t, none)

/-- R102: a body of a group leaves the list into the merged one, named `id`. -/
def Matching.merge (id : Nat) (m : Matching) (a : Named) : Matching :=
  match m.bodies.find? (fun x => x.1 == id) with
  | some x =>
    let r := x.2.mergeWith a.2
    { (m.put (id, r.1)) with
      bodies := (m.put (id, r.1)).bodies.filter fun y => y.1 != a.1
      crossings := m.crossings ++ (r.2.map fun d => (d, none)).toList }
  | none => m

/-- R103: a run the body does not keep becomes a split-off body, or is absorbed back when the list is full. -/
def Matching.split (id : Nat) (m : Matching) (r : Run) : Matching :=
  match m.bodies.find? (fun x => x.1 == id) with
  | some x =>
    if m.bodies.length < Config.bodyCapacity then
      { m with bodies := insertByAge (m.next, x.2.splitOff r) m.bodies, next := m.next + 1 }
    else m.settle (id, x.2.absorb r)
  | none => m

/-- R101 to R103: a group with bodies: the others merge into the oldest, it moves to its run, the other runs split off. -/
def Matching.group (m : Matching) (g : Group) : Matching :=
  match g.bodies, g.runs with
  | x :: others, r :: rest =>
    let merged := others.foldl (Matching.merge x.1) m
    match merged.bodies.find? (fun y => y.1 == x.1) with
    | some y =>
      let kept := keptRun y.2.origin r rest
      ((r :: rest).filter (· != kept)).foldl (Matching.split x.1) (merged.settle (x.1, y.2.moveTo kept))
    | none => merged
  | _, _ => m

/-- R100: the clear beams between a body's Span and a run. -/
def Body.distance (b : Body) (r : Run) : Nat := if b.last < r.1 then r.1 - b.last - 1 else b.first - r.2 - 1

/-- R100: of two bodies, the nearer to a run; the first at the same distance. -/
def nearerOf (r : Run) (x y : Named) : Named := if y.2.distance r < x.2.distance r then y else x

/-- R100: a run with no body appears, or is absorbed into the nearest body when the list is full. -/
def Matching.appear (now : Nat) (m : Matching) (r : Run) : Matching :=
  if m.bodies.length < Config.bodyCapacity then
    let b := newBody now r
    { m with
      bodies := m.bodies ++ [(m.next, b)], next := m.next + 1, appeared := m.appeared ++ [b.origin] }.settle (m.next, b)
  else match m.bodies with
    | [] => m
    | x :: xs =>
      let near := xs.foldl (nearerOf r) x
      m.settle (near.1, near.2.absorb r)

/-- The bodies of the list numbered by their place. -/
def numbered (bodies : List Body) : List Named := bodies.zipIdx.map fun x => (x.2, x.1)

/-- R99: the bodies that no run overlaps. -/
def departing (bodies : List Body) (runs : List Run) : List Body := bodies.filter fun b => !runs.any b.overlaps

/-- R99: a view matched against the body list: departures, then groups with bodies, then appearances. -/
def matchView (now : Nat) (bodies : List Body) (runs : List Run) : Matching :=
  let staying := (numbered bodies).filter fun x => runs.any x.2.overlaps
  let groups := groupsOf staying runs
  let start : Matching := { bodies := staying, next := bodies.length }
  let moved := (groups.filter fun g => !g.bodies.isEmpty).foldl Matching.group start
  ((groups.filter fun g => g.bodies.isEmpty).flatMap Group.runs).foldl (Matching.appear now) moved

/-- R104: a crossing with its body's Long as it stands after the view; Long is clear for one reported at a merge. -/
def Matching.crossingReport (m : Matching) (c : Direction × Option Nat) : Report :=
  .crossing c.1 (match c.2 with
    | some id => ((m.bodies.find? fun x => x.1 == id).map fun x => x.2.long).getD false
    | none => false)

/-- R107: the reports of a view, in their order. -/
def viewReports (s : State) (m : Matching) (left : List Body) : List Report :=
  (if s.beam.faults = s.lane.faultBeams then [] else [.faultCount s.beam.faults])
    ++ (if s.beam.flapZone = s.lane.flapZone then [] else [.flapZone s.beam.flapZone])
    ++ m.appeared.map Report.appearance
    ++ m.crossings.map m.crossingReport
    ++ left.map fun b => .departure b.origin b.departure b.crossed

/-- R107, R123: the Lane Controller takes a report. -/
def takeReport (s : State) : Report → State
  | .faultCount n => faultReport n s
  | .flapZone blocked => flapZoneReport blocked s
  | .appearance _ => makeBrisk s
  | .crossing d long => crossing d long s
  | .departure .. => releaseTest s

/-- R98, R99, R107: the blocked view is formed and matched, and its reports are taken. -/
def takeView (s : State) : State :=
  let runs := runsOf s.beam.view
  let m := matchView s.now s.beam.bodies runs
  let reports := viewReports s m (departing s.beam.bodies runs)
  reports.foldl takeReport (s.onBeam fun b => { b with bodies := m.bodies.map Prod.snd })

/-! ### The sensor port (section 5.1) -/

/-- R85: SAMPLE is sent with a new tag and the timer started with the period for the tempo. -/
def sendSample (s : State) : State :=
  let tag := nextTag s.beam.senseTag
  (s.onBeam fun b =>
    { b with senseTag := tag, sampleTimer := some (s.params.samplePeriod s.lane.tempo), answered := false }).send (.sample tag)

/-- R86: a beam's record at the silence. -/
def silencedRecord (r : BeamRecord) : BeamRecord :=
  if r.state = .fault then { r with steps := 0, settle := 0 }
  else { r with state := .fault, cause := some .silent, steps := 0, settle := 0 }

/-- R86: the port becomes silent: the beams, the body list, the report of the count, the record, the event. -/
def fallSilent (s : State) : State :=
  let entered := 6 - s.beam.faults
  let t := s.onBeam fun b =>
    { b with silent := true, trimBeam := none, records := b.records.map silencedRecord, bodies := [] }
  let u := releaseTest t
  let v := if u.beam.faults = u.lane.faultBeams then u else faultReport u.beam.faults u
  event (.beamFault 0)
    (appendReserve { kind := .fault, direction := none, reason := some (.fault .sensorSilent), count := some entered } v)

/-- R86: an expiry that finds no sample set taken since the previous SAMPLE. -/
def missPeriod (s : State) : State :=
  if s.beam.answered then s
  else
    let missed := min Config.missedLimit (s.beam.missed + 1)
    let t := s.onBeam fun b => { b with missed := missed }
    if missed = Config.missedLimit ∧ t.beam.silent = false then fallSilent t else t

/-- R86: a beam's record when the silence ends. -/
def unsilencedRecord (r : BeamRecord) : BeamRecord :=
  if r.cause = some .silent then { r with state := .clear, count := 0, cause := none } else r

/-- R85, R86: a sample set is taken: Missed 0, and a silence ends. -/
def Beams.received (b : Beams) : Beams :=
  { b with
    missed := 0, answered := true, silent := false
    records := if b.silent then b.records.map unsilencedRecord else b.records }

/-- R88: a sample set processed: the beams, the trim, the view. -/
def processSample (levels : Six Nat) (s : State) : State :=
  takeView (seekTrim (advanceTrim (s.onBeam fun b => (b.received).sampled s.params levels)))

/-- R106: the oldest body whose anomaly is due. -/
def State.anomalyDue (s : State) : Bool :=
  s.beam.bodies.any fun b => b.origin == .middle && !b.reported && decide (b.since + Config.anomalyAge ≤ s.now)

/-- R106: marks the oldest body whose anomaly is due. -/
def markReported (now : Nat) : List Body → List Body
  | [] => []
  | b :: bs =>
    if b.origin = .middle ∧ b.reported = false ∧ b.since + Config.anomalyAge ≤ now then { b with reported := true } :: bs
    else b :: markReported now bs

end Sys2Proof.Machine
end

