-- ==== Sys2Proof/Machine/CommandOps.lean ====
section
/-! DEFINITION. The execution of line commands by the Management Unit (chapter 10, R29, R158, R159): for each, the status of its
REPLY, the contents the REPLY carries, and the state after it. -/

namespace Sys2Proof.Machine

open Sys2Proof

/-- What a command's execution gives: a status, the contents of a REPLY, and the state after (R184). -/
structure Executed where
  status : Status
  contents : ReplyContents
  state : State
  deriving DecidableEq, Repr

/-- A command refused, or answered with a status alone, that changes nothing. -/
def unchanged (r : Status) (s : State) : Executed := ⟨r, .nothing, s⟩

/-- An execution whose REPLY carries no contents. -/
def bare (r : Status × State) : Executed := ⟨r.1, .nothing, r.2⟩

/-! ### TIME (R198) -/

/-- R198: the clock is set and its age started afresh; a WAITING switch is tested (R79). -/
def setClock (date secs : Nat) (s : State) : State :=
  testSwitch (s.onMgmt fun m =>
    { m with clock := ⟨⟨date, secs⟩, .good⟩, timeAge := some (s.params.timeStale * 1000) })

/-- R198: TIME. -/
def runTime (date secs : Nat) (s : State) : Executed :=
  if 86399 < secs then unchanged .refusedValue s else ⟨.done, .nothing, setClock date secs s⟩

/-! ### SET (R186) -/

/-- R111: the credits of a direction whose Wait equals or exceeds the limit lapse, head first. -/
def lapseWaited (d : Direction) (s : State) : State :=
  ((s.lane.credits.get d).filter fun c => decide (s.params.waitLimit * 1000 ≤ c.wait)).foldl (fun t c => lapse d c .wait t) s

/-- R111, R186: the parameters replaced; a lowered wait limit acts at once, on every credit, IN first; a limit that is not lowered
lapses none. DEDUCED: a SET sends no event and writes no record of its own (R186), but the lapses it brings on write their LAPSE
records (R112), and these records can send JOURNAL_HIGH or JOURNAL_FULL as any append can (R155, R156; log 23). -/
def replaceParams (q : Params) (s : State) : State :=
  let t := { s with params := q }
  if q.waitLimit < s.params.waitLimit then lapseWaited .outbound (lapseWaited .inbound t) else t

/-- R184, R186: a SET that is taken: 1 to 47 entries, each naming a parameter the part knows. -/
def setTaken (entries : List (Byte × Int)) : Bool :=
  decide (1 ≤ entries.length) && decide (entries.length ≤ 47) && entries.all fun e => knownParam e.1.toNat

/-- R186: the parameters after a SET, and whether any value was set to a bound. -/
def Params.set (q : Params) (entries : List (Byte × Int)) : Params × Bool :=
  let r := q.applyEntries entries
  let t := r.1.dependentBounds
  (t.1, r.2 || t.2)

/-- R186: SET. -/
def runSet (entries : List (Byte × Int)) (s : State) : Executed :=
  if setTaken entries then
    let r := s.params.set entries
    ⟨if r.2 then .clamped else .done, .set (entries.map fun e => (e.1, r.1.read e.1.toNat)), replaceParams r.1 s⟩
  else unchanged .refusedValue s

/-! ### QUERY (R187) -/

/-- R113, R187: one direction's group of the QUERY reply. -/
def Lane.report (l : Lane) (d : Direction) : CreditReport :=
  ⟨(l.credits.get d).length, l.reserved.get d, l.counts.get d, (l.credits.get d).head?⟩

/-- R187: the snapshot of the part. -/
def State.snapshot (s : State) : Snapshot where
  address := s.line.address
  connected := s.line.connected
  link := s.line.link
  holdOut := s.line.holdOut
  freeBuffers := s.line.free
  fromUp := s.line.count (.port .up)
  fromDown := s.line.count (.port .down)
  own := s.line.count .own
  clock := ⟨s.stamp, s.clock.state⟩
  freshStart := s.mgmt.freshStart
  restartPending := s.mgmt.restartPending
  eventNo := s.mgmt.eventNo
  cmd := s.lane.cmd
  eff := s.lane.eff
  emergency := s.lane.emergency
  faultBeams := s.lane.faultBeams
  grant := s.lane.grant
  flap := s.lane.flap
  flapJam := s.lane.jam.isSome
  tempo := s.lane.tempo
  freeCount := s.lane.freeCount
  tallySteps := s.lane.tally.length
  credits := ⟨s.lane.report .inbound, s.lane.report .outbound⟩
  dialogs := ⟨(s.ctx .a).state, (s.ctx .b).state⟩
  beams := s.beam.records.map BeamRecord.state
  silent := s.beam.silent
  denyEntries := s.standing.deny.length
  sightingRecords := s.standing.sightings.length
  recoveryEntries := s.standing.recovery.length
  activeTag := (s.tariff.active.map Bank.tag).getD 0
  stageState := s.tariff.stage.state
  stageTag := s.tariff.stage.tag
  segmentMap := s.tariff.stage.loaded
  switch := s.tariff.switch
  switchAt := s.tariff.switchAt
  recordCount := s.journal.records.length
  oldestSeq := s.journal.oldestSeq
  journalFree := s.journal.free
  journalHeld := s.journal.held
  flags := s.mgmt.flags
  overflow := s.journal.overflow

/-- R187, R188: QUERY: the snapshot, and in the same step every sticky flag made CLEAR. -/
def runQuery (s : State) : Executed := ⟨.done, .query s.snapshot, clearFlags s⟩

/-! ### DENY-ADD and DENY-DROP (R29) -/

/-- The deny reason of a code, none for a code that is not one of the named values. -/
def denyReasonOf (b : Byte) : Option DenyReason :=
  match b.toNat with
  | 0 => some .lost
  | 1 => some .stolen
  | 2 => some .clone
  | 3 => some .fraud
  | 4 => some .other
  | _ => none

/-- The deny action of a code. -/
def denyActionOf (b : Byte) : Option DenyAction :=
  match b.toNat with
  | 0 => some .refuse
  | 1 => some .refuseAndMark
  | _ => none

/-- R29: an entry of Origin HEAD is added or replaces the one present. -/
def putDeny (e : DenyEntry) (s : State) : State :=
  s.onStanding fun t => { t with deny := putBy DenyEntry.cardId e t.deny }

/-- R29: DENY-ADD. -/
def runDenyAdd (cardId : Nat) (reason action : Byte) (s : State) : Executed :=
  match denyReasonOf reason, denyActionOf action with
  | some r, some a =>
    if namesCard cardId = false then unchanged .refusedValue s
    else if (s.denied cardId).isSome ∨ s.standing.deny.length < Config.denyCapacity then
      ⟨.done, .nothing, putDeny ⟨cardId, r, .head, a⟩ s⟩
    else unchanged .full s
  | _, _ => unchanged .refusedValue s

/-- R29: DENY-DROP. -/
def runDenyDrop (cardId : Nat) (s : State) : Executed :=
  if (s.denied cardId).isSome then
    ⟨.done, .nothing, s.onStanding fun t => { t with deny := dropBy DenyEntry.cardId cardId t.deny }⟩
  else unchanged .absent s

/-! ### COLLECT and TRIM (R158, R159) -/

/-- R158: COLLECT. -/
def runCollect (k : Nat) (s : State) : Executed := ⟨.done, s.journal.collect k, s⟩

/-- R159: a TRIM that is taken names the oldest record, and asks for at most 512. -/
def Journal.trims (j : Journal) (firstSeq n : Nat) : Bool :=
  decide (n ≤ 512) && !j.records.isEmpty && j.oldestSeq == firstSeq

/-- R159: TRIM. -/
def runTrim (firstSeq n : Nat) (s : State) : Executed :=
  if s.journal.trims firstSeq n then
    let j := s.journal.trim n
    ⟨.done, .trim (min n s.journal.records.length) j.records.length j.oldestSeq, s.onJournal (Journal.trim n)⟩
  else unchanged .refusedValue s

/-! ### LANE-MODE, ACK-START and RESTART (R189 to R192) -/

/-- R191: the start-up conditions. -/
def State.startUpComplete (s : State) : Bool :=
  decide (1 ≤ s.line.address) && decide (s.line.address ≤ 62) && s.clock.state != .unset && s.tariff.active.isSome
    && !s.mgmt.freshStart

/-- The mode a LANE-MODE names. -/
def laneModeOf (b : Byte) : Option Mode :=
  match b.toNat with
  | 0 => some .normal
  | 1 => some .entryOnly
  | 2 => some .exitOnly
  | 3 => some .closed
  | _ => none

/-- R189: what LANE-MODE does, before its REPLY is made. -/
def laneModeTaken (m : Option Mode) (s : State) : Status × State :=
  match m with
  | none => (.refusedValue, s)
  | some m => if m = .closed ∨ s.startUpComplete = true then (.done, commandMode m s) else (.refusedState, s)

/-- R189, section 11.2: the REPLY to LANE-MODE carries the modes after the command, whatever its status. -/
def withModes (r : Status × State) : Executed := ⟨r.1, .laneMode r.2.lane.cmd r.2.lane.eff, r.2⟩

/-- R190: ACK-START. -/
def runAckStart (s : State) : Executed := ⟨.done, .nothing, s.onMgmt fun m => { m with freshStart := false }⟩

/-- R192: RESTART. -/
def runRestart (s : State) : Executed := ⟨.done, .nothing, s.onMgmt fun m => { m with restartPending := true }⟩

/-! ### Every command -/

/-- R184, R185: a line command executed. -/
def execute (c : LineCommand) (s : State) : Executed :=
  match c with
  | .time date secs => runTime date secs s
  | .set entries => runSet entries s
  | .query => runQuery s
  | .stageOpen tag => bare (stageOpened tag s)
  | .stageLoad tag segment part values => bare (stageLoaded tag segment.toNat part.toNat values s)
  | .stageSwitch effective => bare (stageSwitched (effective.map fun e => ⟨e.1, e.2⟩) s)
  | .stageDiscard => ⟨.done, .nothing, stageDiscarded s⟩
  | .denyAdd cardId reason action => runDenyAdd cardId reason action s
  | .denyDrop cardId => runDenyDrop cardId s
  | .collect k => runCollect k.toNat s
  | .trim firstSeq n => runTrim firstSeq n s
  | .laneMode m => withModes (laneModeTaken (laneModeOf m) s)
  | .ackStart => runAckStart s
  | .restart => runRestart s

/-- R185: a command that a broadcast executes. -/
def LineCommand.actsAsBroadcast : LineCommand → Bool
  | .query | .collect _ | .trim _ _ | .ackStart | .restart => false
  | .time _ _ | .set _ | .stageOpen _ | .stageLoad _ _ _ _ | .stageSwitch _ | .stageDiscard | .denyAdd _ _ _ | .denyDrop _
  | .laneMode _ => true

end Sys2Proof.Machine
end

