-- ==== Sys2Proof/Machine/LineOps.lean ====
section
/-! DEFINITION. The Line Interface Unit (chapter 9): reception, routing and hand-over of frames, the frames held for a reply,
enumeration, transmission, line teardown; and how the REPLY of a RESTART decides the warm reset (R192). -/

namespace Sys2Proof.Machine

open Sys2Proof

/-! ### Buffers in reception (R165, R168, R176) -/

/-- R165: a frame start finds a buffer. -/
def LineIf.receives (l : LineIf) (p : LinePort) : Bool := decide (l.count (.port p) < Config.portQuota) && decide (1 ≤ l.free)

/-- R165: reception begins, or the frame is not received and OVERRUN is set. -/
def startReception (p : LinePort) (s : State) : State :=
  if s.line.receives p then s.onBuffers fun l => { l with receiving := l.receiving.put p true } else setOverrun s

/-- The buffer in reception on a port returns to the free list. -/
def freeReception (p : LinePort) (s : State) : State :=
  s.onBuffers fun l => { l with receiving := l.receiving.put p false }

/-- R168: the buffer in reception on a port goes to the tail of the other port's relay queue, or is freed while that port's
link is DOWN. A broadcast's Hops falls by 1. -/
def relay (p : LinePort) (f : Frame) (s : State) : State :=
  let out := otherLine p
  if s.line.link.get out then
    s.onBuffers fun l =>
      { l with
        receiving := l.receiving.put p false
        relayQ := l.relayQ.put out
          (l.relayQ.get out ++ [⟨if f.dest = broadcastDest then { f with hops := f.hops - 1 } else f, .port p, false⟩]) }
  else freeReception p s

/-- R192: the REPLY that decides the moment of the warm reset has left the part's hands. -/
def replyGone (restart : Bool) (s : State) : State :=
  if restart then s.onMgmt fun m => { m with restartReplyGone := true } else s

/-- R176: the buffer in reception on a port is held for the frame to be built in it, or freed, and the frame abandoned, while
the link of the port it is bound for is DOWN. -/
def holdReception (p bound : LinePort) (content : HeldContent) (restart : Bool) (s : State) : State :=
  if s.line.link.get bound then
    s.onBuffers fun l =>
      { l with receiving := l.receiving.put p false, held := l.held ++ [⟨p, bound, content, restart⟩] }
  else replyGone restart (freeReception p s)

/-! ### Taking a frame (R169, R170, R184, R185) -/

/-- R184: a command addressed to this gate is executed, and its REPLY held for the up port. The REPLY of the RESTART that sets
RestartPending is the one that decides the reset (R192). -/
def runAddressed (p : LinePort) (tag : Byte) (c : LineCommand) (s : State) : State :=
  let x := execute c s
  holdReception p .up (.reply ⟨c.kind, tag, x.status, x.contents⟩) (c == .restart && !s.mgmt.restartPending) x.state

/-- R184, section 11.2: the REPLY to a command whose payload has not the length of its Kind. -/
def malformedReply (kind tag : Byte) (s : State) : Reply :=
  ⟨kind, tag, .refusedValue, if kind = 13 then .laneMode s.lane.cmd s.lane.eff else .nothing⟩

/-- R169: a frame addressed to this gate is handed over. -/
def takeAddressed (p : LinePort) (f : Frame) (s : State) : State :=
  match parseBody f.kind f.payload with
  | .command tag c => runAddressed p tag c s
  | .malformed tag => holdReception p .up (.reply (malformedReply f.kind tag s)) false s
  | .unknown => holdReception p .up (.reply ⟨f.kind, 0, .unknown, .nothing⟩) false s
  | .sight x => freeReception p (takeSight x s)
  | .suspect x => freeReception p (takeSuspect x s)
  | .enumerate _ | .inert => freeReception p s

/-- R169, R185: what a broadcast does at this gate, before its buffer goes on. -/
def actOnBroadcast (f : Frame) (s : State) : State :=
  match parseBody f.kind f.payload with
  | .command _ c => if c.actsAsBroadcast then (execute c s).state else s
  | .sight x => takeSight x s
  | .suspect x => takeSuspect x s
  | .malformed _ | .unknown | .enumerate _ | .inert => s

/-- R167, R168, line 2: a broadcast is taken, and relayed when Hops is above 0. -/
def takeBroadcast (p : LinePort) (f : Frame) (s : State) : State :=
  let t := actOnBroadcast f s
  if 0 < f.hops then relay p f t else freeReception p t

/-- R170: an ENUMERATE is taken from the up port. -/
def runEnumerate (n : Byte) (s : State) : State :=
  let k := n.toNat
  if k = 0 then freeReception .up s
  else if k ≤ 62 then
    let t := s.onLine fun l => { l with address := k }
    if t.line.link.down then holdReception .up .down (.enumerate (byte (k + 1))) false t
    else holdReception .up .up (.enumEnd n false) false t
  else holdReception .up .up (.enumEnd n true) false (s.onLine fun l => { l with address := 0 })

/-- R170: the enumeration takes a frame of Kind ENUMERATE; one of another length is not acted on (log 11). -/
def takeEnumerate (f : Frame) (s : State) : State :=
  match parseBody f.kind f.payload with
  | .enumerate n => runEnumerate n s
  | _ => freeReception .up s

/-- R167, R168: the Dest names this gate. -/
def LineIf.addressed (l : LineIf) (f : Frame) : Bool := l.address != 0 && f.dest.toNat == l.address

/-- R167: a good frame from the up port is routed. -/
def routeUp (f : Frame) (s : State) : State :=
  if f.kind = 0 then takeEnumerate f s
  else if f.dest = broadcastDest then takeBroadcast .up f s
  else if s.line.addressed f then takeAddressed .up f s
  else if f.dest = 0 ∨ 63 < f.dest.toNat then freeReception .up s
  else relay .up f s

/-- R168: a good frame from the down port is routed. -/
def routeDown (f : Frame) (s : State) : State :=
  if f.kind = 0 then freeReception .down s
  else if f.dest = broadcastDest then takeBroadcast .down f s
  else if s.line.addressed f then takeAddressed .down f s
  else if 63 < f.dest.toNat then freeReception .down s
  else relay .down f s

/-- R179: a good frame on the up port starts the silence timer afresh and makes the part CONNECTED. -/
def heardHead (s : State) : State :=
  s.onLine fun l => { l with silenceTimer := some (s.params.silence * 1000), connected := true }

/-- R166: a good frame, whose buffer is in reception on the port. -/
def goodFrame (p : LinePort) (f : Frame) (s : State) : State :=
  match p with
  | .up => routeUp f (heardHead s)
  | .down => routeDown f s

/-- R166: reception ends: the frame is discarded, or good. -/
def endReception (p : LinePort) (bytes : List Byte) (endMark : Bool) (s : State) : State :=
  match parseFrame bytes endMark with
  | some f => goodFrame p f s
  | none => freeReception p s

/-! ### A whole good frame (log 4) -/

/-- The frame an Arrival brings; none when it would be addressed to a gate that has no address. -/
def State.arriving (s : State) (a : Arrival) (kind : Byte) (payload : List Byte) : Option Frame :=
  if a.broadcast then some ⟨kind, broadcastDest, a.src, a.hops, payload⟩
  else if s.line.address = 0 then none
  else some ⟨kind, byte s.line.address, a.src, a.hops, payload⟩

/-- A whole good frame arrives: it ends the reception under way, or its start and its end come in one step. Nothing begins
while the link is DOWN; a start that finds no buffer sets OVERRUN. -/
def arrive (a : Arrival) (kind : Byte) (payload : List Byte) (s : State) : Option State :=
  match s.arriving a kind payload with
  | none => none
  | some f =>
    if s.line.receiving.get a.port then some (goodFrame a.port f s)
    else if s.line.link.get a.port = false then none
    else
      let t := startReception a.port s
      some (if t.line.receiving.get a.port then goodFrame a.port f t else t)

/-- A line command arrives as a whole good frame. -/
def arriveCommand (a : Arrival) (tag : Byte) (c : LineCommand) (s : State) : Option State :=
  arrive a c.kind (tag :: c.fields) s

/-! ### Transmission (R175) -/

/-- R175: a port can begin a transmission. -/
def State.transmits (s : State) (p : LinePort) : Bool :=
  (s.line.tx.get p).isNone && s.line.link.get p && !s.pins.hold.get p
    && !((s.line.relayQ.get p).isEmpty && (s.line.localQ.get p).isEmpty)

/-- R175: the frame at the head of the relay queue is picked. -/
def LineIf.pickRelay (p : LinePort) (b : Buffered) (rest : List Buffered) (l : LineIf) : LineIf :=
  { l with relayQ := l.relayQ.put p rest, tx := l.tx.put p (some b), turn := l.turn.put p .relay }

/-- R175: the frame at the head of the local queue is picked. -/
def LineIf.pickLocal (p : LinePort) (b : Buffered) (rest : List Buffered) (l : LineIf) : LineIf :=
  { l with localQ := l.localQ.put p rest, tx := l.tx.put p (some b), turn := l.turn.put p .own }

/-- R175: the arbiter picks one frame: of two queues that hold frames, the one that Turn does not name. -/
def LineIf.pick (p : LinePort) (l : LineIf) : LineIf :=
  match l.relayQ.get p, l.localQ.get p with
  | [], [] => l
  | b :: rest, [] => l.pickRelay p b rest
  | [], b :: rest => l.pickLocal p b rest
  | r :: rs, o :: os => match l.turn.get p with
    | .relay => l.pickLocal p o os
    | .own => l.pickRelay p r rs

/-- R175: the last byte of the frame in transmission has been sent: its buffer is free again. -/
def endTransmission (p : LinePort) (b : Buffered) (s : State) : State :=
  replyGone b.restart ((s.onBuffers fun l => { l with tx := l.tx.put p none }).send (.frame p b.frame))

/-! ### Links (R163, R164) -/

/-- R164: whether a teardown of the port discards the REPLY that decides the warm reset. -/
def LineIf.losesRestart (l : LineIf) (p : LinePort) : Bool :=
  ((l.tx.get p).toList ++ l.relayQ.get p ++ l.localQ.get p).any Buffered.restart
    || l.held.any fun h => h.bound == p && h.restart

/-- R164: the buffers a teardown of the port frees. -/
def LineIf.tearDown (p : LinePort) (l : LineIf) : LineIf :=
  { l with
    receiving := l.receiving.put p false
    tx := l.tx.put p none
    relayQ := l.relayQ.put p []
    localQ := l.localQ.put p []
    held := l.held.filter fun h => h.bound != p }

/-- A frame in transmission is cut off (R164, R181). -/
def cutOff (p : LinePort) (s : State) : State :=
  match s.line.tx.get p with
  | some b => s.send (.cutOff p b.frame)
  | none => s

/-- R164: a line teardown of a port. -/
def tearDown (p : LinePort) (s : State) : State :=
  replyGone (s.line.losesRestart p) ((cutOff p s).onBuffers (LineIf.tearDown p))

/-- R163: a level of a link detect input is taken. -/
def takeLink (p : LinePort) (up : Bool) (s : State) : State :=
  let t := s.onLine fun l => { l with link := l.link.put p up, linkFilter := l.linkFilter.put p none }
  if up then t else tearDown p t

end Sys2Proof.Machine
end

