-- ==== Sys2Proof/Machine/AnswerOps.lean ====
section
/-! DEFINITION. How a verb's ending acts on its dialog (R3 to R8, R16 to R18, R24): the endings by answer, and those by deadline. -/

namespace Sys2Proof.Machine

open Sys2Proof

/-! ### SENSE (R5, R6) -/

/-- R5, R6: the context goes back to waiting for the card it was waiting for: HOLDING keeps its card, SENSING becomes IDLE. -/
def pollAgain (p : Port) (s : State) : State := if (s.ctx p).state = .holding then startPoll p s else toIdle p s

/-- R5, R6: the results of SENSE. -/
def senseFound (p : Port) (r : SenseResult) (s : State) : State :=
  match r with
  | .noCard => toIdle p s
  | .clash => pollAgain p (showNow p ⟨.oneCard, none, none⟩ s)
  | .card c => if (s.ctx p).state = .holding ∧ (s.ctx p).cardId = some c then startPoll p s else startDialog p c s

/-- R4, R5, R6: a SENSE that ended with no answer or GARBLED. -/
def senseFailed (p : Port) (s : State) : State := retryOr p .sense (toIdle p) s

/-- R5, R6: the endings of SENSE by answer; none for contents of no layout (log 8). -/
def senseEnds (p : Port) (e : Ending) (s : State) : Option State :=
  match e with
  | .answered b => (parseSense b).map fun r => senseFound p r s
  | .fieldLost => some (toIdle p s)
  | .garbled => some (senseFailed p s)

/-! ### READ (R7) -/

/-- R7: a well-formed image that can take a write is kept, and PROVE is issued. -/
def keepImage (p : Port) (i : Image) (s : State) : State :=
  issueFirst p .prove (s.onCtx p fun c =>
    { c with state := .proving, image := some i, preCounter := some i.counter, preBalance := some i.balance })

/-- R7: the image of the context's card is checked for structure. -/
def imageRead (p : Port) (b : List Byte) (s : State) : State :=
  match parseImage b with
  | none => refuse p .malformed false none s
  | some i => if i.counter = 65535 then refuse p .exhausted false none s else keepImage p i s

/-- R4, R7: a READ that ended with no answer or GARBLED. -/
def readFailed (p : Port) (s : State) : State := retryOr p .read (tryAgain p false) s

/-- R7: the endings of READ by answer; an image too short to name a card is malformed (log 45). -/
def readEnds (p : Port) (e : Ending) (s : State) : Option State :=
  match e with
  | .answered b => some (match imageCardId b with
    | none => refuse p .malformed false none s
    | some c => if (s.ctx p).cardId = some c then imageRead p b s else readFailed p s)
  | .fieldLost => some (tryAgain p true s)
  | .garbled => some (readFailed p s)

/-! ### PROVE (R8) -/

/-- R8: the proof goes into the proof queue, and the context enters CHECKING. -/
def proofGiven (p : Port) (challenge proof : BitVec 64) (s : State) : State :=
  let c := s.ctx p
  enqueueProof
    { port := p, cardId := c.cardId.getD 0, keyGen := (c.image.map Image.keyGen).getD 0, challenge := challenge
      proof := proof }
    (s.onCtx p fun x => { x with state := .checking, attempts := 0 })

/-- R4, R8: a PROVE that ended with no answer or GARBLED. -/
def proveFailed (p : Port) (s : State) : State := retryOr p .prove (tryAgain p false) s

/-- R8: the endings of PROVE by answer. -/
def proveEnds (p : Port) (challenge : BitVec 64) (e : Ending) (s : State) : Option State :=
  match e with
  | .answered b => (parseProof b).map fun x => proofGiven p challenge x s
  | .fieldLost => some (tryAgain p true s)
  | .garbled => some (proveFailed p s)

/-! ### COMMIT, confirming READ, reissued COMMIT (R16 to R18) -/

/-- R16: the endings of COMMIT by answer. -/
def commitEnds (p : Port) (e : Ending) (s : State) : Option State :=
  match e with
  | .answered b => (parseCommit b).map fun
    | .ok => concludeWrite p s
    | .mismatch => refuse p .cardChanged false none s
    | .fail => enterConfirming p s
  | .fieldLost | .garbled => some (enterConfirming p s)

/-- R17: an image of the context's card, none for a malformed image or another card's. -/
def confirmingImage (c : Context) (b : List Byte) : Option Image :=
  match parseImage b with
  | some i => if c.cardId = some i.cardId then some i else none
  | none => none

/-- R17: the endings of a confirming READ by answer. -/
def confirmEnds (p : Port) (e : Ending) (s : State) : State :=
  match e with
  | .answered b => match confirmingImage (s.ctx p) b with
    | some i => judgeConfirming p i s
    | none => confirmAgain p s
  | .fieldLost | .garbled => confirmAgain p s

/-- R18: the endings of a reissued COMMIT by answer. -/
def reissueEnds (p : Port) (e : Ending) (s : State) : Option State :=
  match e with
  | .answered b => (parseCommit b).map fun
    | .ok => concludeWrite p s
    | .mismatch | .fail => enterConfirming p s
  | .fieldLost | .garbled => some (enterConfirming p s)

/-! ### MARK (R24) -/

/-- R24: the endings of MARK by answer. -/
def markEndsBy (p : Port) (e : Ending) (s : State) : Option State :=
  match e with
  | .answered b => if b = [] then some (markEnds p false s) else none
  | .fieldLost => some (markEnds p true s)
  | .garbled => some (markEnds p false s)

/-! ### Which answers are taken (R3), and what an expiry does (R4) -/

/-- R3: an answer that carries the Tag of the verb outstanding is taken and the verb ends; any other has no effect. The answer
of a verb whose context was refused meanwhile is discarded (R25). -/
def onAnswer (p : Port) (u : Purpose) (message : List Byte) (r : Outstanding → Ending → State → Option State)
    (s : State) : Option State :=
  match (s.port p).outstanding, parseAnswer message with
  | some o, some (code, tag, e) =>
    if o.purpose = u ∧ code = u.code ∧ tag = o.tag then
      if o.dropped then some (droppedVerbEnds p s) else r o e (endVerb p s)
    else none
  | _, _ => none

/-- R4, R16 to R18, R24: a verb has ended with no answer. -/
def noAnswer (p : Port) (u : Purpose) (s : State) : State :=
  match u with
  | .sense => senseFailed p s
  | .read => readFailed p s
  | .prove => proveFailed p s
  | .commit | .reissue => enterConfirming p s
  | .confirmRead => confirmAgain p s
  | .mark => markEnds p false s

/-- R3: the deadline of the verb outstanding on a port has expired. -/
def deadlineExpires (p : Port) (o : Outstanding) (s : State) : State :=
  if o.dropped then droppedVerbEnds p s else noAnswer p o.purpose (endVerb p s)

/-- R5, R6: the poll timer has expired: any pending SHOW, then SENSE. -/
def pollExpires (p : Port) (s : State) : State :=
  issueFirst p .sense (s.onCtx p fun c =>
    { c with pollTimer := none, state := if c.state = .idle then .sensing else c.state })

/-- R9: the outcome a key module's answer records, none for GARBLED. -/
def CheckOutcome.recorded : CheckOutcome → Option ProofOutcome
  | .pass => some .pass
  | .fail => some .fail
  | .unknownGen => some .unknownGen
  | .garbled => none

/-- R9: the key module's answer is matched to the outstanding CHECK by its tag. -/
def checkAnswered (message : List Byte) (s : State) : Option State :=
  match s.dialog.proofQueue, s.dialog.proofTimer, parseCheck message with
  | r :: _, some _, some (tag, o) => if tag = s.dialog.proofTag then some (checkEnds r o.recorded s) else none
  | _, _, _ => none

/-- R9: the CHECK outstanding ends with no answer. -/
def proofExpires (s : State) : State :=
  match s.dialog.proofQueue with
  | r :: _ => checkEnds r none s
  | [] => s.onDialog fun d => { d with proofTimer := none }

/-- R14, R15: a context whose Intended records stand is at the end of RECKONING. -/
def State.recheckable (s : State) (p : Port) : Bool :=
  (s.ctx p).state == .reckoning && (s.ctx p).intended.isSome && (s.ctx p).image.isSome

end Sys2Proof.Machine
end

