-- ==== Sys2Proof/Machine/Clock.lean ====
section
/-! DEFINITION. The meanings of the clock, switch and recovery commands (R40, R82, R197, R199). -/

namespace Sys2Proof.Machine

open Sys2Proof

/-- R197: a service time one second on. -/
def ServiceTime.advance (t : ServiceTime) : ServiceTime :=
  if t.secs < 86399 then ⟨t.date, t.secs + 1⟩ else ⟨(t.date + 1) % 65536, 0⟩

/-- R197: a second of the own timebase: a set clock advances, and a WAITING switch is tested (R79). -/
def advanceClock (s : State) : State :=
  let t := { s with second := 1000 }
  if t.clock.state = .unset then t
  else testSwitch (t.onMgmt fun m => { m with clock := { m.clock with time := m.clock.time.advance } })

/-- CLOCK_ADVANCE (R197): at each second of the own timebase. -/
def execClockAdvance (s : State) : Host.Outcome State Fault Refusal :=
  effect .clockAdvance s fun t => if t.second = 0 then some (advanceClock t) else none

/-- R199: the countdown has expired: a GOOD clock becomes STALE. -/
def staleClock (s : State) : State :=
  s.onMgmt fun m =>
    { m with
      timeAge := none
      clock := { m.clock with state := if m.clock.state = .good then .stale else m.clock.state } }

/-- TIME_AGE_EXPIRY (R199). -/
def execTimeAgeExpiry (s : State) : Host.Outcome State Fault Refusal :=
  effect .timeAgeExpiry s fun t => if t.mgmt.timeAge.due then some (staleClock t) else none

/-- R82: the bank a switch that can be applied brings. -/
def State.switchBank (s : State) : Option Bank := if s.switchReady then s.tariff.stage.bank else none

/-- SWITCH_APPLICATION (R82). -/
def execSwitchApplication (s : State) : Host.Outcome State Fault Refusal :=
  effect .switchApplication s fun t => t.switchBank.map fun b => applySwitch b t

/-- RECOVERY_EXPIRY (R40): the entry's Remaining is 0. -/
def execRecoveryExpiry (cardId : Nat) (s : State) : Host.Outcome State Fault Refusal :=
  effect (.recoveryExpiry cardId) s fun t =>
    match t.recoveryOf cardId with
    | some e => if e.remaining = 0 then some (resolveUnresolved e .expired t) else none
    | none => none

end Sys2Proof.Machine
end

