-- ==== Sys2Proof/Machine/Commands.lean ====
section
/-! DEFINITION. The meanings of the line commands (chapters 2, 4, 8 and 10): each is the whole good frame arriving (log 4), and
what the command does stands in Machine/CommandOps.lean. -/

namespace Sys2Proof.Machine

open Sys2Proof

/-- TIME (R198). -/
def execTime (a : Arrival) (tag : Byte) (date secs : Nat) (s : State) : Host.Outcome State Fault Refusal :=
  effect (.time a tag date secs) s (arriveCommand a tag (.time date secs))

/-- SET (R186). -/
def execSet (a : Arrival) (tag : Byte) (entries : List (Byte × Int)) (s : State) : Host.Outcome State Fault Refusal :=
  effect (.set a tag entries) s (arriveCommand a tag (.set entries))

/-- QUERY (R187, R188). -/
def execQuery (a : Arrival) (tag : Byte) (s : State) : Host.Outcome State Fault Refusal :=
  effect (.query a tag) s (arriveCommand a tag .query)

/-- STAGE_OPEN (R73). -/
def execStageOpen (a : Arrival) (tag : Byte) (bankTag : Nat) (s : State) : Host.Outcome State Fault Refusal :=
  effect (.stageOpen a tag bankTag) s (arriveCommand a tag (.stageOpen bankTag))

/-- STAGE_LOAD (R74). -/
def execStageLoad (a : Arrival) (tag : Byte) (bankTag : Nat) (segment part : Byte) (values : List Byte) (s : State) :
    Host.Outcome State Fault Refusal :=
  effect (.stageLoad a tag bankTag segment part values) s (arriveCommand a tag (.stageLoad bankTag segment part values))

/-- STAGE_SWITCH (R78). -/
def execStageSwitch (a : Arrival) (tag : Byte) (effective : Option (Nat × Nat)) (s : State) :
    Host.Outcome State Fault Refusal :=
  effect (.stageSwitch a tag effective) s (arriveCommand a tag (.stageSwitch effective))

/-- STAGE_DISCARD (R80). -/
def execStageDiscard (a : Arrival) (tag : Byte) (s : State) : Host.Outcome State Fault Refusal :=
  effect (.stageDiscard a tag) s (arriveCommand a tag .stageDiscard)

/-- DENY_ADD (R29). -/
def execDenyAdd (a : Arrival) (tag : Byte) (cardId : Nat) (reason action : Byte) (s : State) :
    Host.Outcome State Fault Refusal :=
  effect (.denyAdd a tag cardId reason action) s (arriveCommand a tag (.denyAdd cardId reason action))

/-- DENY_DROP (R29). -/
def execDenyDrop (a : Arrival) (tag : Byte) (cardId : Nat) (s : State) : Host.Outcome State Fault Refusal :=
  effect (.denyDrop a tag cardId) s (arriveCommand a tag (.denyDrop cardId))

/-- COLLECT (R158). -/
def execCollect (a : Arrival) (tag k : Byte) (s : State) : Host.Outcome State Fault Refusal :=
  effect (.collect a tag k) s (arriveCommand a tag (.collect k))

/-- TRIM (R159). -/
def execTrim (a : Arrival) (tag : Byte) (firstSeq n : Nat) (s : State) : Host.Outcome State Fault Refusal :=
  effect (.trim a tag firstSeq n) s (arriveCommand a tag (.trim firstSeq n))

/-- LANE_MODE (R189). -/
def execLaneMode (a : Arrival) (tag mode : Byte) (s : State) : Host.Outcome State Fault Refusal :=
  effect (.laneMode a tag mode) s (arriveCommand a tag (.laneMode mode))

/-- ACK_START (R190). -/
def execAckStart (a : Arrival) (tag : Byte) (s : State) : Host.Outcome State Fault Refusal :=
  effect (.ackStart a tag) s (arriveCommand a tag .ackStart)

/-- RESTART (R192). -/
def execRestart (a : Arrival) (tag : Byte) (s : State) : Host.Outcome State Fault Refusal :=
  effect (.restart a tag) s (arriveCommand a tag .restart)

end Sys2Proof.Machine
end

