-- ==== Sys2Proof/Machine/Dialog.lean ====
section
/-! DEFINITION. The meanings of the card dialog commands (chapter 1). An expiry acts only when its timer has run out (log 3). -/

namespace Sys2Proof.Machine

open Sys2Proof

/-- POLL_TIMER_EXPIRY (R5, R6). -/
def execPollTimerExpiry (p : Port) (s : State) : Host.Outcome State Fault Refusal :=
  effect (.pollTimerExpiry p) s fun t => if (t.ctx p).pollTimer.due then some (pollExpires p t) else none

/-- SENSE_ANSWER (R5, R6). -/
def execSenseAnswer (p : Port) (message : List Byte) (s : State) : Host.Outcome State Fault Refusal :=
  effect (.senseAnswer p message) s (onAnswer p .sense message fun _ e => senseEnds p e)

/-- READ_ANSWER (R7). -/
def execReadAnswer (p : Port) (message : List Byte) (s : State) : Host.Outcome State Fault Refusal :=
  effect (.readAnswer p message) s (onAnswer p .read message fun _ e => readEnds p e)

/-- PROVE_ANSWER (R8). -/
def execProveAnswer (p : Port) (message : List Byte) (s : State) : Host.Outcome State Fault Refusal :=
  effect (.proveAnswer p message) s (onAnswer p .prove message fun o e => proveEnds p (o.challenge.getD 0) e)

/-- CHECK_ANSWER (R9, R11). -/
def execCheckAnswer (message : List Byte) (s : State) : Host.Outcome State Fault Refusal :=
  effect (.checkAnswer message) s (checkAnswered message)

/-- PROOF_TIMEOUT_EXPIRY (R9). -/
def execProofTimeoutExpiry (s : State) : Host.Outcome State Fault Refusal :=
  effect .proofTimeoutExpiry s fun t => if t.dialog.proofTimer.due then some (proofExpires t) else none

/-- VERB_DEADLINE_EXPIRY (R3, R4). -/
def execVerbDeadlineExpiry (p : Port) (s : State) : Host.Outcome State Fault Refusal :=
  effect (.verbDeadlineExpiry p) s fun t =>
    match (t.port p).outstanding with
    | some o => if o.deadline = 0 then some (deadlineExpires p o t) else none
    | none => none

/-- RECHECK_BEFORE_COMMIT (R15, R49). -/
def execRecheckBeforeCommit (p : Port) (s : State) : Host.Outcome State Fault Refusal :=
  effect (.recheckBeforeCommit p) s fun t =>
    if t.recheckable p then (t.ctx p).image.map fun i => recheck p i t else none

/-- MARK_ANSWER (R24). -/
def execMarkAnswer (p : Port) (message : List Byte) (s : State) : Host.Outcome State Fault Refusal :=
  effect (.markAnswer p message) s (onAnswer p .mark message fun _ e => markEndsBy p e)

/-- COMMIT_ANSWER (R16). -/
def execCommitAnswer (p : Port) (message : List Byte) (s : State) : Host.Outcome State Fault Refusal :=
  effect (.commitAnswer p message) s (onAnswer p .commit message fun _ e => commitEnds p e)

/-- CONFIRMING_READ_ANSWER (R17). -/
def execConfirmingReadAnswer (p : Port) (message : List Byte) (s : State) : Host.Outcome State Fault Refusal :=
  effect (.confirmingReadAnswer p message) s (onAnswer p .confirmRead message fun _ e t => some (confirmEnds p e t))

/-- REISSUED_COMMIT_ANSWER (R18). -/
def execReissuedCommitAnswer (p : Port) (message : List Byte) (s : State) : Host.Outcome State Fault Refusal :=
  effect (.reissuedCommitAnswer p message) s (onAnswer p .reissue message fun _ e => reissueEnds p e)

end Sys2Proof.Machine
end

