-- ==== Sys2Proof/Machine/LaneSteps.lean ====
section
/-! DEFINITION. The meanings of the sensor, credit, flap, tempo and tally commands (chapters 5 to 7). An expiry acts only when
its timer has run out (log 3). -/

namespace Sys2Proof.Machine

open Sys2Proof

/-- SAMPLE_TIMER_EXPIRY (R85, R86). -/
def execSampleTimerExpiry (s : State) : Host.Outcome State Fault Refusal :=
  effect .sampleTimerExpiry s fun t => if t.beam.sampleTimer.due then some (sendSample (missPeriod t)) else none

/-- SAMPLE_SET (R85, R88): taken when its check is good and its tag is the SAMPLE's, once for each SAMPLE. -/
def execSampleSet (message : List Byte) (s : State) : Host.Outcome State Fault Refusal :=
  effect (.sampleSet message) s fun t =>
    match parseSample message with
    | some (tag, levels) =>
      if tag = t.beam.senseTag ∧ t.beam.answered = false then some (processSample levels t) else none
    | none => none

/-- ANOMALY (R106, R123). -/
def execAnomaly (s : State) : Host.Outcome State Fault Refusal :=
  effect .anomaly s fun t =>
    if t.anomalyDue then some (intrusion none .anomaly (t.onBeam fun b => { b with bodies := markReported t.now b.bodies }))
    else none

/-- The head credit of the granted direction, while its Life runs (R110). -/
def State.servedCredit (s : State) : Option (Direction × Credit) :=
  match s.lane.grant with
  | some d => if s.lane.flap = .opened then (s.lane.credits.get d).head?.map fun c => (d, c) else none
  | none => none

/-- CREDIT_LIFE_EXPIRY (R110). -/
def execCreditLifeExpiry (s : State) : Host.Outcome State Fault Refusal :=
  effect .creditLifeExpiry s fun t =>
    match t.servedCredit with
    | some (d, c) => if c.life = 0 then some (lapse d c .lifetime t) else none
    | none => none

/-- R111: the head credit of a direction that waits, when its Wait has reached the limit. -/
def State.waitedCredit (s : State) (d : Direction) : Option Credit :=
  if s.lane.grant = some d then none
  else (s.lane.credits.get d).head?.filter fun c => decide (s.params.waitLimit * 1000 ≤ c.wait)

/-- WAIT_LIMIT_EXPIRY (R111). -/
def execWaitLimitExpiry (d : Direction) (s : State) : Host.Outcome State Fault Refusal :=
  effect (.waitLimitExpiry d) s fun t => (t.waitedCredit d).map fun c => lapse d c .wait t

/-- LIMIT_ASSERTED (R126). -/
def execLimitAsserted (atOpen atClosed : Bool) (s : State) : Host.Outcome State Fault Refusal :=
  if s.pins.reset then .next (s.onPins fun p => { p with atOpen := atOpen, atClosed := atClosed })
  else effect (.limitAsserted atOpen atClosed) s fun t =>
    some (readLimits atOpen atClosed (t.onPins fun p => { p with atOpen := atOpen, atClosed := atClosed }))

/-- CLOSE_DELAY_EXPIRY (R127). -/
def execCloseDelayExpiry (s : State) : Host.Outcome State Fault Refusal :=
  effect .closeDelayExpiry s fun t =>
    if t.lane.closeTimer.due then some (closeTest (t.onLane fun l => { l with closeTimer := none })) else none

/-- R129: the motion timer has expired. -/
def motionExpires (s : State) : State :=
  match s.lane.flap with
  | .opening => jamMotion .towardOpen s
  | .closing => jamMotion .towardClosed s
  | .closed | .opened | .jammed => s.onLane fun l => { l with motionTimer := none }

/-- MOTION_TIMER_EXPIRY (R129). -/
def execMotionTimerExpiry (s : State) : Host.Outcome State Fault Refusal :=
  effect .motionTimerExpiry s fun t => if t.lane.motionTimer.due then some (motionExpires t) else none

/-- BRISK_TIMER_EXPIRY (R142): STEADY when no body is in the lane; otherwise BRISK with the timer STOPPED. -/
def execBriskTimerExpiry (s : State) : Host.Outcome State Fault Refusal :=
  effect .briskTimerExpiry s fun t =>
    if t.lane.briskTimer.due then
      some (t.onLane fun l =>
        { l with briskTimer := none, tempo := if t.beam.bodies.isEmpty then .steady else l.tempo })
    else none

/-- DORMANT_TIMER_EXPIRY (R143). -/
def execDormantTimerExpiry (s : State) : Host.Outcome State Fault Refusal :=
  effect .dormantTimerExpiry s fun t =>
    if t.lane.dormantTimer.due then some (t.onLane fun l => { l with dormantTimer := none, tempo := .dormant }) else none

/-- TALLY_GAP_EXPIRY (R146). -/
def execTallyGapExpiry (s : State) : Host.Outcome State Fault Refusal :=
  effect .tallyGapExpiry s fun t =>
    if t.lane.tallyTimer.due then some (t.onLane (Lane.tallyGap t.params.tallyGap)) else none

end Sys2Proof.Machine
end

