-- ==== Sys2Proof/Machine/Line.lean ====
section
/-! DEFINITION. The meanings of the pin, link and frame commands (R133, R163 to R179). A pin's level is kept while the RESET
pin is asserted too, since the reset takes it when it ends. -/

namespace Sys2Proof.Machine

open Sys2Proof

/-- EMERGENCY_PIN_CHANGE (R133): the filter starts for a level that differs from the one taken, and ends for one that changes
back. -/
def execEmergencyPinChange (asserted : Bool) (s : State) : Host.Outcome State Fault Refusal :=
  if s.pins.reset then .next (s.onPins fun p => { p with emergency := asserted })
  else effect (.emergencyPinChange asserted) s fun t =>
    if t.pins.emergency = asserted then none
    else some ((t.onPins fun p => { p with emergency := asserted }).onLane fun l =>
      { l with emergencyFilter := if l.emergency = asserted then none else some Config.emergencyFilter })

/-- EMERGENCY_TAKEN (R133): the level has stood for 50 ms. -/
def execEmergencyTaken (s : State) : Host.Outcome State Fault Refusal :=
  effect .emergencyTaken s fun t => if t.lane.emergencyFilter.due then some (takeEmergency t.pins.emergency t) else none

/-- LINK_PIN_CHANGE (R163): the filter starts for a level that differs from the link state, and ends for one that changes
back. -/
def execLinkPinChange (p : LinePort) (up : Bool) (s : State) : Host.Outcome State Fault Refusal :=
  if s.pins.reset then .next (s.onPins fun q => { q with link := q.link.put p up })
  else effect (.linkPinChange p up) s fun t =>
    if t.pins.link.get p = up then none
    else some ((t.onPins fun q => { q with link := q.link.put p up }).onLine fun l =>
      { l with linkFilter := l.linkFilter.put p (if l.link.get p = up then none else some Config.linkFilter) })

/-- LINK_TAKEN (R163): the level has stood for 20 ms. -/
def execLinkTaken (p : LinePort) (s : State) : Host.Outcome State Fault Refusal :=
  effect (.linkTaken p) s fun t => if (t.line.linkFilter.get p).due then some (takeLink p (t.pins.link.get p) t) else none

/-- HOLD_INPUT_CHANGE (R174): the level is read by the arbiter. -/
def execHoldInputChange (p : LinePort) (asserted : Bool) (s : State) : Host.Outcome State Fault Refusal :=
  if s.pins.reset then .next (s.onPins fun q => { q with hold := q.hold.put p asserted })
  else effect (.holdInputChange p asserted) s fun t => some (t.onPins fun q => { q with hold := q.hold.put p asserted })

/-- FRAME_START (R165). -/
def execFrameStart (p : LinePort) (s : State) : Host.Outcome State Fault Refusal :=
  effect (.frameStart p) s fun t =>
    if t.line.link.get p = true ∧ t.line.receiving.get p = false then some (startReception p t) else none

/-- FRAME_END (R166): the end of the reception under way on the port. -/
def execFrameEnd (p : LinePort) (bytes : List Byte) (endMark : Bool) (s : State) : Host.Outcome State Fault Refusal :=
  effect (.frameEnd p bytes endMark) s fun t =>
    if t.line.receiving.get p then some (endReception p bytes endMark t) else none

/-- TRANSMISSION_BEGIN (R175). -/
def execTransmissionBegin (p : LinePort) (s : State) : Host.Outcome State Fault Refusal :=
  effect (.transmissionBegin p) s fun t => if t.transmits p then some (t.onBuffers (LineIf.pick p)) else none

/-- TRANSMISSION_END (R175). -/
def execTransmissionEnd (p : LinePort) (s : State) : Host.Outcome State Fault Refusal :=
  effect (.transmissionEnd p) s fun t => (t.line.tx.get p).map fun b => endTransmission p b t

/-- HELD_CONVERSION (R176). -/
def execHeldConversion (s : State) : Host.Outcome State Fault Refusal :=
  effect .heldConversion s fun t => some (convertOne t)

/-- SILENCE_TIMER_EXPIRY (R179). -/
def execSilenceTimerExpiry (s : State) : Host.Outcome State Fault Refusal :=
  effect .silenceTimerExpiry s fun t =>
    if t.line.silenceTimer.due then some (t.onLine fun l => { l with silenceTimer := none, connected := false }) else none

/-- ENUMERATE (R170): a whole good frame from the up port (log 4). -/
def execEnumerate (n : Byte) (s : State) : Host.Outcome State Fault Refusal :=
  effect (.enumerate n) s fun t => arrive ⟨.up, true, 0, 0⟩ 0 [n] t

/-- SIGHT (R36). -/
def execSight (a : Arrival) (x : SightPayload) (s : State) : Host.Outcome State Fault Refusal :=
  effect (.sight a x) s fun t => arrive a kindSight (SightPayload.bytes x) t

/-- SUSPECT (R51). -/
def execSuspect (a : Arrival) (x : SuspectPayload) (s : State) : Host.Outcome State Fault Refusal :=
  effect (.suspect a x) s fun t => arrive a kindSuspect (SuspectPayload.bytes x) t

/-- UNKNOWN_KIND (R184). -/
def execUnknownKind (a : Arrival) (kind : Byte) (payload : List Byte) (s : State) : Host.Outcome State Fault Refusal :=
  effect (.unknownKind a kind payload) s fun t => arrive a kind payload t

end Sys2Proof.Machine
end

