-- ==== Sys2Proof/Machine/ResetOps.lean ====
section
/-! DEFINITION. The cold reset (R194) and the warm reset (R193). -/

namespace Sys2Proof.Machine

open Sys2Proof

/-! ### What both resets do -/

/-- R131: the flap state that the limit inputs give at a reset. -/
def resetFlap (pins : Pins) : Flap :=
  match pins.atOpen, pins.atClosed with
  | false, true => .closed
  | true, false => .opened
  | _, _ => .closing

/-- R114, R117, R131 to R135, R143, R146: the Lane Controller after a reset, before the open condition is tested. -/
def resetLane (q : Params) (pins : Pins) (faults nextCreditNo : Nat) : Lane :=
  let flap := resetFlap pins
  let lane : Lane :=
    { nextCreditNo := nextCreditNo
      flap := flap
      closeTimer := if flap = .opened then some q.closeDelay else none
      motionTimer := if flap = .closing then some q.flapMotionLimit else none
      emergency := pins.emergency
      faultBeams := faults
      dormantTimer := some (q.idleToDormant * 1000) }
  { lane with eff := lane.derived }

/-- R87: DRIVE is sent for each beam with its Drive. DESIGN CHOICE (log 55): B1 first, up to B6; R87 gives the six no order. -/
def sendDrives (s : State) : State :=
  [1, 2, 3, 4, 5, 6].foldl (fun t i => t.send (.drive i (t.record i).drive)) s

/-- R85, R87, R131, R133, R135: what the part does as it starts to work after a reset: the lane from its inputs, the open
condition, the DRIVEs, the first SAMPLE. -/
def startWork (nextCreditNo : Nat) (s : State) : State :=
  sendSample (sendDrives (openTest { s with lane := resetLane s.params s.pins s.beam.faults nextCreditNo }))

/-- R181, R182: the frames in transmission are cut off. DESIGN CHOICE (log 55): the up port's is put into the log of what was sent
first. -/
def cutOffAll (s : State) : State := cutOff .down (cutOff .up s)

/-! ### The cold reset -/

/-- R194: the cold values of every block, the pins as they stand, before the part starts to work; the challenge generator
draws on (R27, log 7). What the part had sent stays sent. -/
def coldValues (s : State) : State :=
  { State.reset with
    beam := { senseTag := 1 }
    dialog := { State.reset.dialog with challengeNo := s.dialog.challengeNo }
    line := { link := s.pins.link }
    pins := s.pins
    sent := s.sent
    pending := s.pending }

/-- R194: a cold reset; the part starts to work unless the RESET pin is asserted. -/
def coldReset (s : State) : State :=
  let t := coldValues (cutOffAll s)
  if s.pins.reset then t else startWork 0 t

/-! ### The warm reset -/

/-- R91: a beam's record after a warm reset. -/
def warmRecord (r : BeamRecord) : BeamRecord :=
  let t := { r with count := 0, steps := 0, settle := 0, tried := false }
  match r.state with
  | .clear => { t with cause := none }
  | .blocked => { t with state := .clear, cause := none }
  | .trimming => { t with state := .clear, cause := none, ref := r.level }
  | .fault => if r.cause = some .trim then t else { t with state := .clear, cause := none }

/-- R86, R91: the Lane Sensor Unit after a warm reset. -/
def Beams.warm (b : Beams) : Beams :=
  { records := b.records.map warmRecord, senseTag := b.senseTag, acquiring := false }

/-- R26: the Card Dialog Engine after a warm reset: the Tags and the challenge generator kept. -/
def Dialogs.warm (period : Nat) (d : Dialogs) : Dialogs :=
  { ctx := ⟨.started period, .started period⟩
    port := ⟨{ tag := d.port.a.tag }, { tag := d.port.b.tag }⟩
    proofTag := d.proofTag
    challengeNo := d.challengeNo }

/-- R182: the Line Interface Unit after a warm reset. -/
def LineIf.warm (link : ByLine Bool) (l : LineIf) : LineIf :=
  { address := l.address, link := link, connected := l.connected, silenceTimer := l.silenceTimer }

/-- R193: the Management Unit after a warm reset. -/
def Mgmt.warm (m : Mgmt) : Mgmt := { clock := m.clock, timeAge := m.timeAge, eventNo := m.eventNo }

/-- R72: the Tariff Store after a warm reset. -/
def Tariff.warm (t : Tariff) : Tariff := { active := t.active }

/-- A write is outstanding (section 1.2). -/
def DialogState.writing : DialogState → Bool
  | .committing | .confirming => true
  | .idle | .sensing | .reading | .proving | .checking | .judging | .reckoning | .marking | .holding => false

/-- R26: a context's write outstanding is first recorded as torn, with no frame and no event (log 15). -/
def recordOutstanding (p : Port) (s : State) : State :=
  if (s.ctx p).state.writing then
    { recordTorn p { s with params := { s.params with eventMask := 0 } } with params := s.params }
  else s

/-- R193: every block after the torn writes have been recorded. -/
def warmValues (s : State) : State :=
  { s with
    dialog := s.dialog.warm (s.params.pollPeriod .steady)
    standing := { s.standing with inFlight := ⟨none, none⟩ }
    tariff := s.tariff.warm
    beam := s.beam.warm
    journal := { s.journal with reserved := 0, overflow := false }
    line := s.line.warm s.pins.link
    mgmt := s.mgmt.warm }

/-- R193: the warm reset. -/
def warmReset (s : State) : State :=
  let t := recordOutstanding .b (recordOutstanding .a s)
  startWork s.lane.nextCreditNo (warmValues (cutOffAll t))

/-- R192: the warm reset a RESTART asked for is due: its REPLY has left the part's hands. -/
def State.restartDue (s : State) : Bool := s.mgmt.restartPending && s.mgmt.restartReplyGone

end Sys2Proof.Machine
end

