-- ==== Sys2Proof/Machine/Resets.lean ====
section
/-! DEFINITION. The meanings of the resets (R193, R194). -/

namespace Sys2Proof.Machine

open Sys2Proof

/-- COLD_RESET (R194): at power-on, and at the assertion of the RESET pin; at its release the part starts to work. -/
def execColdReset (cause : ResetCause) (s : State) : Host.Outcome State Fault Refusal :=
  match cause with
  | .powerOn => .next (coldReset s)
  | .pinAsserted => .next (coldReset (s.onPins fun p => { p with reset := true }))
  | .pinReleased => .next (if s.pins.reset then coldReset (s.onPins fun p => { p with reset := false }) else s)

/-- WARM_RESET (R193): when the REPLY of a RESTART has left the part's hands (R192). -/
def execWarmReset (s : State) : Host.Outcome State Fault Refusal :=
  effect .warmReset s fun t => if t.restartDue then some (warmReset t) else none

end Sys2Proof.Machine
end

