-- ==== Sys2Proof/Machine/Dispatch.lean ====
section
/-! DEFINITION. The meaning of every command: one arm per constructor of Instr. -/

namespace Sys2Proof.Machine

open Sys2Proof

/-- The effect of a command on everything but the queue. -/
def exec (i : Instr) (s : State) : Host.Outcome State Fault Refusal :=
  match i with
  | .coldReset cause => Sys2Proof.Machine.execColdReset cause s
  | .warmReset => Sys2Proof.Machine.execWarmReset s
  | .emergencyPinChange asserted => Sys2Proof.Machine.execEmergencyPinChange asserted s
  | .emergencyTaken => Sys2Proof.Machine.execEmergencyTaken s
  | .linkPinChange port up => Sys2Proof.Machine.execLinkPinChange port up s
  | .linkTaken port => Sys2Proof.Machine.execLinkTaken port s
  | .holdInputChange port asserted => Sys2Proof.Machine.execHoldInputChange port asserted s
  | .frameStart port => Sys2Proof.Machine.execFrameStart port s
  | .frameEnd port bytes endMark => Sys2Proof.Machine.execFrameEnd port bytes endMark s
  | .transmissionBegin port => Sys2Proof.Machine.execTransmissionBegin port s
  | .transmissionEnd port => Sys2Proof.Machine.execTransmissionEnd port s
  | .heldConversion => Sys2Proof.Machine.execHeldConversion s
  | .silenceTimerExpiry => Sys2Proof.Machine.execSilenceTimerExpiry s
  | .enumerate n => Sys2Proof.Machine.execEnumerate n s
  | .time arrival tag date secs => Sys2Proof.Machine.execTime arrival tag date secs s
  | .set arrival tag entries => Sys2Proof.Machine.execSet arrival tag entries s
  | .query arrival tag => Sys2Proof.Machine.execQuery arrival tag s
  | .stageOpen arrival tag bankTag => Sys2Proof.Machine.execStageOpen arrival tag bankTag s
  | .stageLoad arrival tag bankTag segment part values => Sys2Proof.Machine.execStageLoad arrival tag bankTag segment part values s
  | .stageSwitch arrival tag effective => Sys2Proof.Machine.execStageSwitch arrival tag effective s
  | .stageDiscard arrival tag => Sys2Proof.Machine.execStageDiscard arrival tag s
  | .denyAdd arrival tag cardId reason action => Sys2Proof.Machine.execDenyAdd arrival tag cardId reason action s
  | .denyDrop arrival tag cardId => Sys2Proof.Machine.execDenyDrop arrival tag cardId s
  | .collect arrival tag k => Sys2Proof.Machine.execCollect arrival tag k s
  | .trim arrival tag firstSeq n => Sys2Proof.Machine.execTrim arrival tag firstSeq n s
  | .laneMode arrival tag mode => Sys2Proof.Machine.execLaneMode arrival tag mode s
  | .ackStart arrival tag => Sys2Proof.Machine.execAckStart arrival tag s
  | .restart arrival tag => Sys2Proof.Machine.execRestart arrival tag s
  | .unknownKind arrival kind payload => Sys2Proof.Machine.execUnknownKind arrival kind payload s
  | .sight arrival payload => Sys2Proof.Machine.execSight arrival payload s
  | .suspect arrival payload => Sys2Proof.Machine.execSuspect arrival payload s
  | .clockAdvance => Sys2Proof.Machine.execClockAdvance s
  | .timeAgeExpiry => Sys2Proof.Machine.execTimeAgeExpiry s
  | .switchApplication => Sys2Proof.Machine.execSwitchApplication s
  | .recoveryExpiry cardId => Sys2Proof.Machine.execRecoveryExpiry cardId s
  | .pollTimerExpiry port => Sys2Proof.Machine.execPollTimerExpiry port s
  | .senseAnswer port message => Sys2Proof.Machine.execSenseAnswer port message s
  | .readAnswer port message => Sys2Proof.Machine.execReadAnswer port message s
  | .proveAnswer port message => Sys2Proof.Machine.execProveAnswer port message s
  | .checkAnswer message => Sys2Proof.Machine.execCheckAnswer message s
  | .proofTimeoutExpiry => Sys2Proof.Machine.execProofTimeoutExpiry s
  | .verbDeadlineExpiry port => Sys2Proof.Machine.execVerbDeadlineExpiry port s
  | .recheckBeforeCommit port => Sys2Proof.Machine.execRecheckBeforeCommit port s
  | .markAnswer port message => Sys2Proof.Machine.execMarkAnswer port message s
  | .commitAnswer port message => Sys2Proof.Machine.execCommitAnswer port message s
  | .confirmingReadAnswer port message => Sys2Proof.Machine.execConfirmingReadAnswer port message s
  | .reissuedCommitAnswer port message => Sys2Proof.Machine.execReissuedCommitAnswer port message s
  | .sampleTimerExpiry => Sys2Proof.Machine.execSampleTimerExpiry s
  | .sampleSet message => Sys2Proof.Machine.execSampleSet message s
  | .anomaly => Sys2Proof.Machine.execAnomaly s
  | .creditLifeExpiry => Sys2Proof.Machine.execCreditLifeExpiry s
  | .waitLimitExpiry direction => Sys2Proof.Machine.execWaitLimitExpiry direction s
  | .limitAsserted atOpen atClosed => Sys2Proof.Machine.execLimitAsserted atOpen atClosed s
  | .closeDelayExpiry => Sys2Proof.Machine.execCloseDelayExpiry s
  | .motionTimerExpiry => Sys2Proof.Machine.execMotionTimerExpiry s
  | .briskTimerExpiry => Sys2Proof.Machine.execBriskTimerExpiry s
  | .dormantTimerExpiry => Sys2Proof.Machine.execDormantTimerExpiry s
  | .tallyGapExpiry => Sys2Proof.Machine.execTallyGapExpiry s

end Sys2Proof.Machine
end

