-- ==== Sys2Proof/Machine/Timebase.lean ====
section
/-! DEFINITION. The part's own timebase: the command the part itself gives next, and one millisecond (log 1, log 2). What the
rules do "at once" comes before any expiry, and an expiry before time passes. -/

namespace Sys2Proof.Machine

open Sys2Proof

/-- A command when it is due. -/
def whenDue (due : Bool) (c : Instr) : List Instr := if due then [c] else []

/-- The steps the rules take at once (R193, R176, R82, R15, R175). -/
def State.atOnce (s : State) : List Instr :=
  whenDue s.restartDue .warmReset
    ++ whenDue (!s.line.held.isEmpty && decide (s.line.count .own < Config.localQuota)) .heldConversion
    ++ whenDue s.switchBank.isSome .switchApplication
    ++ whenDue (s.recheckable .a) (.recheckBeforeCommit .a)
    ++ whenDue (s.recheckable .b) (.recheckBeforeCommit .b)
    ++ whenDue (s.transmits .up) (.transmissionBegin .up)
    ++ whenDue (s.transmits .down) (.transmissionBegin .down)

/-- The verb outstanding on a port has used up its time. -/
def State.deadlineDue (s : State) (p : Port) : Bool :=
  match (s.port p).outstanding with
  | some o => o.deadline == 0
  | none => false

/-- The expiries of the line, the clock and the recovery list that are due. -/
def State.slowExpiries (s : State) : List Instr :=
  whenDue s.lane.emergencyFilter.due .emergencyTaken
    ++ whenDue s.line.linkFilter.up.due (.linkTaken .up)
    ++ whenDue s.line.linkFilter.down.due (.linkTaken .down)
    ++ whenDue s.line.silenceTimer.due .silenceTimerExpiry
    ++ whenDue (s.second == 0) .clockAdvance
    ++ whenDue s.mgmt.timeAge.due .timeAgeExpiry
    ++ (s.standing.recovery.filter fun e => e.remaining == 0).map fun e => .recoveryExpiry e.cardId

/-- The expiries of the dialogs that are due. -/
def State.dialogExpiries (s : State) : List Instr :=
  whenDue (s.ctx .a).pollTimer.due (.pollTimerExpiry .a)
    ++ whenDue (s.ctx .b).pollTimer.due (.pollTimerExpiry .b)
    ++ whenDue s.dialog.proofTimer.due .proofTimeoutExpiry
    ++ whenDue (s.deadlineDue .a) (.verbDeadlineExpiry .a)
    ++ whenDue (s.deadlineDue .b) (.verbDeadlineExpiry .b)

/-- The expiries of the lane that are due. -/
def State.laneExpiries (s : State) : List Instr :=
  whenDue s.beam.sampleTimer.due .sampleTimerExpiry
    ++ whenDue s.anomalyDue .anomaly
    ++ whenDue (s.servedCredit.any fun x => x.2.life == 0) .creditLifeExpiry
    ++ whenDue (s.waitedCredit .inbound).isSome (.waitLimitExpiry .inbound)
    ++ whenDue (s.waitedCredit .outbound).isSome (.waitLimitExpiry .outbound)
    ++ whenDue s.lane.closeTimer.due .closeDelayExpiry
    ++ whenDue s.lane.motionTimer.due .motionTimerExpiry
    ++ whenDue s.lane.briskTimer.due .briskTimerExpiry
    ++ whenDue s.lane.dormantTimer.due .dormantTimerExpiry
    ++ whenDue s.lane.tallyTimer.due .tallyGapExpiry

/-- The command the part itself gives next, none when nothing is due. -/
def State.ownStep (s : State) : Option Instr :=
  (s.atOnce ++ s.slowExpiries ++ s.dialogExpiries ++ s.laneExpiries).head?

/-! ### One millisecond -/

/-- A context's poll timer. -/
def Context.tick (c : Context) : Context := { c with pollTimer := c.pollTimer.tick }

/-- The deadline of a port's verb. -/
def PortLink.tick (l : PortLink) : PortLink :=
  { l with outstanding := l.outstanding.map fun o => { o with deadline := o.deadline - 1 } }

/-- The dialogs' timers. -/
def Dialogs.tick (d : Dialogs) : Dialogs :=
  { d with
    ctx := ⟨d.ctx.a.tick, d.ctx.b.tick⟩
    port := ⟨d.port.a.tick, d.port.b.tick⟩
    proofTimer := d.proofTimer.tick }

/-- R110, R111: the credits of a direction: the head's Life while it is served, every Wait while the direction waits. -/
def Lane.tickCredits (l : Lane) (d : Direction) : List Credit :=
  if l.grant = some d then
    if l.flap = .opened then
      match l.credits.get d with
      | [] => []
      | c :: rest => { c with life := c.life - 1 } :: rest
    else l.credits.get d
  else (l.credits.get d).map fun c => { c with wait := c.wait + 1 }

/-- The lane's timers. -/
def Lane.tick (l : Lane) : Lane :=
  { l with
    credits := ⟨l.tickCredits .inbound, l.tickCredits .outbound⟩
    closeTimer := l.closeTimer.tick
    motionTimer := l.motionTimer.tick
    emergencyFilter := l.emergencyFilter.tick
    briskTimer := l.briskTimer.tick
    dormantTimer := l.dormantTimer.tick
    tallyTimer := l.tallyTimer.tick }

/-- The line's timers. -/
def LineIf.tick (l : LineIf) : LineIf :=
  { l with linkFilter := ⟨l.linkFilter.up.tick, l.linkFilter.down.tick⟩, silenceTimer := l.silenceTimer.tick }

/-- One millisecond of the own timebase. -/
def tick (s : State) : State :=
  { s with
    dialog := s.dialog.tick
    standing := { s.standing with recovery := s.standing.recovery.map fun e => { e with remaining := e.remaining - 1 } }
    beam := { s.beam with sampleTimer := s.beam.sampleTimer.tick }
    lane := s.lane.tick
    line := s.line.tick
    mgmt := { s.mgmt with timeAge := s.mgmt.timeAge.tick }
    now := s.now + 1
    second := s.second - 1 }

/-- What the part does while no command waits: the next of its own steps joins the queue, or a millisecond passes; nothing
while the RESET pin is asserted (R194). -/
def idle (s : State) : State :=
  if s.pins.reset then s
  else match s.ownStep with
    | some c => { s with pending := [c] }
    | none => tick s

end Sys2Proof.Machine
end

