-- ==== Sys2Proof/Machine/Step.lean ====
section
/-! DEFINITION. One step of the part: the command at the front of the queue, or what the part does while none waits. -/

namespace Sys2Proof.Machine

open Sys2Proof

/-- One step: the command at the front of the queue is taken and has its effect on the part with the queue's rest; on an empty
queue the part idles (log 1). -/
def step (s : State) : Host.Outcome State Fault Refusal :=
  match s.pending with
  | c :: rest => exec c { s with pending := rest }
  | [] => .next (idle s)

/-- The state with the command a word spells at the front of its queue; unchanged where the word spells none, which is every
word: the table gives bits to no row. -/
def State.withFetchWord (s : State) (nbits w : Nat) : State :=
  match decodeTableWord nbits w with
  | some c => { s with pending := c :: s.pending }
  | none => s

end Sys2Proof.Machine
end

