-- ==== Sys2Proof/Safety.lean ====
section
/-! DEFINITION. What counts as a safe run: the invariants that every step keeps, each in the terms of its chapter; and the words
that the statements of Certificates/Slice0 share: a command the part can take from the line, a verb that is awaited. -/

namespace Sys2Proof.Machine

open Sys2Proof

/-! ### Capacities and numbers -/

/-- R28, and by the model's choice the sighting table too (log 48): a list in ascending order of a key, no key twice. -/
def ascending {α : Type} (key : α → Nat) (l : List α) : Prop := l.Pairwise fun x y => key x < key y

/-- R28, R31, R38: the deny list, the sighting table and the recovery list within their capacities; the deny list in CardId order
(R28), no CardId twice in the table (R31). That the table too stands in CardId order is the model's choice (log 48). -/
def Standing.withinCapacity (t : Standing) : Prop :=
  ascending DenyEntry.cardId t.deny ∧ t.deny.length ≤ Config.denyCapacity
    ∧ ascending Sighting.cardId t.sightings ∧ t.sightings.length ≤ Config.sightingCapacity
    ∧ t.recovery.length ≤ Config.recoveryCapacity

/-- R28, R31, R38, section 5.5, R145: every list within the capacity the manual gives it. -/
def State.withinCapacity (s : State) : Prop :=
  s.standing.withinCapacity ∧ s.beam.bodies.length ≤ Config.bodyCapacity ∧ s.lane.tally.length ≤ Config.tallyCapacity

/-- R2, R9, R85: a Tag's range. -/
def tagInRange (t : Nat) : Prop := 1 ≤ t ∧ t ≤ 255

/-- Section 5.2: the fields of a beam record in their ranges. -/
def BeamRecord.inRange (r : BeamRecord) : Prop :=
  r.level ≤ 4095 ∧ r.ref ≤ 4095 ∧ r.drive ≤ 63 ∧ r.count ≤ 8 ∧ r.steps ≤ 32 ∧ r.settle ≤ 16

/-- Section 5.5: a body's Span lies in B1 to B6, and so does its Reach, which a MIDDLE body has not. -/
def Body.inRange (b : Body) : Prop :=
  1 ≤ b.first ∧ b.first ≤ b.last ∧ b.last ≤ 6 ∧ (b.reach = none ↔ b.origin = .middle)
    ∧ ∀ x, b.reach = some x → 1 ≤ x ∧ x ≤ 6

/-- Chapter 5: the numbers of the beams and the bodies, and the beam that a trim names. -/
def Beams.inRange (b : Beams) : Prop :=
  (∀ r ∈ b.records.toList, r.inRange) ∧ (∀ x ∈ b.bodies, x.inRange) ∧ (∀ i, b.trimBeam = some i → 1 ≤ i ∧ i ≤ 6)
    ∧ tagInRange b.senseTag ∧ b.missed ≤ Config.missedLimit

/-- The numbers that count or name, each in its range: the Tags (R2, R9, R85), Missed (R86), the beam records and the bodies
(sections 5.2, 5.5), NextCreditNo (R109), FaultBeams (R134), FreeCount (R138), NextSeq (R147), the address (R170), EventNo (R195),
the clock and Tariff.SwitchAt (R197, R79). -/
def State.numbersInRange (s : State) : Prop :=
  tagInRange s.dialog.port.a.tag ∧ tagInRange s.dialog.port.b.tag ∧ tagInRange s.dialog.proofTag
    ∧ s.beam.inRange ∧ s.lane.nextCreditNo ≤ 65535 ∧ s.lane.freeCount ≤ 65535 ∧ s.lane.faultBeams ≤ 6
    ∧ 1 ≤ s.journal.nextSeq ∧ s.journal.nextSeq ≤ 4294967295
    ∧ s.line.address ≤ 62 ∧ s.mgmt.eventNo ≤ 65535
    ∧ s.mgmt.clock.time.inRange = true ∧ (∀ r, s.tariff.switchAt = some r → r.inRange = true)

/-- R186, R92: every parameter in its range, and the dependent bounds of the Beam parameters. -/
def Params.inRange (q : Params) : Prop :=
  (∀ n lo hi, paramRange n = some (lo, hi) → lo ≤ q.read n ∧ q.read n ≤ hi)
    ∧ q.releaseLevel + 50 ≤ q.blockLevel ∧ q.fastShift ≤ q.slowShift

/-! ### The journal -/

/-- R147: consecutive numbers, each the successor of the one before it, and `next` the successor of the last. -/
def numberedUpTo (next : Nat) : List Record → Prop
  | [] => True
  | [r] => nextSeqOf r.seq = next
  | r :: r' :: rest => nextSeqOf r.seq = r'.seq ∧ numberedUpTo next (r' :: rest)

/-- R147: the journal's records are numbered without a gap up to Journal.NextSeq. -/
def Journal.numbered (j : Journal) : Prop := numberedUpTo j.nextSeq j.records

/-! ### Slots (R108, R149 to R151, section 1.5) -/

/-- R12 to R15, R23: the slots a context holds, by its state: none before its verdict, a credit slot and a journal slot while it is held
for a switch in JUDGING, and from RECKONING to its conclusion a credit slot and a journal slot for each of its Intended records. -/
def Context.holdsSlots (c : Context) : Prop :=
  match c.state with
  | .judging => c.creditRes = true ∧ c.journalRes = 1
  | .reckoning | .committing | .confirming =>
    c.creditRes = true ∧ 1 ≤ c.journalRes ∧ c.journalRes ≤ 2
      ∧ c.intended.map (fun i => i.contents.length) = some c.journalRes
  | .idle | .sensing | .reading | .proving | .checking | .marking | .holding => c.creditRes = false ∧ c.journalRes = 0

/-- Section 1.2: what a context has taken by its state: the card it reads, the image it judges, the values before the write. Only a
context in JUDGING is held for a switch (R80), and only in IDLE and HOLDING the poll timer runs. -/
def Context.knowsCard (c : Context) : Prop :=
  (c.state ∈ [.reading, .proving, .checking, .judging, .reckoning, .committing, .confirming] → c.cardId.isSome = true)
    ∧ (c.state ∈ [.proving, .checking, .judging, .reckoning, .committing, .confirming] →
      c.image.isSome = true ∧ c.preCounter.isSome = true ∧ c.preBalance.isSome = true)
    ∧ (c.switchHeld = true ↔ c.state = .judging)
    ∧ (c.pollTimer.isSome = true → c.state = .idle ∨ c.state = .holding)

/-- Section 1.2: the states in which a context waits for the answer of a verb issued for a purpose. -/
def Purpose.awaitedIn : Purpose → List DialogState
  | .sense => [.sensing, .holding]
  | .read => [.reading]
  | .prove => [.proving]
  | .mark => [.marking]
  | .commit => [.committing]
  | .confirmRead | .reissue => [.confirming]

/-- R3, R25: the verb outstanding on a port is one its context waits for; after a refusal by a change of mode the context is HOLDING
until the verb ends. The poll timer does not run meanwhile. -/
def PortLink.awaited (l : PortLink) (c : Context) : Prop :=
  ∀ o, l.outstanding = some o →
    c.pollTimer = none ∧ (if o.dropped then c.state = .holding else c.state ∈ o.purpose.awaitedIn)

/-- R108: a direction's slots: reserved by the context of its port, and no more than 4 with the credits queued. -/
def State.creditSlotsHold (s : State) (p : Port) : Prop :=
  s.lane.reserved.get (portDirection p) = (if (s.ctx p).creditRes then 1 else 0)
    ∧ (s.lane.credits.get (portDirection p)).length + s.lane.reserved.get (portDirection p) ≤ Config.creditCapacity

/-- R149 to R151: the journal's slots: those reserved are the contexts', those held are the recovery entries', and no more than 512
with the records. -/
def State.journalSlotsHold (s : State) : Prop :=
  s.journal.reserved = (s.ctx .a).journalRes + (s.ctx .b).journalRes
    ∧ s.journal.held = s.standing.recovery.length ∧ s.standing.recovery.length ≤ Config.recoveryCapacity
    ∧ s.journal.records.length + s.journal.held + s.journal.reserved ≤ Config.journalCapacity

/-- Section 1.5, R9, R10: the proof queue: a CHECK is outstanding exactly while it holds a request; only its head can be abandoned;
each context has at most one request in it that is not, and is then CHECKING. So at most two are not abandoned. -/
def State.proofQueueHolds (s : State) : Prop :=
  (s.dialog.proofTimer.isSome = true ↔ s.dialog.proofQueue ≠ [])
    ∧ (∀ r ∈ s.dialog.proofQueue.tail, r.abandoned = false)
    ∧ (∀ p, s.dialog.proofQueue.countP (fun r => !r.abandoned && r.port == p) ≤ 1)
    ∧ (∀ r ∈ s.dialog.proofQueue, r.abandoned = false → (s.ctx r.port).state = .checking)

/-- R12, R108, R149: the slots of the credit queues, the journal and the proof queue, with what a context holds and waits for. -/
def State.slotsHold (s : State) : Prop :=
  (∀ p, s.creditSlotsHold p ∧ (s.ctx p).holdsSlots ∧ (s.ctx p).knowsCard ∧ (s.port p).awaited (s.ctx p)
      ∧ ((s.ctx p).state = .judging → s.tariff.active.isSome = true))
    ∧ s.journalSlotsHold ∧ s.proofQueueHolds

/-! ### The lane -/

/-- R113: for each direction, the credits granted are those consumed, lapsed and still queued. -/
def Lane.accountHolds (l : Lane) : Prop :=
  ∀ d, (l.counts.get d).granted = (l.counts.get d).consumed + (l.counts.get d).lapsed + (l.credits.get d).length

/-- R115: while the grant is NONE no direction has a credit. R109, R137: out of service no credit is queued. -/
def Lane.queuesServed (l : Lane) : Prop :=
  (l.grant = none ∨ l.eff.inService = false) → l.credits.inbound = [] ∧ l.credits.outbound = []

/-- R132: the modes that can be commanded. -/
def Mode.commandable : Mode → Bool
  | .normal | .entryOnly | .exitOnly | .closed => true
  | .freeExit | .fault => false

/-- R132, R135: the commanded mode is one that can be commanded, and the effective mode is the one its inputs give. -/
def Lane.modeDerived (l : Lane) : Prop := l.cmd.commandable = true ∧ l.eff = l.derived

/-- R124, R128, R129, R130: the motion timer runs exactly in OPENING and CLOSING; a jam is SET while the flaps are JAMMED and
CLEAR while they stand at a limit; the flaps never close onto a blocked flap zone. -/
def Lane.flapsSafe (l : Lane) : Prop :=
  (l.motionTimer.isSome = true ↔ l.flap = .opening ∨ l.flap = .closing)
    ∧ (l.flap = .jammed → l.jam.isSome = true) ∧ (l.flap = .closed ∨ l.flap = .opened → l.jam = none)
    ∧ (l.flap = .closing → l.flapZone = false)

/-! ### The line -/

/-- R172: no quota is exceeded. -/
def LineIf.quotasHold (l : LineIf) : Prop :=
  l.count (.port .up) ≤ Config.portQuota ∧ l.count (.port .down) ≤ Config.portQuota ∧ l.count .own ≤ Config.localQuota

/-- R173: each HOLD output agrees with the count of its port. -/
def LineIf.holdAgrees (l : LineIf) : Prop :=
  ∀ p, (l.holdOut.get p = true → Config.holdRelease < l.count (.port p))
    ∧ (l.holdOut.get p = false → l.count (.port p) < Config.holdAssert)

/-! ### The words of the statements -/

/-- A whole good frame can arrive: the part works, the port's link is UP, no reception is under way on it, and its start finds a
buffer (R163, R165). -/
def State.canReceive (s : State) (p : LinePort) : Prop :=
  s.pins.reset = false ∧ s.line.link.get p = true ∧ s.line.receiving.get p = false ∧ s.line.receives p = true

/-- A line command addressed to this gate can arrive and be answered: the gate has an address, and the up link, by which the
REPLY goes, is UP (R167, R176). -/
def State.canAnswer (s : State) (a : Arrival) : Prop :=
  s.canReceive a.port ∧ a.broadcast = false ∧ 1 ≤ s.line.address ∧ s.line.address ≤ 62 ∧ s.line.link.up = true

/-- R179: the line once a good frame has come by the port: by the up port it starts the silence timer and makes the part
CONNECTED. -/
def LineIf.heardOn (q : Params) (p : LinePort) (l : LineIf) : LineIf :=
  match p with
  | .up => { l with silenceTimer := some (q.silence * 1000), connected := true }
  | .down => l

/-- The line with the port's buffer taken for a reception (R165). -/
def LineIf.taking (p : LinePort) (l : LineIf) : LineIf := { l with receiving := l.receiving.put p true }.setHold

/-- The state in which a line command that has arrived whole is executed. -/
def State.onArrival (s : State) (p : LinePort) : State :=
  { s with line := (s.line.taking p).heardOn s.params p }

/-- The line after a command addressed to this gate: the frame's buffer is held for its REPLY (R165, R169, R176, R179). -/
def LineIf.answered (q : Params) (p : LinePort) (r : Reply) (restart : Bool) (l : LineIf) : LineIf :=
  let m := l.heardOn q p
  ({ m with held := m.held ++ [⟨p, .up, .reply r, restart⟩] } : LineIf).setHold

/-- A line command as a frame carries it: how its frame arrives, its Tag, and the command. -/
def asLineCommand : Instr → Option (Arrival × Byte × LineCommand)
  | .time a tag date secs => some (a, tag, .time date secs)
  | .set a tag entries => some (a, tag, .set entries)
  | .query a tag => some (a, tag, .query)
  | .stageOpen a tag bankTag => some (a, tag, .stageOpen bankTag)
  | .stageLoad a tag bankTag segment part values => some (a, tag, .stageLoad bankTag segment part values)
  | .stageSwitch a tag effective => some (a, tag, .stageSwitch effective)
  | .stageDiscard a tag => some (a, tag, .stageDiscard)
  | .denyAdd a tag cardId reason action => some (a, tag, .denyAdd cardId reason action)
  | .denyDrop a tag cardId => some (a, tag, .denyDrop cardId)
  | .collect a tag k => some (a, tag, .collect k)
  | .trim a tag firstSeq n => some (a, tag, .trim firstSeq n)
  | .laneMode a tag mode => some (a, tag, .laneMode mode)
  | .ackStart a tag => some (a, tag, .ackStart)
  | .restart a tag => some (a, tag, .restart)
  | .coldReset _ | .warmReset | .emergencyPinChange _ | .emergencyTaken | .linkPinChange _ _ | .linkTaken _
  | .holdInputChange _ _ | .frameStart _ | .frameEnd _ _ _ | .transmissionBegin _ | .transmissionEnd _ | .heldConversion
  | .silenceTimerExpiry | .enumerate _ | .unknownKind _ _ _ | .sight _ _ | .suspect _ _ | .clockAdvance | .timeAgeExpiry
  | .switchApplication | .recoveryExpiry _ | .pollTimerExpiry _ | .senseAnswer _ _ | .readAnswer _ _ | .proveAnswer _ _
  | .checkAnswer _ | .proofTimeoutExpiry | .verbDeadlineExpiry _ | .recheckBeforeCommit _ | .markAnswer _ _
  | .commitAnswer _ _ | .confirmingReadAnswer _ _ | .reissuedCommitAnswer _ _ | .sampleTimerExpiry | .sampleSet _
  | .anomaly | .creditLifeExpiry | .waitLimitExpiry _ | .limitAsserted _ _ | .closeDelayExpiry | .motionTimerExpiry
  | .briskTimerExpiry | .dormantTimerExpiry | .tallyGapExpiry => none

/-- The frame a row of the line stands for (log 4): how it arrives, its Kind and its payload. -/
def asFrame : Instr → Option (Arrival × Byte × List Byte)
  | .enumerate n => some (⟨.up, true, 0, 0⟩, 0, [n])
  | .unknownKind a kind payload => some (a, kind, payload)
  | .sight a x => some (a, 18, SightPayload.bytes x)
  | .suspect a x => some (a, 19, SuspectPayload.bytes x)
  | i => (asLineCommand i).map fun x => (x.1, x.2.2.kind, x.2.1 :: x.2.2.fields)

/-- R3: a message that is the answer of the verb outstanding on a port, issued for purpose `u`, with the ending `e`; its context
has not been refused meanwhile. -/
def State.answeredBy (s : State) (p : Port) (u : Purpose) (message : List Byte) (e : Ending) : Prop :=
  ∃ o, (s.port p).outstanding = some o ∧ o.purpose = u ∧ o.dropped = false
    ∧ parseAnswer message = some (u.code, o.tag, e)

/-- A frame that this gate takes can arrive by the port of `a`: as a broadcast, or addressed to a gate that has an address (R167 to
R169). -/
def State.canTake (s : State) (a : Arrival) : Prop :=
  s.canReceive a.port ∧ (a.broadcast = false → 1 ≤ s.line.address ∧ s.line.address ≤ 62)

/-- R168, R169: the line after a SIGHT or SUSPECT has been taken: as a broadcast its buffer goes on to the other port with Hops
reduced by 1 while Hops is above 0 and that link is UP; otherwise it is free. -/
def LineIf.handedOver (a : Arrival) (kind : Byte) (payload : List Byte) (l : LineIf) : LineIf :=
  let m : LineIf := { l with receiving := l.receiving.put a.port false }
  (if a.broadcast = true ∧ 0 < a.hops ∧ l.link.get (otherLine a.port) = true then
    { m with
      relayQ := m.relayQ.put (otherLine a.port)
        (m.relayQ.get (otherLine a.port) ++ [⟨⟨kind, 63, a.src, a.hops - 1, payload⟩, .port a.port, false⟩]) }
  else m : LineIf).setHold

/-- R32: a service time whose age exceeds the horizon. -/
def State.tooOld (s : State) (r : ServiceTime) : Prop :=
  s.clock.state ≠ .unset ∧ s.params.horizon < s.clock.time.absolute - r.absolute

/-- R32: the sighting record of a card that stands and has not aged out. -/
def State.stands (s : State) (cardId : Nat) (r : Sighting) : Prop := s.sighting cardId = some r ∧ ¬s.tooOld r.time

/-- R147: the record that an append makes of contents at this moment. -/
def State.recordOf (s : State) (c : Content) : Record :=
  ⟨s.journal.nextSeq, s.stamp, !s.line.connected, s.clock.state != .good || c.stale, c⟩

/-- R177: the line with a frame of the part's own at the tail of a port's local queue. -/
def LineIf.queued (p : LinePort) (f : Frame) (l : LineIf) : LineIf :=
  ({ l with localQ := l.localQ.put p (l.localQ.get p ++ [⟨f, .own, false⟩]) } : LineIf).setHold

/-- R177: the state with SEND_DROP set. -/
def State.dropping (s : State) : State := { s with mgmt := { s.mgmt with flags := { s.mgmt.flags with sendDrop := true } } }

/-- R195: the EVENT frame of an event asked for at this moment. -/
def State.eventFrame (s : State) (e : Event) : Frame :=
  ⟨17, 0, byte s.line.address, 0, eventPayload s.mgmt.eventNo s.clock s.stamp e⟩

/-- R34, R177: what the end of a write in state `s` leaves in state `t` of the SIGHT of its sighting. With at most one of the four local
places taken and no frame held for a reply, an event of the journal (R155, R156) still leaves a place for each copy: one joins the local
queue of each port whose link is UP. With no place free every copy is dropped and SEND_DROP set. -/
def State.sightSent (s t : State) (r : Sighting) : Prop :=
  (s.line.held = [] → s.line.count .own ≤ 1 → ∀ q, s.line.link.get q = true → ∃ earlier later,
    t.line.localQ.get q = s.line.localQ.get q ++ earlier
      ++ ⟨⟨18, 63, byte s.line.address, s.params.sightHops, sightPayload r⟩, .own, false⟩ :: later)
  ∧ (4 ≤ s.line.count .own → t.line.localQ = s.line.localQ
    ∧ (s.line.link.up = true ∨ s.line.link.down = true → t.mgmt.flags.sendDrop = true))

/-- R2, R3: the card port when its verb has ended: nothing outstanding, and the pending SHOW sent. -/
def PortLink.ended (l : PortLink) : PortLink := { l with outstanding := none, pendingShow := none }

/-- R2: the port's pending SHOW as it is sent, with what was sent before it. -/
def State.shown (s : State) (p : Port) : List Sent :=
  (s.port p).pendingShow.toList.map (fun w => Sent.display p (s.port p).tag w) ++ s.sent

/-- R2: the card port once a verb has been issued on it. -/
def PortLink.issued (u : Purpose) (q : Params) (challenge : Option (BitVec 64)) (l : PortLink) : PortLink :=
  { tag := nextTag l.tag
    outstanding := some ⟨u, nextTag l.tag, q.timeAllowed u, challenge, false⟩
    pendingShow := none }

/-- R4: the command that brings the answer of a verb issued for a purpose. -/
def Purpose.answerCommand : Purpose → Port → List Byte → Instr
  | .sense => .senseAnswer
  | .read => .readAnswer
  | .prove => .proveAnswer
  | .commit => .commitAnswer
  | .mark => .markAnswer
  | .confirmRead => .confirmingReadAnswer
  | .reissue => .reissuedCommitAnswer

/-- R3, R4: the verb outstanding on a port, issued for purpose `u`, ends by command `c` with no answer (its deadline has run out) or
with GARBLED; its context has not been refused meanwhile. R7: a READ answered with another card's image ends so too. -/
def State.endsUnanswered (s : State) (p : Port) (u : Purpose) (c : Instr) : Prop :=
  (c = .verbDeadlineExpiry p ∧ ∃ o, (s.port p).outstanding = some o ∧ o.purpose = u ∧ o.dropped = false ∧ o.deadline = 0)
    ∨ (∃ message, c = u.answerCommand p message ∧ s.answeredBy p u message .garbled)
    ∨ (u = .read ∧ ∃ message b other, c = .readAnswer p message ∧ s.answeredBy p .read message (.answered b)
      ∧ imageCardId b = some other ∧ (s.ctx p).cardId ≠ some other)

/-- R3: the verb outstanding on a port ends by command `c` with FIELD_LOST. -/
def State.endsFieldLost (s : State) (p : Port) (u : Purpose) (c : Instr) : Prop :=
  ∃ message, c = u.answerCommand p message ∧ s.answeredBy p u message .fieldLost

/-- R3: the verb outstanding on a port ends by command `c` with an answer that carries `b`. -/
def State.endsAnswered (s : State) (p : Port) (u : Purpose) (c : Instr) (b : List Byte) : Prop :=
  ∃ message, c = u.answerCommand p message ∧ s.answeredBy p u message (.answered b)

/-- R22, R23: what a refusal without a MARK leaves in state `t`, for a context of state `s`: the SHOW with the code and the balance
as read; a REFUSAL record, in a reserved slot when one is held and in an open one otherwise, but none after a clone finding; the
reservations and the in-flight member given back; HOLDING with the CardId, the poll timer started. -/
def State.refusedTo (s t : State) (p : Port) (code : RefusalCode) (amount : Option Nat) : Prop :=
  t.sent.head? = some (.display p (s.port p).tag ⟨.refused code, amount, (s.ctx p).image.map Image.balance⟩)
    ∧ (code ≠ .clone → t.journal.records = s.journal.records ++
        if (s.ctx p).journalRes = 0 ∧ s.journal.free ≤ 16 then []
        else [s.recordOf { kind := .refusal, direction := some (portDirection p), cardId := (s.ctx p).cardId
                           reason := some (.refusal code) }])
    ∧ (t.ctx p).state = .holding ∧ (t.ctx p).cardId = (s.ctx p).cardId ∧ (t.ctx p).creditRes = false
    ∧ (t.ctx p).journalRes = 0 ∧ (t.ctx p).inFlight = false
    ∧ ((s.ctx p).inFlight = true → t.standing.inFlight.get p = none)
    ∧ (t.ctx p).pollTimer = some (t.params.pollPeriod t.lane.tempo)

/-- R20: what a conclusion with write leaves in state `t`: the records with the values after the write, the sighting and its SIGHT, the
credit at the tail of its queue, SHOW ACCEPTED, HOLDING. The lane is in service. That at most one event precedes the SIGHT rests on the
reserved slots (`State.slotsHold`). -/
def State.concludedTo (s t : State) (p : Port) (cardId pre : Nat) (k : Intended) : Prop :=
  t.journal.records.map Record.content =
      s.journal.records.map Record.content ++ k.contents.map (Content.written (pre + 1) k.balance)
    ∧ t.sighting cardId = some ⟨cardId, pre + 1, k.balance, admittedKind (portDirection p), s.line.address, s.stamp⟩
    ∧ t.lane.credits.get (portDirection p) = s.lane.credits.get (portDirection p) ++
        [⟨s.lane.nextCreditNo, portDirection p, if k.cls = 7 then .staff else .fare, cardId, s.stamp,
          s.params.creditLife * 1000, 0⟩]
    ∧ t.lane.nextCreditNo = (s.lane.nextCreditNo + 1) % 65536
    ∧ t.sent.head? = some (.display p (s.port p).tag ⟨.accepted, some k.amount, some k.balance⟩)
    ∧ (t.ctx p).state = .holding ∧ (t.ctx p).creditRes = false ∧ (t.ctx p).inFlight = false
    ∧ (s.slotsHold → s.sightSent t ⟨cardId, pre + 1, k.balance, admittedKind (portDirection p), s.line.address, s.stamp⟩)

/-- R19, R39, R41: what a torn write leaves in state `t`: a recovery entry with the journal slot held for it, and the TORN sighting;
the TORN sighting is broadcast (where `State.slotsHold`), and the CardId is withdrawn from the in-flight set. -/
def State.tornTo (s t : State) (p : Port) (cardId pre : Nat) (preBalance : Int) (k : Intended) : Prop :=
  t.standing.recovery = s.standing.recovery ++
      [{ cardId := cardId, preCounter := pre, preBalance := preBalance, intendedBalance := k.balance
         intendedIn := k.entry.isSome, fare := k.amount, fareKind := k.fareKind, direction := portDirection p
         created := s.stamp, bankTag := k.bankTag, remaining := s.params.recoveryWindow * 1000 }]
    ∧ t.journal.held = s.journal.held + 1 ∧ (t.ctx p).journalRes = 0 ∧ (t.ctx p).creditRes = false
    ∧ t.sighting cardId = some ⟨cardId, pre, preBalance, .torn, s.line.address, s.stamp⟩
    ∧ (s.slotsHold → s.sightSent t ⟨cardId, pre, preBalance, .torn, s.line.address, s.stamp⟩)
    ∧ (t.ctx p).inFlight = false ∧ ((s.ctx p).inFlight = true → t.standing.inFlight.get p = none)

/-- R94, R95: what the band test and the limits leave in state `t` of the trim or the retry of beam `i` in state `s`, whose record they
meet as `r`. In the band it has succeeded. Out of it the next step is taken with DRIVE, while Steps and Drive leave room for one;
otherwise it has failed: a beam in TRIMMING enters FAULT with a record and an event, a retried one stays as it was. Settle is 0 after each
(log 51). -/
def State.trimJudged (s t : State) (i : Nat) (r : BeamRecord) : Prop :=
  let q := s.params
  let limit := q.target * q.band / 128
  let below := r.ref + limit < q.target
  let above := q.target + limit < r.ref
  let beams (x : BeamRecord) (trim : Option Nat) : Beams :=
    { s.beam with records := s.beam.records.put i x, trimBeam := trim }
  let stepped (drive : Nat) : State :=
    { s with
      beam := beams { r with drive := drive, steps := r.steps + 1, settle := 0 } (some i)
      sent := .drive i drive :: s.sent }
  (¬below → ¬above →
    t = { s with beam := beams { r with state := .clear, count := 0, cause := none, settle := 0 } none })
  ∧ (below → r.steps < q.trimSteps → r.drive < 63 → t = stepped (r.drive + 1))
  ∧ (above → r.steps < q.trimSteps → 0 < r.drive → t = stepped (r.drive - 1))
  ∧ ((below ∧ (q.trimSteps ≤ r.steps ∨ 63 ≤ r.drive)) ∨ (above ∧ (q.trimSteps ≤ r.steps ∨ r.drive = 0)) →
    (r.state = .fault → t = { s with beam := beams { r with settle := 0 } none })
    ∧ (r.state ≠ .fault →
      t.beam = beams { r with state := .fault, cause := some .trim, settle := 0 } none
      ∧ t.journal.records = s.journal.records ++
        (if 1 ≤ s.journal.free then
          [s.recordOf { kind := .fault, direction := none, reason := some (.fault .beamTrim), count := some i }]
        else [])
      ∧ (q.eventMask = 8#12 → t.mgmt.eventNo = (s.mgmt.eventNo + 1) % 65536
        ∧ (s.line.link.up = true → s.line.held = [] → s.line.count .own < 4 →
          t.line.localQ.up = s.line.localQ.up ++
            [⟨⟨17, 0, byte s.line.address, 0, eventPayload s.mgmt.eventNo s.clock s.stamp (.beamFault i)⟩, .own, false⟩]))
      ∧ t.dialog = s.dialog ∧ t.standing = s.standing ∧ t.tariff = s.tariff ∧ t.lane = s.lane ∧ t.params = s.params
      ∧ t.pins = s.pins ∧ t.sent = s.sent))

/-- R25: what a change of the effective mode leaves in state `t` of a context that it refuses in state `s`: HOLDING with the CardId, the
reservations and the in-flight member given back, no request of its own left in the proof queue but an abandoned one. With no verb
outstanding the refusal is shown and the poll timer started; otherwise the verb's answer will be discarded, the SHOW is pending, and
the poll timer waits for the verb's end. -/
def State.refusedByMode (s t : State) (p : Port) (code : RefusalCode) : Prop :=
  let content : Show := ⟨.refused code, none, (s.ctx p).image.map Image.balance⟩
  (t.ctx p).state = .holding ∧ (t.ctx p).cardId = (s.ctx p).cardId ∧ (t.ctx p).creditRes = false ∧ (t.ctx p).journalRes = 0
    ∧ (t.ctx p).switchHeld = false ∧ (t.ctx p).inFlight = false
    ∧ ((s.ctx p).inFlight = true → t.standing.inFlight.get p = none)
    ∧ (∀ r ∈ t.dialog.proofQueue, r.port = p → r.abandoned = true)
    ∧ ((s.port p).outstanding = none → t.port p = { s.port p with pendingShow := none }
      ∧ Sent.display p (s.port p).tag content ∈ t.sent
      ∧ (t.ctx p).pollTimer = some (t.params.pollPeriod t.lane.tempo))
    ∧ (∀ o, (s.port p).outstanding = some o →
      t.port p = { s.port p with outstanding := some { o with dropped := true }, pendingShow := some content }
      ∧ (t.ctx p).pollTimer = none)

end Sys2Proof.Machine
end

