-- ==== Sys2Proof/Certificates/Slice0/Obligations.lean ====
section
/-! DEFINITION. The statements for the provers. Each docstring says which rule of the manual it formalises; a clause that rests on
a choice of the model names the log entry. `follow` is what holds after every step whatever the command (statement
`WhatFollowsEveryStep`), so `.next (follow u)` gives the whole next state by `u`. -/

open Sys2Proof Sys2Proof.Machine

/-! ### The machine -/

/-- The command at the front of the queue is taken: a step is that command's effect on the state with the queue's rest. The queue
is the model's (the spec gives the block no queue of its own). -/
def Obligations.StepTakesTheFrontCommand : Prop :=
  ∀ (c : Instr) (rest : List Instr) (s : State), s.pending = c :: rest → step s = exec c { s with pending := rest }

/-- Every command that a link can carry answers a next state, and leaves the queue of waiting commands as it is; a command that no
link can carry is refused as ill formed (log 41). No command ends in a fault: the manual describes none. -/
def Obligations.EveryCommandCompletesAndKeepsTheQueue : Prop :=
  ∀ (c : Instr) (s : State),
    (c.wf = true → ∃ t, exec c s = .next t ∧ t.pending = s.pending) ∧ (c.wf = false → exec c s = .refused .illFormed)

/-- On an empty queue the part idles (log 1, log 2): the first of its own steps that is due joins the queue; when none is due a
millisecond of its timebase passes, and every timer that runs falls by one: poll timers, verb deadlines and the deadline of CHECK,
Remaining, the sample timer, the close, motion, brisk, dormant and tally timers, the filters of EMERGENCY and of the links, the
silence timer and the clock's age. R110: the Life of a credit falls while it is the head of its queue, its direction granted and the
flaps OPEN, and stands otherwise. R111: the Wait of every credit of a direction that is not granted rises, and stands otherwise (whole
milliseconds: log 44). Every other item of the state stands: dialogs, lists, lane, line, journal, tariff, parameters, pins. -/
def Obligations.IdlePartGivesItsOwnStepOrPassesAMillisecond : Prop :=
  ∀ s : State, s.pending = [] → s.pins.reset = false →
    (∀ c, s.ownStep = some c → step s = .next { s with pending := [c] })
    ∧ (s.ownStep = none →
      let down (x : Timer) : Timer := x.map (· - 1)
      let context (c : Context) : Context := { c with pollTimer := down c.pollTimer }
      let link (l : PortLink) : PortLink :=
        { l with outstanding := l.outstanding.map fun o => { o with deadline := o.deadline - 1 } }
      ∃ credits : ByDir (List Credit),
        (∀ (d : Direction) (n : Nat), (credits.get d)[n]? = (s.lane.credits.get d)[n]?.map fun (c : Credit) =>
          { c with
            life := if n = 0 ∧ s.lane.grant = some d ∧ s.lane.flap = .opened then c.life - 1 else c.life
            wait := if s.lane.grant = some d then c.wait else c.wait + 1 })
        ∧ step s = .next
          { s with
            now := s.now + 1
            second := s.second - 1
            dialog := { s.dialog with
              ctx := ⟨context (s.ctx .a), context (s.ctx .b)⟩
              port := ⟨link (s.port .a), link (s.port .b)⟩
              proofTimer := down s.dialog.proofTimer }
            standing := { s.standing with
              recovery := s.standing.recovery.map fun e => { e with remaining := e.remaining - 1 } }
            beam := { s.beam with sampleTimer := down s.beam.sampleTimer }
            lane := { s.lane with
              credits := credits
              closeTimer := down s.lane.closeTimer
              motionTimer := down s.lane.motionTimer
              emergencyFilter := down s.lane.emergencyFilter
              briskTimer := down s.lane.briskTimer
              dormantTimer := down s.lane.dormantTimer
              tallyTimer := down s.lane.tallyTimer }
            line := { s.line with
              linkFilter := ⟨down s.line.linkFilter.up, down s.line.linkFilter.down⟩
              silenceTimer := down s.line.silenceTimer }
            mgmt := { s.mgmt with timeAge := down s.mgmt.timeAge } })

/-- What follows every step: the brisk timer starts again when the body list has become empty after an expiry that found a body
(R142); the dormant timer runs, from the full time at each start, exactly while the tempo is STEADY and the lane is quiet (R143);
Tried is clear in every beam while the lane is not idle (R97). Nothing else changes. -/
def Obligations.WhatFollowsEveryStep : Prop :=
  ∀ s : State, ∃ (brisk dormant : Timer) (tried : BeamRecord → BeamRecord),
    follow s = { s with
        lane := { s.lane with briskTimer := brisk, dormantTimer := dormant }
        beam := { s.beam with records := s.beam.records.map tried } }
    ∧ brisk = (if s.lane.tempo = .brisk ∧ s.lane.briskTimer = none ∧ s.beam.bodies = [] then
        some (s.params.briskHold * 1000) else s.lane.briskTimer)
    ∧ dormant = (if s.lane.tempo = .steady ∧ s.laneQuiet = true then
        some (s.lane.dormantTimer.getD (s.params.idleToDormant * 1000)) else none)
    ∧ (∀ r, tried r = if s.laneIdle = true then r else { r with tried := false })

/-! ### The resets -/

/-- R194, with the cold values that each chapter gives: a cold reset at power-on with the RESET pin released. The lane takes its
flap state from the limit inputs (R131) and its mode from the EMERGENCY pin (R133, R135); the links are taken from their inputs
(R181). The challenge generator draws on (log 7); Beam.SenseTag is 2 after the first SAMPLE (R85, log 40). That the own timebase
starts at 0, and its first second 1,000 ms long, is the model's choice (log 42). -/
def Obligations.ColdResetLeavesTheColdValues : Prop :=
  ∀ s : State, s.pins.reset = false →
    ∃ t, exec (.coldReset .powerOn) s = .next t
      ∧ t.standing = {} ∧ t.tariff = {} ∧ t.journal = {} ∧ t.mgmt = {} ∧ t.params = {} ∧ t.beam = {}
      ∧ t.dialog = { ctx := ⟨.started 150, .started 150⟩, challengeNo := s.dialog.challengeNo }
      ∧ t.line = { link := s.pins.link } ∧ t.pins = s.pins ∧ t.now = 0 ∧ t.second = 1000 ∧ t.pending = s.pending
      ∧ t.lane.cmd = .closed ∧ t.lane.eff = (if s.pins.emergency then .freeExit else .closed)
      ∧ t.lane.emergency = s.pins.emergency ∧ t.lane.jam = none ∧ t.lane.faultBeams = 0
      ∧ t.lane.credits = ⟨[], []⟩ ∧ t.lane.reserved = ⟨0, 0⟩ ∧ t.lane.counts = ⟨{}, {}⟩ ∧ t.lane.nextCreditNo = 0
      ∧ t.lane.grant = none ∧ t.lane.lastServed = none ∧ t.lane.freeCount = 0
      ∧ t.lane.tempo = .steady ∧ t.lane.briskTimer = none ∧ t.lane.dormantTimer = some 60000
      ∧ t.lane.tally = [] ∧ t.lane.tallyPhase = .ready ∧ t.lane.tallyA = false ∧ t.lane.tallyB = false
      ∧ t.lane.flap =
        (match s.pins.atOpen, s.pins.atClosed with
        | true, false => .opened
        | false, true => if s.pins.emergency then .opening else .closed
        | _, _ => if s.pins.emergency then .opening else .closing)
      ∧ t.lane.closeTimer = (if t.lane.flap = .opened then some 600 else none)
      ∧ t.lane.motionTimer = (if t.lane.flap = .opening ∨ t.lane.flap = .closing then some 1500 else none)

/-- R181: a cold reset returns every buffer to the free list; a frame in transmission is cut off, a frame in reception is lost, and
no frame is sent because of the reset. -/
def Obligations.ColdResetEmptiesTheLine : Prop :=
  ∀ (cause : ResetCause) (s : State), s.pins.reset = false → cause ≠ .pinReleased →
    ∃ t, exec (.coldReset cause) s = .next t
      ∧ t.line.free = 24 ∧ t.line.relayQ = ⟨[], []⟩ ∧ t.line.localQ = ⟨[], []⟩ ∧ t.line.held = []
      ∧ t.line.tx = ⟨none, none⟩ ∧ t.line.holdOut = ⟨false, false⟩ ∧ t.line.turn = ⟨.own, .own⟩
      ∧ t.line.receiving = ⟨false, false⟩ ∧ t.line.link = s.pins.link ∧ t.line.address = 0
      ∧ t.line.connected = false ∧ t.line.silenceTimer = none ∧ t.params.sightHops = 15 ∧ t.params.silence = 5
      ∧ (∀ p f, Sent.frame p f ∈ t.sent ↔ Sent.frame p f ∈ s.sent)
      ∧ (∀ p b, s.line.tx.get p = some b → Sent.cutOff p b.frame ∈ t.sent)

/-- R194: the RESET pin. Its assertion brings the cold values and starts no work: nothing is sent but the frames cut off, and neither
flap output is driven. While it is asserted the part takes nothing: a command other than COLD_RESET changes at most the levels on the
input pins, which the reset reads when it ends (log 6). Its release brings what a power-on brings with the pin released. -/
def Obligations.ResetPinHoldsThePart : Prop :=
  (∀ s : State,
    (∃ t, exec (.coldReset .pinAsserted) s = .next t ∧ t.pins = { s.pins with reset := true }
      ∧ t.standing = {} ∧ t.tariff = {} ∧ t.journal = {} ∧ t.mgmt = {} ∧ t.params = {} ∧ t.lane = {}
      ∧ t.flapOpenOut = false ∧ t.flapCloseOut = false
      ∧ ∀ m, m ∈ t.sent → m ∈ s.sent ∨ ∃ p f, m = .cutOff p f)
    ∧ (s.pins.reset = true → exec (.coldReset .pinReleased) s =
        exec (.coldReset .powerOn) { s with pins := { s.pins with reset := false } })
    ∧ (s.pins.reset = false → exec (.coldReset .pinReleased) s = .next s))
  ∧ (∀ (c : Instr) (s : State), c.wf = true → (∀ cause, c ≠ .coldReset cause) → s.pins.reset = true →
    ∃ q : Pins, exec c s = .next { s with pins := q } ∧ q.reset = true
      ∧ ({ s with pins := q } : State).flapOpenOut = false ∧ ({ s with pins := q } : State).flapCloseOut = false)

/-- The state that the model calls reset is what a cold reset leaves with the pins of log 5, but for what had been sent before and
how far the challenge generator had drawn (log 7, log 40; that its DRIVEs went out from B1 to B6 is the model's choice, log 55); and it
meets every invariant that the statements `StepsKeep…` say each
step keeps (the order of the sighting table among them is the model's choice, log 48). -/
def Obligations.ResetStateIsColdAndMeetsTheInvariants : Prop :=
  (∀ s : State, s.pins = {} → s.line.tx = ⟨none, none⟩ →
    exec (.coldReset .powerOn) s = .next
      { State.reset with
        dialog := { State.reset.dialog with challengeNo := s.dialog.challengeNo }
        sent := coldSent ++ s.sent
        pending := s.pending })
  ∧ (State.reset.lane.accountHolds ∧ State.reset.lane.queuesServed)
  ∧ (State.reset.line.quotasHold ∧ State.reset.line.holdAgrees)
  ∧ (State.reset.lane.modeDerived ∧ State.reset.lane.flapsSafe)
  ∧ (State.reset.withinCapacity ∧ State.reset.numbersInRange ∧ State.reset.params.inRange ∧ State.reset.journal.numbered)
  ∧ State.reset.slotsHold

/-- R193, with what each chapter keeps and clears: a warm reset that no outstanding write meets. Parameters, deny list, sightings,
recovery list, the active bank, the journal's records, the clock, the event number, the address, the line state and the port Tags
are kept; the dialogs, the in-flight set, the stage and the switch, the reservations, the credits, the buffers, the flags, the tally and
the bodies are cleared. The lane is commanded CLOSED; EMERGENCY and the faulty beams still give the effective mode (R135), and the limit
inputs the flap state, the open condition in FREE_EXIT and FAULT then driving the flaps open (R131); the tempo is STEADY with the
dormant timer running (R143). R91: each beam record keeps its Level, Ref and Drive, and its FAULT when Cause is TRIM; it is CLEAR
otherwise. Then each DRIVE goes out with the kept step, and the first SAMPLE with the tag after the last (R85, R87); the order of the six, B1 first,
and of the frames cut off, the up port's first, is the model's choice (log 55). That a TRIMMING beam
takes its kept Level as its Ref is read from R91 and R96 (log 27); the flap-zone reading is clear (log 38). -/
def Obligations.WarmResetKeepsWhatTheRulesName : Prop :=
  ∀ s : State, s.pins.reset = false → s.mgmt.restartPending = true → s.mgmt.restartReplyGone = true →
    (∀ p, (s.ctx p).state ≠ .committing ∧ (s.ctx p).state ≠ .confirming) →
    ∃ t, exec .warmReset s = .next t
      ∧ t.params = s.params ∧ t.pins = s.pins ∧ t.now = s.now ∧ t.pending = s.pending
      ∧ t.standing = { s.standing with inFlight := ⟨none, none⟩ }
      ∧ t.tariff = { active := s.tariff.active }
      ∧ t.journal = { s.journal with reserved := 0, overflow := false }
      ∧ t.mgmt = { clock := s.mgmt.clock, timeAge := s.mgmt.timeAge, eventNo := s.mgmt.eventNo }
      ∧ t.line = { address := s.line.address, link := s.pins.link, connected := s.line.connected
                   silenceTimer := s.line.silenceTimer }
      ∧ t.dialog = { ctx := ⟨.started s.params.pollSteady, .started s.params.pollSteady⟩
                     port := ⟨{ tag := s.dialog.port.a.tag }, { tag := s.dialog.port.b.tag }⟩
                     proofTag := s.dialog.proofTag, challengeNo := s.dialog.challengeNo }
      ∧ t.second = s.second
      ∧ t.beam.bodies = [] ∧ t.beam.silent = false ∧ t.beam.missed = 0 ∧ t.beam.trimBeam = none
      ∧ t.beam.acquiring = false ∧ t.beam.senseTag = nextTag s.beam.senseTag
      ∧ t.beam.sampleTimer = some s.params.sampleSteady ∧ t.beam.answered = false
      ∧ t.sent = .sample (nextTag s.beam.senseTag) :: ([6, 5, 4, 3, 2, 1].map fun i => .drive i (s.beam.records.get i).drive)
          ++ s.line.tx.down.toList.map (fun b => .cutOff .down b.frame)
          ++ s.line.tx.up.toList.map (fun b => .cutOff .up b.frame) ++ s.sent
      ∧ t.beam.records = s.beam.records.map (fun r =>
          { r with
            state := if r.state = .fault ∧ r.cause = some .trim then .fault else .clear
            cause := if r.state = .fault ∧ r.cause = some .trim then some .trim else none
            ref := if r.state = .trimming then r.level else r.ref
            count := 0, steps := 0, settle := 0, tried := false })
      ∧ t.lane.faultBeams = s.beam.records.toList.countP (fun r => decide (r.state = .fault ∧ r.cause = some .trim))
      ∧ t.lane.cmd = .closed ∧ t.lane.emergency = s.pins.emergency ∧ t.lane.emergencyFilter = none
      ∧ t.lane.eff = (if s.pins.emergency then .freeExit else if 2 ≤ t.lane.faultBeams then .fault else .closed)
      ∧ t.lane.credits = ⟨[], []⟩ ∧ t.lane.reserved = ⟨0, 0⟩ ∧ t.lane.counts = ⟨{}, {}⟩
      ∧ t.lane.nextCreditNo = s.lane.nextCreditNo ∧ t.lane.grant = none ∧ t.lane.lastServed = none
      ∧ t.lane.jam = none ∧ t.lane.flapZone = false ∧ t.lane.freeCount = 0
      ∧ t.lane.flap =
        (match s.pins.atOpen, s.pins.atClosed with
        | true, false => .opened
        | false, true => if s.pins.emergency = true ∨ 2 ≤ t.lane.faultBeams then .opening else .closed
        | _, _ => if s.pins.emergency = true ∨ 2 ≤ t.lane.faultBeams then .opening else .closing)
      ∧ t.lane.closeTimer = (if t.lane.flap = .opened then some s.params.closeDelay else none)
      ∧ t.lane.motionTimer =
        (if t.lane.flap = .opening ∨ t.lane.flap = .closing then some s.params.flapMotionLimit else none)
      ∧ t.lane.tempo = .steady ∧ t.lane.briskTimer = none
      ∧ t.lane.dormantTimer = some (s.params.idleToDormant * 1000)
      ∧ t.lane.tally = [] ∧ t.lane.tallyPhase = .ready ∧ t.lane.tallyTimer = none
      ∧ t.lane.tallyA = false ∧ t.lane.tallyB = false

/-- R26, R193: a write outstanding at a warm reset is recorded as torn first: with room in the recovery list, its entry joins the
list, its journal slot becomes a held slot, and the card's TORN sighting stands. The context is then IDLE. -/
def Obligations.WarmResetRecordsAWriteAsTorn : Prop :=
  ∀ (p : Port) (i : Intended) (cardId pre : Nat) (preBalance : Int) (s : State), s.pins.reset = false →
    s.mgmt.restartPending = true → s.mgmt.restartReplyGone = true →
    ((s.ctx p).state = .committing ∨ (s.ctx p).state = .confirming) →
    (s.ctx (otherPort p)).state ≠ .committing ∧ (s.ctx (otherPort p)).state ≠ .confirming →
    (s.ctx p).intended = some i → (s.ctx p).cardId = some cardId → (s.ctx p).preCounter = some pre →
    (s.ctx p).preBalance = some preBalance → s.standing.recovery.length < 16 →
    ∃ t, exec .warmReset s = .next t
      ∧ t.standing.recovery = s.standing.recovery ++
          [{ cardId := cardId, preCounter := pre, preBalance := preBalance, intendedBalance := i.balance
             intendedIn := i.entry.isSome, fare := i.amount, fareKind := i.fareKind, direction := portDirection p
             created := s.stamp, bankTag := i.bankTag, remaining := s.params.recoveryWindow * 1000 }]
      ∧ t.journal.held = s.journal.held + 1 ∧ t.journal.records = s.journal.records ∧ t.journal.reserved = 0
      ∧ findBy Sighting.cardId cardId t.standing.sightings =
          some ⟨cardId, pre, preBalance, .torn, s.line.address, s.stamp⟩
      ∧ (t.ctx p).state = .idle ∧ t.standing.inFlight = ⟨none, none⟩ ∧ t.standing.deny = s.standing.deny

/-! ### Pins and links -/

/-- R133, R163, R164, R174: an input pin that changes. A level of EMERGENCY, or of a link detect input, that differs from the one taken
starts its filter of 50 ms, or of 20 ms, and one that changes back within it is not taken; a HOLD level is kept as it is, for the
arbiter to read. Nothing else changes. A link level that has stood 20 ms is taken: UP only makes the link UP;
DOWN tears the port down: its reception, its transmission, both its queues and the held entries bound for it go, every other buffer
stays; the neighbour receives the frame in transmission incomplete, and no other message is sent. -/
def Obligations.PinAndLinkLevelsAreTaken : Prop :=
  (∀ (asserted : Bool) (s : State), s.pins.reset = false → s.pins.emergency ≠ asserted →
    exec (.emergencyPinChange asserted) s = .next (follow
      { s with
        pins := { s.pins with emergency := asserted }
        lane := { s.lane with emergencyFilter := if s.lane.emergency = asserted then none else some 50 } }))
  ∧ (∀ (p : LinePort) (up : Bool) (s : State), s.pins.reset = false → s.pins.link.get p ≠ up →
    exec (.linkPinChange p up) s = .next (follow
      { s with
        pins := { s.pins with link := s.pins.link.put p up }
        line := { s.line with linkFilter := s.line.linkFilter.put p (if s.line.link.get p = up then none else some 20) } }))
  ∧ (∀ (p : LinePort) (asserted : Bool) (s : State), s.pins.reset = false →
    exec (.holdInputChange p asserted) s = .next (follow
      { s with pins := { s.pins with hold := s.pins.hold.put p asserted } }))
  ∧ (∀ (p : LinePort) (s : State), s.pins.reset = false → s.line.linkFilter.get p = some 0 →
    (s.pins.link.get p = true → exec (.linkTaken p) s = .next (follow
      { s with line := { s.line with link := s.line.link.put p true, linkFilter := s.line.linkFilter.put p none } }))
    ∧ (s.pins.link.get p = false → ∃ t, exec (.linkTaken p) s = .next t
        ∧ t.line.link = s.line.link.put p false ∧ t.line.linkFilter = s.line.linkFilter.put p none
        ∧ t.line.receiving = s.line.receiving.put p false ∧ t.line.tx = s.line.tx.put p none
        ∧ t.line.relayQ = s.line.relayQ.put p [] ∧ t.line.localQ = s.line.localQ.put p []
        ∧ t.line.held = s.line.held.filter (fun h => h.bound != p)
        ∧ t.line.address = s.line.address ∧ t.line.connected = s.line.connected ∧ t.line.turn = s.line.turn
        ∧ t.sent = (s.line.tx.get p).toList.map (fun b => Sent.cutOff p b.frame) ++ s.sent
        ∧ t.dialog = s.dialog ∧ t.standing = s.standing ∧ t.tariff = s.tariff ∧ t.journal = s.journal
        ∧ t.params = s.params ∧ t.pins = s.pins ∧ t.lane.flap = s.lane.flap ∧ t.lane.credits = s.lane.credits))

/-- R133, R135 to R138: an EMERGENCY level that has stood 50 ms is taken: an EMERGENCY_ON or EMERGENCY_OFF event is asked for, and the
effective mode is then derived. Asserted, it is FREE_EXIT and both queues are empty; released, it is left to a fault or to the commanded
mode. An effective mode that differs writes a MODE record before any other, with the free crossings of the mode left, and makes
Lane.FreeCount 0 when it is FREE_EXIT or FAULT (its MODE_CHANGE event: `ModeChangeRefusesDialogs`). Bodies, tariff, parameters and pins
stand. That no credit is queued out of service is the invariant `StepsKeepTheCreditAccount` states. -/
def Obligations.EmergencyTakenDerivesTheMode : Prop :=
  ∀ s : State, s.pins.reset = false → s.lane.emergencyFilter = some 0 → s.lane.queuesServed →
    ∃ t, exec .emergencyTaken s = .next t
      ∧ t.lane.emergency = s.pins.emergency ∧ t.lane.emergencyFilter = none
      ∧ (s.pins.emergency = true → t.lane.eff = .freeExit ∧ t.lane.credits = ⟨[], []⟩)
      ∧ (s.pins.emergency = false → s.lane.jam = none → s.lane.faultBeams < 2 → t.lane.eff = s.lane.cmd)
      ∧ (s.pins.emergency = false → s.lane.jam.isSome = true ∨ 2 ≤ s.lane.faultBeams → t.lane.eff = .fault)
      ∧ t.lane.cmd = s.lane.cmd ∧ t.lane.jam = s.lane.jam ∧ t.lane.faultBeams = s.lane.faultBeams
      ∧ t.beam.bodies = s.beam.bodies ∧ t.tariff = s.tariff ∧ t.params = s.params ∧ t.pins = s.pins
      ∧ (let e : Event := if s.pins.emergency then .emergencyOn else .emergencyOff
        t = follow (deriveMode (event e
          { s with lane := { s.lane with emergency := s.pins.emergency, emergencyFilter := none } }))
        ∧ (s.params.eventMask.getLsbD (if s.pins.emergency then 10 else 11) = true → s.line.link.up = true →
          (s.line.held = [] → s.line.count .own < 4 →
            ∃ later, t.line.localQ.up = s.line.localQ.up ++ ⟨s.eventFrame e, .own, false⟩ :: later)
          ∧ (4 ≤ s.line.count .own → t.line.localQ = s.line.localQ ∧ t.mgmt.flags.sendDrop = true)))
      ∧ (t.lane.eff ≠ s.lane.eff →
        (1 ≤ s.journal.free → ∃ later, t.journal.records = s.journal.records ++
          s.recordOf { kind := .mode, direction := none, reason := some (.mode t.lane.eff)
                       count := some (if s.lane.eff = .freeExit ∨ s.lane.eff = .fault then s.lane.freeCount else 0) } :: later)
        ∧ (t.lane.eff = .freeExit ∨ t.lane.eff = .fault → t.lane.freeCount = 0))
      ∧ (t.lane.eff = s.lane.eff → t.lane.freeCount = s.lane.freeCount ∧ t.journal.records.take s.journal.records.length =
          s.journal.records)

/-! ### Frames -/

/-- R165: a frame start on a port whose link is UP, with no reception under way, finds a buffer when a buffer is free and fewer than
10 hold frames of that port: the buffer is then in reception. Otherwise the frame is not received and OVERRUN is set. R166: a frame
that is cut off without an end mark, or whose Check does not match, or whose Length is above 240 or not that of its payload, or whose
Hops is above 62, is discarded: its buffer is freed, and nothing else changes, the silence timer included. That a frame too short for
a header is discarded although its Check matches is the model's choice (log 52). -/
def Obligations.FrameIsReceivedOrDiscarded : Prop :=
  (∀ (p : LinePort) (s : State), s.pins.reset = false → s.line.link.get p = true → s.line.receiving.get p = false →
    (1 ≤ s.line.free ∧ s.line.count (.port p) < 10 →
      exec (.frameStart p) s = .next (follow { s with line := s.line.taking p })
        ∧ (s.line.taking p).count (.port p) = s.line.count (.port p) + 1)
    ∧ (¬(1 ≤ s.line.free ∧ s.line.count (.port p) < 10) →
      exec (.frameStart p) s = .next (follow
        { s with mgmt := { s.mgmt with flags := { s.mgmt.flags with overrun := true } } })))
  ∧ (∀ (p : LinePort) (bytes : List Byte) (endMark : Bool) (s : State), s.pins.reset = false →
    (Instr.frameEnd p bytes endMark).wf = true → s.line.receiving.get p = true →
    (endMark = false ∨ checked bytes = none ∨
      (∃ body, checked bytes = some body ∧
        (body.length < 5 ∨ 62 < (body.getD 3 0).toNat ∨ 240 < (body.getD 4 0).toNat
          ∨ (body.getD 4 0).toNat ≠ body.length - 5))) →
    exec (.frameEnd p bytes endMark) s = .next (follow
      { s with line := ({ s.line with receiving := s.line.receiving.put p false } : LineIf).setHold }))

/-- R167 to R169: the routing of a good frame that FRAME_END ends. For another gate, or from below for the line head (Dest 0), it is
relayed: its buffer goes from reception to the tail of the other port's relay queue while that port's link is UP, and is freed while it
is DOWN. Taken by this gate, addressed to it or as a broadcast, and an ENUMERATE from the up port, it has the effect of its row of the
table of operations, whether the row's one command brings the whole frame or FRAME_START came before (log 4); what each row does,
`AddressedCommandIsExecutedAndAnswered`, `BroadcastCommandActsAndGoesOn` and the statements of the rows say. A taken frame of a Kind
meant for the line head (ENUM-END, REPLY, EVENT) is disregarded, and its buffer is freed, as is that of an ENUMERATE from below, of a
frame from above with Dest 0, and of one with Dest above 63 (log 10). A good frame from the up port is heard (R179). -/
def Obligations.GoodFrameIsRelayedOrTaken : Prop :=
  (∀ (p : LinePort) (f : Frame) (s : State), s.pins.reset = false → s.line.receiving.get p = true →
    f.payload.length ≤ 240 → f.hops ≤ 62 → f.kind ≠ 0 → f.dest.toNat ≤ 62 → (f.dest.toNat = 0 → p = .down) →
    (f.dest.toNat = s.line.address → s.line.address = 0) →
    exec (.frameEnd p f.bytes true) s = .next (follow
      { s with
        line :=
          let l := s.line.heardOn s.params p
          let m : LineIf := { l with receiving := l.receiving.put p false }
          (if l.link.get (otherLine p) = true then
            { m with relayQ := m.relayQ.put (otherLine p) (m.relayQ.get (otherLine p) ++ [⟨f, .port p, false⟩]) }
          else m : LineIf).setHold }))
  ∧ (∀ (i : Instr) (a : Arrival) (kind : Byte) (payload : List Byte) (s : State), i.wf = true →
    asFrame i = some (a, kind, payload) → s.pins.reset = false →
    (a.broadcast = false → 1 ≤ s.line.address ∧ s.line.address ≤ 62) →
    let f : Frame := ⟨kind, if a.broadcast then 63 else byte s.line.address, a.src, a.hops, payload⟩
    (s.line.receiving.get a.port = true → exec (.frameEnd a.port f.bytes true) s = exec i s)
    ∧ (s.canReceive a.port → exec (.frameEnd a.port f.bytes true) { s with line := s.line.taking a.port } = exec i s))
  ∧ (∀ (p : LinePort) (f : Frame) (s : State), s.pins.reset = false → s.line.receiving.get p = true →
    f.payload.length ≤ 240 → f.hops ≤ 62 → s.line.address ≤ 62 →
    ((f.kind = 1 ∨ f.kind = 16 ∨ f.kind = 17) ∧ 1 ≤ s.line.address ∧ f.dest.toNat = s.line.address)
      ∨ (p = .down ∧ f.kind = 0) ∨ (p = .up ∧ f.kind ≠ 0 ∧ f.dest = 0) ∨ (f.kind ≠ 0 ∧ 63 < f.dest.toNat) →
    exec (.frameEnd p f.bytes true) s = .next (follow
      { s with
        line := ({ s.line.heardOn s.params p with receiving := s.line.receiving.put p false } : LineIf).setHold }))

/-- R175: a port begins a transmission when its transmitter is IDLE, its link UP, its HOLD input not asserted and one of its queues
holds a frame. Of two queues that hold frames the arbiter picks from the one that Turn does not name, and Turn then names the
one picked. -/
def Obligations.ArbiterPicksTheQueueTurnDoesNotName : Prop :=
  ∀ (p : LinePort) (s : State), s.pins.reset = false → s.line.tx.get p = none → s.line.link.get p = true →
    s.pins.hold.get p = false →
    (∀ b rest, s.line.relayQ.get p = b :: rest → (s.line.localQ.get p = [] ∨ s.line.turn.get p = .own) →
      exec (.transmissionBegin p) s = .next (follow
        { s with
          line := ({ s.line with
            relayQ := s.line.relayQ.put p rest, tx := s.line.tx.put p (some b)
            turn := s.line.turn.put p .relay } : LineIf).setHold }))
    ∧ (∀ b rest, s.line.localQ.get p = b :: rest → (s.line.relayQ.get p = [] ∨ s.line.turn.get p = .relay) →
      exec (.transmissionBegin p) s = .next (follow
        { s with
          line := ({ s.line with
            localQ := s.line.localQ.put p rest, tx := s.line.tx.put p (some b)
            turn := s.line.turn.put p .own } : LineIf).setHold }))

/-- R175, R192: when the last byte of the frame in transmission has been sent, the transmitter is IDLE, the frame has gone out, and
its buffer is free again; the REPLY of a RESTART has then left the part's hands. R176: when a held entry waits and a local place is
free, the oldest is converted: its frame joins the tail of the local queue of the port it is bound for, and its buffer passes from its
port's quota to the local quota. -/
def Obligations.SentAndHeldFramesPassTheirBuffersOn : Prop :=
  (∀ (p : LinePort) (b : Buffered) (s : State), s.pins.reset = false → s.line.tx.get p = some b →
    exec (.transmissionEnd p) s = .next (follow
      { s with
        line := ({ s.line with tx := s.line.tx.put p none } : LineIf).setHold
        sent := .frame p b.frame :: s.sent
        mgmt := { s.mgmt with restartReplyGone := s.mgmt.restartReplyGone || b.restart } })
    ∧ ({ s.line with tx := s.line.tx.put p none } : LineIf).count b.quota + 1 = s.line.count b.quota)
  ∧ (∀ (h : HeldEntry) (rest : List HeldEntry) (s : State), s.pins.reset = false → s.line.held = h :: rest →
    s.line.count .own < 4 →
    exec .heldConversion s = .next (follow
      { s with
        line := ({ s.line with
          held := rest
          localQ := s.line.localQ.put h.bound
            (s.line.localQ.get h.bound ++ [⟨h.content.frame s.line.address, .own, h.restart⟩]) } : LineIf).setHold })
    ∧ s.line.convertHead.count .own = s.line.count .own + 1
    ∧ s.line.convertHead.count (.port h.source) + 1 = s.line.count (.port h.source))

/-- R177, R195: a copy of a frame for one port. None is made while its link is DOWN; with a local place free it joins the tail of the
port's local queue; with none it is dropped and SEND_DROP is set. A held entry that waits takes a free place before it (log 2). A SIGHT or
SUSPECT goes to each port whose link is UP, the up copy first: of one free place the up copy takes it and the down copy is dropped. An
event whose kind is OFF is not made; otherwise it takes the event number, whatever becomes of its frame for the up port. Nothing else
changes. (SIGHT copies in a command's effect: `WriteIsConfirmedOrTorn`; EVENT frames: `SwitchBringsTheStagedBank`.) -/
def Obligations.CopiesAndEventsTakeALocalPlace : Prop :=
  (∀ (p : LinePort) (f : Frame) (s : State),
    (s.line.link.get p = false → sendCopy p f s = s)
    ∧ (s.line.link.get p = true → s.line.held = [] → s.line.count .own < 4 →
      sendCopy p f s = { s with line := s.line.queued p f }
      ∧ (s.line.queued p f).count .own = s.line.count .own + 1)
    ∧ (s.line.link.get p = true → 4 ≤ s.line.count .own → sendCopy p f s = s.dropping)
    ∧ (s.line.held ≠ [] → s.line.count .own < 4 → s.line.link.get p = true →
      sendCopy p f s = sendCopy p f { s with line := s.line.convertHead.setHold }))
  ∧ (∀ (kind : Byte) (payload : List Byte) (s : State),
    let f : Frame := ⟨kind, 63, byte s.line.address, s.params.sightHops, payload⟩
    let up := s.line.link.up
    let down := s.line.link.down
    (4 ≤ s.line.count .own → broadcast kind payload s = if up = true ∨ down = true then s.dropping else s)
    ∧ (s.line.held = [] → s.line.count .own < 4 →
      (up = false → down = false → broadcast kind payload s = s)
      ∧ (up = true → down = false → broadcast kind payload s = { s with line := s.line.queued .up f })
      ∧ (up = false → down = true → broadcast kind payload s = { s with line := s.line.queued .down f })
      ∧ (up = true → down = true → broadcast kind payload s =
        if s.line.count .own = 3 then { s with line := s.line.queued .up f }.dropping
        else { s with line := (s.line.queued .up f).queued .down f })))
  ∧ (∀ (e : Event) (s : State),
    let numbered : State := { s with mgmt := { s.mgmt with eventNo := (s.mgmt.eventNo + 1) % 65536 } }
    (s.params.eventMask.getLsbD e.row = false → event e s = s)
    ∧ (s.params.eventMask.getLsbD e.row = true →
      (s.line.link.up = false → event e s = numbered)
      ∧ (s.line.link.up = true → s.line.held = [] → s.line.count .own < 4 →
        event e s = { numbered with line := s.line.queued .up (s.eventFrame e) })
      ∧ (s.line.link.up = true → 4 ≤ s.line.count .own → event e s = numbered.dropping)))

/-- R170: an ENUMERATE with a number of 1 to 62 makes it the address, and goes on to the next gate with the number that follows, or
back as ENUM-END while the down link is DOWN; a number above 62 leaves the part unassigned and goes back as an overflow; number 0
changes no address. -/
def Obligations.EnumerateAssignsTheAddress : Prop :=
  ∀ (n : Byte) (s : State), s.canReceive .up →
    ∃ t, exec (.enumerate n) s = .next t
      ∧ (n.toNat = 0 → t.line.address = s.line.address ∧ t.line.held = s.line.held)
      ∧ (1 ≤ n.toNat → n.toNat ≤ 62 → t.line.address = n.toNat
          ∧ t.line.held = s.line.held ++
            [if s.line.link.down = true then ⟨.up, .down, .enumerate (byte (n.toNat + 1)), false⟩
             else ⟨.up, .up, .enumEnd n false, false⟩])
      ∧ (62 < n.toNat → t.line.address = 0 ∧ t.line.held = s.line.held ++ [⟨.up, .up, .enumEnd n true, false⟩])
      ∧ t.line.connected = true ∧ t.line.silenceTimer = some (s.params.silence * 1000)
      ∧ t.line.relayQ = s.line.relayQ ∧ t.line.localQ = s.line.localQ ∧ t.line.tx = s.line.tx
      ∧ t.dialog = s.dialog ∧ t.standing = s.standing ∧ t.tariff = s.tariff ∧ t.journal = s.journal
      ∧ t.mgmt = s.mgmt ∧ t.params = s.params ∧ t.sent = s.sent

/-! ### Line commands -/

/-- R200, section 11.2: the payload that carries a line command, its Tag first and its fields after it, is read back as that command
with that Tag, for every command and every operand that a link can carry. -/
def Obligations.LineCommandPayloadsReadBack : Prop :=
  ∀ (i : Instr) (a : Arrival) (tag : Byte) (c : LineCommand), i.wf = true → asLineCommand i = some (a, tag, c) →
    parseBody c.kind (tag :: c.fields) = .command tag c

/-- R200, R166, sections 11.2 and 11.3: a frame of at most 240 payload bytes and 62 Hops, and a card image whose fields are in their
ranges, read back from their bytes as they are. -/
def Obligations.FramesAndCardImagesReadBack : Prop :=
  (∀ f : Frame, f.payload.length ≤ 240 → f.hops ≤ 62 → parseFrame f.bytes true = some f)
  ∧ (∀ i : Image, i.inRange = true → parseImage i.bytes = some i)

/-- R167, R169, R176, R184: a line command addressed to this gate is executed at the moment it is handed over, and its REPLY, with
the command's Kind, its Tag, the status and the contents fixed at that moment, is held for the up port in the frame's buffer. -/
def Obligations.AddressedCommandIsExecutedAndAnswered : Prop :=
  ∀ (i : Instr) (a : Arrival) (tag : Byte) (c : LineCommand) (s : State), i.wf = true →
    asLineCommand i = some (a, tag, c) → s.canAnswer a →
    let x := execute c (s.onArrival a.port)
    exec i s = .next (follow (x.state.onBuffers fun l =>
      { l with
        receiving := l.receiving.put a.port false
        held := l.held ++
          [⟨a.port, .up, .reply ⟨c.kind, tag, x.status, x.contents⟩, c == .restart && !s.mgmt.restartPending⟩] }))

/-- R167, R168, R185: a broadcast line command that the table of R185 executes as a broadcast has the effect of the addressed one and
no REPLY is made; the others change nothing here. Its buffer then goes on to the other port with Hops reduced by 1 while Hops is
above 0 and that link is UP, and is free otherwise. -/
def Obligations.BroadcastCommandActsAndGoesOn : Prop :=
  ∀ (i : Instr) (a : Arrival) (tag : Byte) (c : LineCommand) (s : State), i.wf = true →
    asLineCommand i = some (a, tag, c) → s.canReceive a.port → a.broadcast = true →
    let x := if c.actsAsBroadcast then (execute c (s.onArrival a.port)).state else s.onArrival a.port
    exec i s = .next (follow (x.onBuffers fun l =>
      let m : LineIf := { l with receiving := l.receiving.put a.port false }
      if 0 < a.hops ∧ s.line.link.get (otherLine a.port) = true then
        { m with
          relayQ := m.relayQ.put (otherLine a.port) (m.relayQ.get (otherLine a.port) ++
            [⟨⟨c.kind, 63, a.src, a.hops - 1, tag :: c.fields⟩, .port a.port, false⟩]) }
      else m))

/-- R197, R198, R79: an acceptable TIME sets the clock, makes it GOOD, starts its age afresh, makes a WAITING switch whose time has
come DUE, and is answered DONE; a TIME with Secs above 86,399 is answered REFUSED_VALUE and changes nothing. At each second of the
own timebase a clock that is not UNSET advances by one second, over the day's end and from Date 65,535 to 0, and a WAITING switch is
tested again. -/
def Obligations.TimeIsSetAndAdvances : Prop :=
  (∀ (a : Arrival) (tag : Byte) (date secs : Nat) (s : State), (Instr.time a tag date secs).wf = true → s.canAnswer a →
      exec (.time a tag date secs) s = .next (follow
        (if secs ≤ 86399 then
          { s with
            mgmt := { s.mgmt with clock := ⟨⟨date, secs⟩, .good⟩, timeAge := some (s.params.timeStale * 1000) }
            tariff :=
              if s.tariff.switch = .waiting ∧
                  s.tariff.switchAt.all (fun e => decide (e.date * 86400 + e.secs ≤ date * 86400 + secs)) = true then
                { s.tariff with switch := .due }
              else s.tariff
            line := s.line.answered s.params a.port ⟨2, tag, .done, .nothing⟩ false }
        else { s with line := s.line.answered s.params a.port ⟨2, tag, .refusedValue, .nothing⟩ false })))
  ∧ (∀ s : State, s.pins.reset = false → s.second = 0 →
    let now : ServiceTime := if s.clock.time.secs < 86399 then ⟨s.clock.time.date, s.clock.time.secs + 1⟩
      else ⟨(s.clock.time.date + 1) % 65536, 0⟩
    exec .clockAdvance s = .next (follow
      (if s.clock.state = .unset then { s with second := 1000 }
      else
        { s with
          second := 1000
          mgmt := { s.mgmt with clock := ⟨now, s.clock.state⟩ }
          tariff :=
            if s.tariff.switch = .waiting ∧
                s.tariff.switchAt.all (fun e => decide (e.absolute ≤ now.absolute)) = true then
              { s.tariff with switch := .due }
            else s.tariff })))

/-- R184, R186: a SET that names a parameter the part does not know, or whose count of entries is 0 or above 47, is refused and
changes nothing; otherwise the parameters are replaced, and the REPLY carries for each entry the value now stored, with CLAMPED when a
value was set to a bound. Unless Lane.WaitLimit is lowered while credits are queued, nothing else changes. R111: a lowered limit acts at
once: every queued credit whose Wait equals or exceeds it lapses with Reason WAIT, and each of the others keeps its place (every
direction's, IN first: log 23). R92: every parameter is left in its range and the dependent bounds satisfied; an entry whose parameter
has no dependent bound stores the value set to the nearer bound, reports CLAMPED exactly when that changed it, and leaves every other
parameter as it was. -/
def Obligations.SetReplacesAndClampsTheParameters : Prop :=
  (∀ (a : Arrival) (tag : Byte) (entries : List (Byte × Int)) (s : State), (Instr.set a tag entries).wf = true →
    s.canAnswer a →
    let q := (s.params.set entries).1
    let reply : Reply := ⟨3, tag, if (s.params.set entries).2 then .clamped else .done,
      .set (entries.map fun e => (e.1, q.read e.1.toNat))⟩
    ((entries = [] ∨ 47 < entries.length ∨ (∃ e ∈ entries, e.1.toNat = 0 ∨ 40 < e.1.toNat)) →
      exec (.set a tag entries) s = .next (follow
        { s with line := s.line.answered s.params a.port ⟨3, tag, .refusedValue, .nothing⟩ false }))
    ∧ (entries ≠ [] → entries.length ≤ 47 → (∀ e ∈ entries, 1 ≤ e.1.toNat ∧ e.1.toNat ≤ 40) →
      (s.params.waitLimit ≤ q.waitLimit ∨ s.lane.credits = ⟨[], []⟩ →
        exec (.set a tag entries) s = .next (follow
          { s with params := q, line := s.line.answered s.params a.port reply false }))
      ∧ (q.waitLimit < s.params.waitLimit →
        let lapses (c : Credit) : Bool := decide (q.waitLimit * 1000 ≤ c.wait)
        ∃ t, exec (.set a tag entries) s = .next t ∧ t.params = q
          ∧ (∀ d, t.lane.credits.get d = (s.lane.credits.get d).filter fun c => !lapses c)
          ∧ (∀ d, t.lane.counts.get d = { s.lane.counts.get d with
              lapsed := (s.lane.counts.get d).lapsed + (s.lane.credits.get d).countP lapses })
          ∧ t.journal.records.map Record.content = s.journal.records.map Record.content ++
              (((s.lane.credits.inbound ++ s.lane.credits.outbound).filter lapses).take s.journal.free).map (fun c =>
                { kind := .lapse, direction := some c.direction, cardId := some c.cardId, reason := some (.lapse .wait) })
          ∧ t.line.held.getLast? = some ⟨a.port, .up, .reply reply, false⟩
          ∧ t.dialog = s.dialog ∧ t.tariff = s.tariff ∧ t.pins = s.pins ∧ t.beam.bodies = s.beam.bodies)))
  ∧ ((∀ (q : Params) (entries : List (Byte × Int)), q.inRange → (q.set entries).1.inRange)
    ∧ (∀ (q : Params) (n : Nat) (v lo hi : Int), q.inRange → paramRange n = some (lo, hi) → n ∉ [19, 20, 22, 23] →
        (q.set [(byte n, v)]).1.read n = (if v < lo then lo else if hi < v then hi else v)
        ∧ ((q.set [(byte n, v)]).2 = true ↔ v < lo ∨ hi < v)
        ∧ ∀ m, m ≠ n → (q.set [(byte n, v)]).1.read m = q.read m))

/-- R187, R188: a QUERY is answered with the snapshot of the part at that moment, its sticky flags included, and in the same step
every sticky flag is made CLEAR; nothing else changes. -/
def Obligations.QueryReportsAndClearsTheFlags : Prop :=
  ∀ (a : Arrival) (tag : Byte) (s : State), (Instr.query a tag).wf = true → s.canAnswer a →
    exec (.query a tag) s = .next (follow
      { s with
        mgmt := { s.mgmt with flags := {} }
        journal := { s.journal with overflow := false }
        line := s.line.answered s.params a.port ⟨4, tag, .done, .query (s.onArrival a.port).snapshot⟩ false })
    ∧ (s.onArrival a.port).snapshot.flags = s.mgmt.flags ∧ (s.onArrival a.port).snapshot.overflow = s.journal.overflow
    ∧ (s.onArrival a.port).snapshot.freshStart = s.mgmt.freshStart
    ∧ (s.onArrival a.port).snapshot.recordCount = s.journal.records.length
    ∧ (s.onArrival a.port).snapshot.credits =
        ⟨⟨s.lane.credits.inbound.length, s.lane.reserved.inbound, s.lane.counts.inbound, s.lane.credits.inbound.head?⟩,
          ⟨s.lane.credits.outbound.length, s.lane.reserved.outbound, s.lane.counts.outbound,
            s.lane.credits.outbound.head?⟩⟩

/-- R73, R80: STAGE-OPEN is refused for BankTag 0 and for the active bank's tag; otherwise it empties the stage, opens it under the
BankTag and cancels a pending switch. STAGE-DISCARD closes a stage that is not closed and cancels a pending switch. A context held for
the switch that is cancelled goes on at once into RECKONING by the active bank, as R14 says: its Intended records are kept, with a second
journal slot when there are two; without that slot it is refused JOURNAL_FULL, and INSUFFICIENT when the reckoning cannot take the
amount. With two held, port A's goes first (log 22); a context not held is not touched. A SHOW carries the port's Tag unchanged
(log 43). -/
def Obligations.StageIsOpenedAndDiscarded : Prop :=
  (∀ (a : Arrival) (tag : Byte) (bankTag : Nat) (s : State), (Instr.stageOpen a tag bankTag).wf = true →
    s.canAnswer a → (∀ p, (s.ctx p).switchHeld = false) →
    exec (.stageOpen a tag bankTag) s = .next (follow
      (if bankTag = 0 ∨ s.tariff.active.map Bank.tag = some bankTag then
        { s with line := s.line.answered s.params a.port ⟨5, tag, .refusedValue, .nothing⟩ false }
      else
        { s with
          tariff := { s.tariff with stage := { state := .opened, tag := bankTag }, switch := .none, switchAt := none }
          line := s.line.answered s.params a.port ⟨5, tag, .done, .nothing⟩ false })))
  ∧ (∀ (a : Arrival) (tag : Byte) (s : State), (Instr.stageDiscard a tag).wf = true →
    s.canAnswer a → (∀ p, (s.ctx p).switchHeld = false) →
    exec (.stageDiscard a tag) s = .next (follow
      { s with
        tariff := if s.tariff.stage.state = .closed then s.tariff
          else { s.tariff with stage := {}, switch := .none, switchAt := none }
        line := s.line.answered s.params a.port ⟨8, tag, .done, .nothing⟩ false }))
  ∧ (∀ (c : Instr) (a : Arrival) (tag kind : Byte) (bankTag : Nat) (g : Stage) (s : State), c.wf = true → s.canAnswer a →
    ((c = .stageOpen a tag bankTag ∧ kind = 5 ∧ g = { state := .opened, tag := bankTag } ∧ bankTag ≠ 0
        ∧ s.tariff.active.map Bank.tag ≠ some bankTag)
      ∨ (c = .stageDiscard a tag ∧ kind = 8 ∧ g = {} ∧ s.tariff.stage.state ≠ .closed)) →
    ∃ t, exec c s = .next t
      ∧ t.tariff = { s.tariff with stage := g, switch := .none, switchAt := none }
      ∧ t.line.held.getLast? = some ⟨a.port, .up, .reply ⟨kind, tag, .done, .nothing⟩, false⟩
      ∧ (∀ p, (s.ctx p).switchHeld = false → t.ctx p = s.ctx p ∧ t.port p = s.port p)
      ∧ (∀ p b i, (s.ctx p).switchHeld = true → s.tariff.active = some b → (s.ctx p).image = some i →
        let reckoned (k : Intended) : Context :=
          { s.ctx p with state := .reckoning, switchHeld := false, intended := some k }
        (∀ k, reckon (portDirection p) b i s.clock = .taken k → k.contents.length ≤ 1 → t.ctx p = reckoned k)
        ∧ ((s.ctx (otherPort p)).switchHeld = false → (s.port p).outstanding = none → (s.port p).pendingShow = none →
          (∀ k, reckon (portDirection p) b i s.clock = .taken k → 1 < k.contents.length →
            (16 < s.journal.free → t.ctx p = { reckoned k with journalRes := (s.ctx p).journalRes + 1 }
              ∧ t.journal = { s.journal with reserved := s.journal.reserved + 1 })
            ∧ (s.journal.free ≤ 16 → (s.onArrival a.port).refusedTo t p .journalFull none))
          ∧ (∀ amount, reckon (portDirection p) b i s.clock = .insufficient amount →
            (s.onArrival a.port).refusedTo t p .insufficient (some amount)))))

/-- R74 to R76, R201: STAGE-LOAD takes its tests in order: the stage is OPEN, BankTag is the stage's, the segment and part exist, the
length is the segment's, and BANDS holds 1 to 4 bands whose StartSecs lie below 86,400 and rise. A load that passes them stores its own
segment, or its own MATRIX part, and nothing else of the stage changes: every other segment's values, and its LOADED bit, stand. A
MATRIX segment is LOADED when both its parts have been accepted, and any other when it has been. STATION, BANDS, CLASSES and RULES
store each value set to the nearer bound of its range, and are answered CLAMPED exactly when a bound changed one; a MATRIX part and
CHECK store their values as they arrive. -/
def Obligations.StageLoadStoresItsSegmentAlone : Prop :=
  (∀ (a : Arrival) (tag : Byte) (bankTag : Nat) (segment part : Byte) (values : List Byte) (s : State),
      (Instr.stageLoad a tag bankTag segment part values).wf = true → s.canAnswer a →
      let answer (st : Status) : LineIf := s.line.answered s.params a.port ⟨6, tag, st, .nothing⟩ false
      let run := exec (.stageLoad a tag bankTag segment part values) s
      (s.tariff.stage.state ≠ .opened → run = .next (follow { s with line := answer .refusedState }))
      ∧ (s.tariff.stage.state = .opened → s.tariff.stage.tag ≠ bankTag →
          run = .next (follow { s with line := answer .refusedValue }))
      ∧ (s.tariff.stage.state = .opened → s.tariff.stage.tag = bankTag →
          s.tariff.stage.store segment.toNat part.toNat values = none →
          run = .next (follow { s with line := answer .refusedValue }))
      ∧ (∀ g clamped, s.tariff.stage.state = .opened → s.tariff.stage.tag = bankTag →
          s.tariff.stage.store segment.toNat part.toNat values = some (g, clamped) →
          run = .next (follow
            { s with
              tariff := { s.tariff with stage := g }
              line := answer (if clamped then .clamped else .done) })))
  ∧ (∀ (g : Stage) (segment part : Nat) (b : List Byte),
    let n := fieldAt b 0 1
    let start (k : Nat) := fieldAt b (1 + 5 * k) 3
    (g.store segment part b).isSome = true ↔
      (1 ≤ segment ∧ segment ≤ 8 ∧ part ≤ 1 ∧ b.length = 128)
        ∨ (part = 0 ∧ ((segment = 0 ∧ b.length = 3) ∨ (segment = 10 ∧ b.length = 32) ∨ (segment = 11 ∧ b.length = 21)
          ∨ (segment = 12 ∧ b.length = 2)
          ∨ (segment = 9 ∧ 1 ≤ n ∧ n ≤ 4 ∧ b.length = 2 + 5 * n ∧ (∀ k < n, start k ≤ 86399)
            ∧ (∀ k, k + 1 < n → start k < start (k + 1))))))
  ∧ (∀ (g h : Stage) (segment part : Nat) (b : List Byte) (clamped : Bool),
    g.store segment part b = some (h, clamped) →
    let v (at' size : Nat) := fieldAt b at' size
    let within (lo hi x : Nat) := min hi (max lo x)
    h.state = g.state ∧ h.tag = g.tag ∧ h.parts.length = g.parts.length
    ∧ (segment ≠ 0 → h.station = g.station) ∧ (segment ≠ 9 → h.bands = g.bands) ∧ (segment ≠ 10 → h.classes = g.classes)
    ∧ (segment ≠ 11 → h.rules = g.rules) ∧ (segment ≠ 12 → h.check = g.check)
    ∧ (∀ k, (segment = 0 ∨ 9 ≤ segment ∨ k ≠ 2 * (segment - 1) + part) → h.parts[k]? = g.parts[k]?)
    ∧ (∀ k, k ≠ segment → h.loaded.getD k false = g.loaded.getD k false)
    ∧ (segment = 0 ∨ 9 ≤ segment → h.loaded.getD segment false = true)
    ∧ (∀ k, 1 ≤ k → k ≤ 8 → (h.loaded.getD k false = true ↔
        (h.parts.getD (2 * k - 2) none).isSome = true ∧ (h.parts.getD (2 * k - 1) none).isSome = true))
    ∧ (segment = 0 → h.station = some ⟨within 0 4095 (v 0 2), within 0 31 (v 2 1)⟩
        ∧ (clamped = true ↔ 4095 < v 0 2 ∨ 31 < v 2 1))
    ∧ (1 ≤ segment → segment ≤ 8 → clamped = false
        ∧ (2 * (segment - 1) + part < g.parts.length →
          h.parts[2 * (segment - 1) + part]? = some (some ((List.range 64).map fun i => v (2 * i) 2))))
    ∧ (segment = 9 →
        let n := v 0 1
        h.bands = some ⟨(List.range n).map fun k => ⟨v (1 + 5 * k) 3, within 100 4000 (v (4 + 5 * k) 2)⟩,
          within 0 (n - 1) (v (1 + 5 * n) 1)⟩
        ∧ (clamped = true ↔ n ≤ v (1 + 5 * n) 1 ∨ ∃ k < n, v (4 + 5 * k) 2 < 100 ∨ 4000 < v (4 + 5 * k) 2))
    ∧ (segment = 10 → h.classes = some ((List.range 8).map fun k => ⟨within 0 1000 (v (4 * k) 2), v (4 * k + 2) 2⟩)
        ∧ (clamped = true ↔ ∃ k < 8, 1000 < v (4 * k) 2))
    ∧ (segment = 11 →
        let least : Int := ofBeSigned ((b.drop 4).take 3)
        h.rules = some
          { transferWindow := within 0 7200 (v 0 2), transferDiscount := v 2 2
            minEntryBalance := min 65535 (max (-50000) least), overdraft := within 0 50000 (v 7 2), maxFare := v 9 2
            unclosedCharge := v 11 2, sameStationCharge := v 13 2, sameStationWindow := within 0 7200 (v 15 2)
            maxTrip := within 60 86399 (v 17 3), fareStep := within 1 100 (v 20 1) }
        ∧ (clamped = true ↔ 7200 < v 0 2 ∨ least < -50000 ∨ 65535 < least ∨ 50000 < v 7 2 ∨ 7200 < v 15 2
          ∨ v 17 3 < 60 ∨ 86399 < v 17 3 ∨ v 20 1 < 1 ∨ 100 < v 20 1))
    ∧ (segment = 12 → clamped = false ∧ h.check = some (v 0 2)))

/-- R77, R78, R79: STAGE-SWITCH, by the stage's state. CLOSED refuses it REFUSED_STATE, and Secs above 86,399 REFUSED_VALUE. In OPEN
a stage that lacks a segment is INCOMPLETE, one whose check sum is not its Check is BAD_CHECK, and both stay as they were; a whole
one becomes COMPLETE, and the switch is DUE when no time is given or its time has come by a set clock, and WAITING otherwise. In
COMPLETE the time is replaced, and a WAITING switch whose time has come becomes DUE. -/
def Obligations.StageSwitchIsTestedInOrder : Prop :=
  ∀ (a : Arrival) (tag : Byte) (effective : Option (Nat × Nat)) (s : State),
    (Instr.stageSwitch a tag effective).wf = true → s.canAnswer a →
    let at' : Option ServiceTime := effective.map fun e => ⟨e.1, e.2⟩
    let answer (st : Status) : LineIf := s.line.answered s.params a.port ⟨7, tag, st, .nothing⟩ false
    let run := exec (.stageSwitch a tag effective) s
    let hasCome := at'.all fun e => s.clock.state != .unset && decide (e.absolute ≤ s.clock.time.absolute)
    (s.tariff.stage.state = .closed → run = .next (follow { s with line := answer .refusedState }))
    ∧ (s.tariff.stage.state ≠ .closed → (∃ e, effective = some e ∧ 86399 < e.2) →
        run = .next (follow { s with line := answer .refusedValue }))
    ∧ (s.tariff.stage.state = .opened → (∀ e, effective = some e → e.2 ≤ 86399) →
        (s.tariff.stage.bank = none → run = .next (follow { s with line := answer .incomplete }))
        ∧ (∀ b, s.tariff.stage.bank = some b → b.checkSum ≠ b.check →
            run = .next (follow { s with line := answer .badCheck }))
        ∧ (∀ b, s.tariff.stage.bank = some b → b.checkSum = b.check →
            run = .next (follow
              { s with
                tariff := { s.tariff with
                  stage := { s.tariff.stage with state := .complete }
                  switch := if hasCome then .due else .waiting
                  switchAt := at' }
                line := answer .done })))
    ∧ (s.tariff.stage.state = .complete → (∀ e, effective = some e → e.2 ≤ 86399) →
        run = .next (follow
          { s with
            tariff := { s.tariff with
              switch := if s.tariff.switch = .waiting ∧ hasCome = true then .due else s.tariff.switch
              switchAt := at' }
            line := answer .done }))

/-- R29: DENY-ADD and DENY-DROP. An added entry has Origin HEAD and replaces one present, whatever its Origin; a new entry for a full
list is answered FULL; a dropped card is denied no longer, and one not present is answered ABSENT. Every other card stands as it was,
and the list stays in CardId order. -/
def Obligations.DenyListIsKeptByTheLineHead : Prop :=
  (∀ (a : Arrival) (tag : Byte) (cardId : Nat) (reason action : Byte) (s : State),
    (Instr.denyAdd a tag cardId reason action).wf = true → s.canAnswer a →
    ((4 < reason.toNat ∨ 1 < action.toNat ∨ cardId = 0 ∨ cardId = 2 ^ 40 - 1) →
      exec (.denyAdd a tag cardId reason action) s = .next (follow
        { s with line := s.line.answered s.params a.port ⟨9, tag, .refusedValue, .nothing⟩ false }))
    ∧ (∀ r k, denyReasonOf reason = some r → denyActionOf action = some k → 1 ≤ cardId → cardId < 2 ^ 40 - 1 →
      (s.denied cardId = none → 4096 ≤ s.standing.deny.length →
        exec (.denyAdd a tag cardId reason action) s = .next (follow
          { s with line := s.line.answered s.params a.port ⟨9, tag, .full, .nothing⟩ false }))
      ∧ ((s.denied cardId).isSome = true ∨ s.standing.deny.length < 4096 →
        ∃ l, exec (.denyAdd a tag cardId reason action) s = .next (follow
            { s with
              standing := { s.standing with deny := l }
              line := s.line.answered s.params a.port ⟨9, tag, .done, .nothing⟩ false })
          ∧ (ascending DenyEntry.cardId s.standing.deny → ascending DenyEntry.cardId l)
          ∧ ∀ c, findBy DenyEntry.cardId c l = if c = cardId then some ⟨cardId, r, .head, k⟩ else s.denied c)))
  ∧ (∀ (a : Arrival) (tag : Byte) (cardId : Nat) (s : State), (Instr.denyDrop a tag cardId).wf = true → s.canAnswer a →
    (s.denied cardId = none →
      exec (.denyDrop a tag cardId) s = .next (follow
        { s with line := s.line.answered s.params a.port ⟨10, tag, .absent, .nothing⟩ false }))
    ∧ ((s.denied cardId).isSome = true →
      ∃ l, exec (.denyDrop a tag cardId) s = .next (follow
          { s with
            standing := { s.standing with deny := l }
            line := s.line.answered s.params a.port ⟨10, tag, .done, .nothing⟩ false })
        ∧ (ascending DenyEntry.cardId s.standing.deny → ascending DenyEntry.cardId l)
        ∧ ∀ c, findBy DenyEntry.cardId c l = if c = cardId then none else s.denied c))

/-- R158, R159: COLLECT copies the oldest records, whole and in order, as many as the number asked for and one payload allow, and
removes nothing; TRIM removes the oldest min(n, count) records when it names the Seq of the oldest one, and is refused otherwise. -/
def Obligations.JournalIsCollectedAndTrimmed : Prop :=
  (∀ (a : Arrival) (tag k : Byte) (s : State), (Instr.collect a tag k).wf = true → s.canAnswer a →
    ∃ n, n ≤ k.toNat ∧ ((s.journal.records.take n).map fun r => r.bytes.length).sum ≤ 224
      ∧ (n < k.toNat → ∀ r, s.journal.records[n]? = some r →
          224 < ((s.journal.records.take n).map fun r => r.bytes.length).sum + r.bytes.length)
      ∧ exec (.collect a tag k) s = .next (follow
          { s with
            line := s.line.answered s.params a.port
              ⟨11, tag, .done, .collect s.journal.records.length s.journal.oldestSeq s.journal.nextSeq s.journal.free
                (s.journal.records.take n)⟩ false }))
  ∧ (∀ (a : Arrival) (tag : Byte) (firstSeq n : Nat) (s : State), (Instr.trim a tag firstSeq n).wf = true →
    s.canAnswer a →
    ((s.journal.records = [] ∨ 512 < n ∨ s.journal.oldestSeq ≠ firstSeq) →
      exec (.trim a tag firstSeq n) s = .next (follow
        { s with line := s.line.answered s.params a.port ⟨12, tag, .refusedValue, .nothing⟩ false }))
    ∧ (∀ r rest, s.journal.records = r :: rest → n ≤ 512 → r.seq = firstSeq →
      exec (.trim a tag firstSeq n) s = .next (follow
        { s with
          journal := { s.journal with records := s.journal.records.drop n }
          line := s.line.answered s.params a.port
            ⟨12, tag, .done, .trim (min n s.journal.records.length) (s.journal.records.length - n)
              (((s.journal.records.drop n).head?.map Record.seq).getD 0)⟩ false })))

/-- R132, R135, R189, R191: a LANE-MODE to CLOSED is taken in every state, one to another mode when the start-up conditions hold;
taken, it sets the commanded mode, the effective mode is derived from it, and the REPLY carries both. Refused, it changes nothing,
and the REPLY carries the modes as they stand. R125, R130: a LANE-MODE that is taken while the flaps are JAMMED starts a retry,
whatever mode it carries: of the jammed motion, but toward open while the flap zone is blocked, and toward open while EMERGENCY holds
the lane in FREE_EXIT (log 24). The jam stays SET, and the motion timer is started. -/
def Obligations.LaneModeIsTakenAndRetriesAJam : Prop :=
  (∀ (a : Arrival) (tag mode : Byte) (s : State), (Instr.laneMode a tag mode).wf = true → s.canAnswer a →
    (3 < mode.toNat → exec (.laneMode a tag mode) s = .next (follow
      { s with line := s.line.answered s.params a.port ⟨13, tag, .refusedValue, .laneMode s.lane.cmd s.lane.eff⟩ false }))
    ∧ (mode.toNat < 3 → ¬(s.clock.state ≠ .unset ∧ s.tariff.active.isSome = true ∧ s.mgmt.freshStart = false) →
      exec (.laneMode a tag mode) s = .next (follow
        { s with line := s.line.answered s.params a.port ⟨13, tag, .refusedState, .laneMode s.lane.cmd s.lane.eff⟩ false }))
    ∧ (∀ m, laneModeOf mode = some m → s.lane.modeDerived →
      (m = .closed ∨ (s.clock.state ≠ .unset ∧ s.tariff.active.isSome = true ∧ s.mgmt.freshStart = false)) →
      ∃ t, exec (.laneMode a tag mode) s = .next t ∧ t.lane.cmd = m
        ∧ t.lane.eff = (if s.lane.emergency then .freeExit else if s.lane.jam.isSome ∨ 2 ≤ s.lane.faultBeams then .fault
            else m)
        ∧ t.line.held.getLast? = some ⟨a.port, .up, .reply ⟨13, tag, .done, .laneMode m t.lane.eff⟩, false⟩
        ∧ t.lane.emergency = s.lane.emergency ∧ t.lane.jam = s.lane.jam ∧ t.lane.faultBeams = s.lane.faultBeams
        ∧ t.tariff = s.tariff ∧ t.params = s.params ∧ t.pins = s.pins ∧ t.beam.bodies = s.beam.bodies
        ∧ t.mgmt.clock = s.mgmt.clock))
  ∧ (∀ (a : Arrival) (tag mode : Byte) (c : Mode) (m : Motion) (s : State), (Instr.laneMode a tag mode).wf = true →
    s.canAnswer a → laneModeOf mode = some c →
    (c = .closed ∨ (s.clock.state ≠ .unset ∧ s.tariff.active.isSome = true ∧ s.mgmt.freshStart = false)) →
    s.lane.flap = .jammed → s.lane.jam = some m → s.lane.modeDerived → s.lane.queuesServed →
    ∃ t, exec (.laneMode a tag mode) s = .next t
      ∧ t.lane.flap = (if m = .towardClosed ∧ s.lane.flapZone = false ∧ s.lane.emergency = false then .closing else .opening)
      ∧ t.lane.jam = some m ∧ t.lane.eff = s.lane.eff ∧ t.lane.cmd = c
      ∧ t.lane.motionTimer = some s.params.flapMotionLimit)

/-- R190: ACK-START is taken in every state, makes Mgmt.FreshStart CLEAR and is answered DONE; every cold and every warm reset makes
it SET; and a QUERY reports it. -/
def Obligations.AckStartClearsFreshStart : Prop :=
  (∀ (a : Arrival) (tag : Byte) (s : State), (Instr.ackStart a tag).wf = true → s.canAnswer a →
    exec (.ackStart a tag) s = .next (follow
      { s with
        mgmt := { s.mgmt with freshStart := false }
        line := s.line.answered s.params a.port ⟨14, tag, .done, .nothing⟩ false }))
  ∧ (∀ (cause : ResetCause) (s : State), (cause = .pinReleased → s.pins.reset = true) →
      ∃ t, exec (.coldReset cause) s = .next t ∧ t.mgmt.freshStart = true)
  ∧ (∀ s : State, s.pins.reset = false → s.restartDue = true →
      ∃ t, exec .warmReset s = .next t ∧ t.mgmt.freshStart = true)
  ∧ (∀ s : State, s.snapshot.freshStart = s.mgmt.freshStart)

/-- R192: RESTART is answered DONE and leaves a warm reset pending, which waits for its REPLY to leave the part's hands; the REPLY of
the first RESTART is the one that decides. It leaves them when its transmission ends (`SentAndHeldFramesPassTheirBuffersOn`), when the
up link is DOWN at the taking, so that it is abandoned, and when it is discarded, or cut off in transmission, by the teardown of the
port it is bound for; no other teardown decides the reset. The warm reset then comes before any other step of the part's own (log 2). -/
def Obligations.RestartWaitsForItsReply : Prop :=
  (∀ (a : Arrival) (tag : Byte) (s : State), (Instr.restart a tag).wf = true → s.canAnswer a →
    exec (.restart a tag) s = .next (follow
      { s with
        mgmt := { s.mgmt with restartPending := true }
        line := s.line.answered s.params a.port ⟨15, tag, .done, .nothing⟩ (!s.mgmt.restartPending) }))
  ∧ (∀ (a : Arrival) (tag : Byte) (s : State), (Instr.restart a tag).wf = true → s.canReceive a.port →
    a.broadcast = false → 1 ≤ s.line.address → s.line.address ≤ 62 → s.line.link.up = false →
    exec (.restart a tag) s = .next (follow
      { s with
        mgmt := { s.mgmt with
          restartPending := true, restartReplyGone := s.mgmt.restartReplyGone || !s.mgmt.restartPending }
        line := ({ (s.onArrival a.port).line with receiving := s.line.receiving } : LineIf).setHold }))
  ∧ (∀ (p : LinePort) (s : State), s.pins.reset = false → s.line.linkFilter.get p = some 0 → s.pins.link.get p = false →
    ∃ t, exec (.linkTaken p) s = .next t
      ∧ ((∃ b, b.restart = true ∧ (s.line.tx.get p = some b ∨ b ∈ s.line.relayQ.get p ∨ b ∈ s.line.localQ.get p))
          ∨ (∃ h ∈ s.line.held, h.bound = p ∧ h.restart = true) →
        t.mgmt = { s.mgmt with restartReplyGone := true })
      ∧ ((∀ b, s.line.tx.get p = some b ∨ b ∈ s.line.relayQ.get p ∨ b ∈ s.line.localQ.get p → b.restart = false) →
        (∀ h ∈ s.line.held, h.bound = p → h.restart = false) → t.mgmt = s.mgmt))
  ∧ (∀ s : State, s.pending = [] → s.pins.reset = false → s.mgmt.restartPending = true → s.mgmt.restartReplyGone = true →
    step s = .next { s with pending := [.warmReset] })

/-- R169, R184: a frame of unknown Kind addressed to this gate is answered UNKNOWN with its Kind and a Tag of 0 and changes nothing;
as a broadcast it is not acted on, and its buffer is free again when its Hops is 0. -/
def Obligations.UnknownKindIsAnsweredUnknown : Prop :=
  ∀ (a : Arrival) (kind : Byte) (payload : List Byte) (s : State), (Instr.unknownKind a kind payload).wf = true →
    (s.canAnswer a → exec (.unknownKind a kind payload) s = .next (follow
      { s with line := s.line.answered s.params a.port ⟨kind, 0, .unknown, .nothing⟩ false }))
    ∧ (s.canReceive a.port → a.broadcast = true → a.hops = 0 →
      ∃ l, exec (.unknownKind a kind payload) s = .next (follow { s with line := l })
        ∧ l.free = s.line.free ∧ l.held = s.line.held ∧ l.relayQ = s.line.relayQ ∧ l.localQ = s.line.localQ)

/-! ### What peers tell, and the expiries of the standing lists -/

/-- R36, R37, R32, R33: a SIGHT with its fields in their ranges. One older than the horizon is discarded. Otherwise it enters the
table when no record stands for its card, in place of the oldest record of a full table, but not when it is older than all of them;
a greater counter replaces the record that stands, a smaller one leaves it; an equal counter with an equal balance takes the later
time, gate and kind; an equal counter with another balance is a conflict: the record stands, the card is denied, and a CLONE record
is written. R51, R30: a SUSPECT adds a PEER deny entry for a card that has none, or sets DENY_FULL; a card already denied keeps its
entry. -/
def Obligations.SightsAndSuspectsAreMerged : Prop :=
  (∀ (a : Arrival) (x : SightPayload) (k : SightKind) (s : State), (Instr.sight a x).wf = true → s.canTake a →
    1 ≤ x.cardId → x.cardId < 2 ^ 40 - 1 → -50000 ≤ x.balance → x.balance ≤ 500000 →
    ((x.kind.toNat = 0 ∧ k = .entered) ∨ (x.kind.toNat = 1 ∧ k = .exited) ∨ (x.kind.toNat = 4 ∧ k = .torn)) →
    let r : Sighting := ⟨x.cardId, x.counter, x.balance, k, x.gate.toNat, ⟨x.date, x.secs⟩⟩
    let run := exec (.sight a x) s
    let u := s.onArrival a.port
    let holds (l : List Sighting) := run = .next (follow
      { u with standing := { s.standing with sightings := l }, line := u.line.handedOver a 18 (SightPayload.bytes x) })
    (s.tooOld r.time → holds s.standing.sightings)
    ∧ (¬s.tooOld r.time →
      (((s.sighting x.cardId = none ∧ s.standing.sightings.length < 1024)
          ∨ (∃ y, s.sighting x.cardId = some y ∧ s.tooOld y.time ∧ s.standing.sightings.length ≤ 1024)) →
        ∃ l, holds l ∧ ∀ c, findBy Sighting.cardId c l = if c = x.cardId then some r else s.sighting c)
      ∧ (s.sighting x.cardId = none → 1024 ≤ s.standing.sightings.length →
        ((∀ y ∈ s.standing.sightings, r.time.absolute < y.time.absolute) → holds s.standing.sightings)
        ∧ ((∃ y ∈ s.standing.sightings, y.time.absolute ≤ r.time.absolute) →
          ∃ l, holds l ∧ ∃ o ∈ s.standing.sightings,
            (∀ y ∈ s.standing.sightings, o.time.absolute < y.time.absolute
              ∨ (o.time.absolute = y.time.absolute ∧ o.cardId ≤ y.cardId))
            ∧ ∀ c, findBy Sighting.cardId c l =
                if c = x.cardId then some r else if c = o.cardId then none else s.sighting c))
      ∧ (∀ y, s.stands x.cardId y →
        (y.counter < x.counter →
          ∃ l, holds l ∧ ∀ c, findBy Sighting.cardId c l = if c = x.cardId then some r else s.sighting c)
        ∧ (x.counter < y.counter → holds s.standing.sightings)
        ∧ (x.counter = y.counter → x.balance = y.balance →
          ∃ l, holds l ∧ ∀ c, findBy Sighting.cardId c l =
            if c = x.cardId then some { y with time := r.time, gate := r.gate, kind := k } else s.sighting c)
        ∧ (x.counter = y.counter → x.balance ≠ y.balance → ∃ t, run = .next t
          ∧ t.standing.sightings = s.standing.sightings
          ∧ t.denied x.cardId =
            (match s.denied x.cardId with
            | some e => some e
            | none => if s.standing.deny.length < 4096 then
                some ⟨x.cardId, .clone, .localPart, if s.params.markOnClone then .refuseAndMark else .refuse⟩
              else none)
          ∧ t.journal.records = s.journal.records ++
            (if 1 ≤ s.journal.free then
              [u.recordOf { kind := .clone, direction := none, cardId := some x.cardId
                            reason := some (.clone .sightConflict), counterAfter := some x.counter
                            balanceAfter := some x.balance }]
            else [])
          ∧ t.dialog = s.dialog ∧ t.lane.credits = s.lane.credits ∧ t.tariff = s.tariff))))
  ∧ (∀ (a : Arrival) (x : SuspectPayload) (s : State), (Instr.suspect a x).wf = true → s.canTake a →
    let run := exec (.suspect a x) s
    let u := s.onArrival a.port
    let line := u.line.handedOver a 19 (SuspectPayload.bytes x)
    ((x.cardId = 0 ∨ x.cardId = 2 ^ 40 - 1 ∨ (s.denied x.cardId).isSome = true) →
      run = .next (follow { u with line := line }))
    ∧ (1 ≤ x.cardId → x.cardId < 2 ^ 40 - 1 → s.denied x.cardId = none →
      (s.standing.deny.length < 4096 → ∃ l,
        run = .next (follow { u with standing := { s.standing with deny := l }, line := line })
        ∧ ∀ c, findBy DenyEntry.cardId c l =
          if c = x.cardId then
            some ⟨c, .clone, .peer, if s.params.markOnClone then .refuseAndMark else .refuse⟩
          else s.denied c)
      ∧ (4096 ≤ s.standing.deny.length → run = .next (follow
          { u with mgmt := { s.mgmt with flags := { s.mgmt.flags with denyFull := true } }, line := line }))))

/-- R82, R195: a DUE switch that no context in its fare phase holds back. The stage's bank becomes the active bank, the stage is CLOSED
and empty, and no switch is pending; a BANK_ACTIVE event takes the event number and goes to the line head while its kind is ON, and is
dropped with SEND_DROP set when no local place is free (R177); the contexts held for the switch go on into RECKONING by the new bank. -/
def Obligations.SwitchBringsTheStagedBank : Prop :=
  ∀ (b : Bank) (s : State), s.pins.reset = false → s.tariff.switch = .due → s.tariff.stage.bank = some b →
    (∀ p, (s.ctx p).state ≠ .reckoning ∧ (s.ctx p).state ≠ .committing ∧ (s.ctx p).state ≠ .confirming) →
    ∃ t, exec .switchApplication s = .next t
      ∧ t.tariff = { active := some b, stage := {}, switch := .none, switchAt := none }
      ∧ (∀ p, (t.ctx p).switchHeld = false)
      ∧ (∀ p i k, (s.ctx p).switchHeld = true → (s.ctx p).image = some i →
          reckon (portDirection p) b i s.clock = .taken k → k.contents.length ≤ 1 →
          (t.ctx p).state = .reckoning ∧ (t.ctx p).intended = some k)
      ∧ ((∀ p, (s.ctx p).switchHeld = false) →
          t.dialog = s.dialog ∧ t.journal = s.journal ∧ t.standing = s.standing ∧ t.lane.credits = s.lane.credits
          ∧ t.mgmt.eventNo =
            (if s.params.eventMask.getLsbD 9 = true then (s.mgmt.eventNo + 1) % 65536 else s.mgmt.eventNo)
          ∧ (s.params.eventMask.getLsbD 9 = true → s.line.link.up = true → s.line.held = [] → s.line.count .own < 4 →
            t.line.localQ.up = s.line.localQ.up ++
              [⟨⟨17, 0, byte s.line.address, 0, eventPayload s.mgmt.eventNo s.clock s.stamp (.bankActive b.tag)⟩,
                .own, false⟩])
          ∧ (s.params.eventMask.getLsbD 9 = true → s.line.link.up = true → 4 ≤ s.line.count .own →
            t.line.localQ = s.line.localQ ∧ t.mgmt.flags.sendDrop = true))

/-- R40: a recovery entry whose Remaining is 0 is resolved as unresolved: its TORN_UNRESOLVED record fills the held slot, and the entry
leaves the list. The sighting table and the deny list stand. -/
def Obligations.ExpiredRecoveryIsUnresolved : Prop :=
  ∀ (cardId : Nat) (e : RecoveryEntry) (s : State), s.pins.reset = false → cardId < 256 ^ 5 →
    s.recoveryOf cardId = some e → e.remaining = 0 →
    ∃ t, exec (.recoveryExpiry cardId) s = .next t
      ∧ t.standing = { s.standing with recovery := s.standing.recovery.erase e }
      ∧ t.journal.records = s.journal.records ++
          [s.recordOf { kind := .tornUnresolved, direction := some e.direction, cardId := some e.cardId
                        fare := some e.fare, fareKind := some e.fareKind, bankTag := some e.bankTag
                        counterAfter := some e.preCounter, balanceAfter := some e.preBalance
                        reason := some (.unresolved .expired) }]
      ∧ t.journal.held = s.journal.held - 1 ∧ t.journal.reserved = s.journal.reserved
      ∧ t.dialog = s.dialog ∧ t.tariff = s.tariff ∧ t.params = s.params ∧ t.pins = s.pins ∧ t.sent = s.sent
      ∧ t.lane.credits = s.lane.credits ∧ t.lane.flap = s.lane.flap ∧ t.beam.bodies = s.beam.bodies

/-! ### Card dialogs -/

/-- R2, R5, R6: the poll. When the poll timer expires the port sends any pending SHOW and issues SENSE. A CARD answer with another
card than the one held is a tap: it takes the CardId, makes the tempo BRISK and issues READ; with the card held it restarts the poll
timer. NO_CARD and FIELD_LOST lead to IDLE; CLASH shows ONE_CARD and leads back to the wait it came from. A SHOW carries the
port's Tag unchanged, and the next verb takes the Tag after it (log 43). -/
def Obligations.PollSensesAndATapIsRead : Prop :=
  (∀ (p : Port) (s : State), s.pins.reset = false → (s.ctx p).pollTimer = some 0 → (s.port p).outstanding = none →
    exec (.pollTimerExpiry p) s = .next (follow
      { s with
        dialog := { s.dialog with
          ctx := s.dialog.ctx.put p
            { s.ctx p with
              state := if (s.ctx p).state = .idle then .sensing else (s.ctx p).state, pollTimer := none, attempts := 1 }
          port := s.dialog.port.put p ((s.port p).issued .sense s.params none) }
        sent := .verb p (nextTag (s.port p).tag) .sense :: s.shown p }))
  ∧ (∀ (p : Port) (c : Instr) (s : State), s.pins.reset = false →
    let period := s.params.pollPeriod s.lane.tempo
    let waits (x : Context) := exec c s = .next (follow
      { s with
        dialog := { s.dialog with ctx := s.dialog.ctx.put p x, port := s.dialog.port.put p (s.port p).ended }
        sent := s.shown p })
    (s.endsFieldLost p .sense c → waits { pollTimer := some period, pollPeriod := period })
    ∧ (∀ b, s.endsAnswered p .sense c b →
      (parseSense b = some .noCard → waits { pollTimer := some period, pollPeriod := period })
      ∧ (∀ n, parseSense b = some (.card n) →
        ((s.ctx p).state = .holding ∧ (s.ctx p).cardId = some n →
          waits { s.ctx p with pollTimer := some period, pollPeriod := period })
        ∧ (¬((s.ctx p).state = .holding ∧ (s.ctx p).cardId = some n) →
          exec c s = .next (follow
            { s with
              dialog := { s.dialog with
                ctx := s.dialog.ctx.put p { state := .reading, cardId := some n, attempts := 1 }
                port := s.dialog.port.put p ((s.port p).issued .read s.params none) }
              lane := { s.lane with tempo := .brisk, briskTimer := some (s.params.briskHold * 1000), dormantTimer := none }
              sent := .verb p (nextTag (s.port p).tag) (.read n) :: s.shown p })))
      ∧ (parseSense b = some .clash → ∃ t, exec c s = .next t
        ∧ t.sent = .display p (s.port p).tag ⟨.oneCard, none, none⟩ :: s.shown p
        ∧ t.ctx p =
          (if (s.ctx p).state = .holding then { s.ctx p with pollTimer := some period, pollPeriod := period }
          else { pollTimer := some period, pollPeriod := period }))))

/-- R7, R8: a well-formed image of the context's card, whose counter is not used up, is kept with its counter and balance, and PROVE
is issued with a challenge drawn for it; a malformed one is refused MALFORMED, and one whose counter is 65,535 EXHAUSTED. A proof
joins the tail of the proof queue, and is sent as CHECK with a new ProofTag when no other is in service. FIELD_LOST shows TRY_AGAIN
and leads to IDLE. A SHOW carries the port's Tag unchanged (log 43); MALFORMED and EXHAUSTED show no
balance, since no image has been kept (log 46). -/
def Obligations.CardIsReadAndProved : Prop :=
  (∀ (p : Port) (c : Instr) (b : List Byte) (cardId : Nat) (s : State), s.pins.reset = false →
    s.endsAnswered p .read c b → (s.ctx p).cardId = some cardId → imageCardId b = some cardId →
    (parseImage b = none → ∃ t, exec c s = .next t ∧ s.refusedTo t p .malformed none)
    ∧ (∀ i, parseImage b = some i → i.counter = 65535 →
      ∃ t, exec c s = .next t ∧ s.refusedTo t p .exhausted none)
    ∧ (∀ i, parseImage b = some i → i.counter ≠ 65535 → exec c s = .next (follow
        { s with
          dialog := { s.dialog with
            ctx := s.dialog.ctx.put p
              { s.ctx p with
                state := .proving, image := some i, preCounter := some i.counter, preBalance := some i.balance
                attempts := 1 }
            port := s.dialog.port.put p
              ((s.port p).issued .prove s.params (some (Config.challenge s.dialog.challengeNo)))
            challengeNo := s.dialog.challengeNo + 1 }
          sent := .verb p (nextTag (s.port p).tag) (.prove cardId (Config.challenge s.dialog.challengeNo))
            :: s.shown p })))
  ∧ (∀ (p : Port) (c : Instr) (b : List Byte) (o : Outstanding) (challenge : BitVec 64) (cardId : Nat) (i : Image)
      (s : State), s.pins.reset = false → s.endsAnswered p .prove c b → b.length = 8 →
    (s.port p).outstanding = some o → o.challenge = some challenge → (s.ctx p).cardId = some cardId →
    (s.ctx p).image = some i →
    let r : ProofRequest := ⟨p, cardId, i.keyGen, challenge, BitVec.ofNat 64 (ofBe b), 1, false⟩
    let dialog : Dialogs := { s.dialog with
      ctx := s.dialog.ctx.put p { s.ctx p with state := .checking, attempts := 0 }
      port := s.dialog.port.put p (s.port p).ended
      proofQueue := s.dialog.proofQueue ++ [r] }
    (s.dialog.proofTimer.isSome = true → exec c s = .next (follow { s with dialog := dialog, sent := s.shown p }))
    ∧ (s.dialog.proofTimer = none → s.dialog.proofQueue = [] → exec c s = .next (follow
        { s with
          dialog := { dialog with
            proofTag := nextTag s.dialog.proofTag, proofTimer := some s.params.proofTimeout }
          sent := .check (nextTag s.dialog.proofTag) r :: s.shown p })))
  ∧ (∀ (p : Port) (u : Purpose) (c : Instr) (s : State), s.pins.reset = false → u = .read ∨ u = .prove →
    s.endsFieldLost p u c → ∃ t, exec c s = .next t
      ∧ t.sent = .display p (s.port p).tag ⟨.tryAgain, none, none⟩ :: s.shown p
      ∧ t.ctx p = { pollTimer := some (s.params.pollPeriod s.lane.tempo)
                    pollPeriod := s.params.pollPeriod s.lane.tempo })

/-- R4, R5 to R8: a SENSE, READ or PROVE that ends with no answer or with GARBLED (or a READ with another card's image, R7) is issued
again at once, with a new Tag, a new deadline and a new challenge, while Attempts is at most Dialog.Retries; then a SENSE leads to IDLE,
and a READ or PROVE shows TRY_AGAIN and leads to HOLDING. R24: a MARK is not issued again: however it ends, its refusal is shown;
FIELD_LOST leads to IDLE, any other ending to HOLDING. A SHOW carries the port's Tag unchanged, and the verb issued again takes the Tag
after it (log 43). -/
def Obligations.VerbWithoutAnAnswerIsIssuedAgain : Prop :=
  (∀ (p : Port) (u : Purpose) (c : Instr) (s : State), s.pins.reset = false → u = .sense ∨ u = .read ∨ u = .prove →
    s.endsUnanswered p u c →
    ((s.ctx p).attempts ≤ s.params.retries →
      exec c s = .next (follow
        { s with
          dialog := { s.dialog with
            ctx := s.dialog.ctx.put p { s.ctx p with attempts := (s.ctx p).attempts + 1 }
            port := s.dialog.port.put p ((s.port p).issued u s.params
              (if u = .prove then some (Config.challenge s.dialog.challengeNo) else none))
            challengeNo := s.dialog.challengeNo + if u = .prove then 1 else 0 }
          sent := .verb p (nextTag (s.port p).tag)
            (match u with
            | .read => .read ((s.ctx p).cardId.getD 0)
            | .prove => .prove ((s.ctx p).cardId.getD 0) (Config.challenge s.dialog.challengeNo)
            | _ => .sense) :: s.shown p }))
    ∧ (s.params.retries < (s.ctx p).attempts → ∃ t, exec c s = .next t
      ∧ (t.port p) = (s.port p).ended
      ∧ (u = .sense → t.sent = s.shown p
          ∧ t.ctx p = { pollTimer := some (s.params.pollPeriod s.lane.tempo)
                        pollPeriod := s.params.pollPeriod s.lane.tempo })
      ∧ (u ≠ .sense → t.sent = .display p (s.port p).tag ⟨.tryAgain, none, none⟩ :: s.shown p
          ∧ (t.ctx p).state = .holding ∧ (t.ctx p).cardId = (s.ctx p).cardId
          ∧ (t.ctx p).pollTimer = some (s.params.pollPeriod s.lane.tempo))))
  ∧ (∀ (p : Port) (code : RefusalCode) (c : Instr) (s : State), s.pins.reset = false → (s.ctx p).marking = some code →
    let show' : Sent := .display p (s.port p).tag ⟨.refused code, none, (s.ctx p).image.map Image.balance⟩
    (s.endsUnanswered p .mark c ∨ s.endsAnswered p .mark c [] → ∃ t, exec c s = .next t
      ∧ t.sent = show' :: s.shown p ∧ (t.ctx p).state = .holding ∧ (t.ctx p).cardId = (s.ctx p).cardId
      ∧ (t.ctx p).inFlight = false)
    ∧ (s.endsFieldLost p .mark c → ∃ t, exec c s = .next t
      ∧ t.sent = show' :: s.shown p ∧ t.ctx p = { pollTimer := some (s.params.pollPeriod s.lane.tempo)
                                                  pollPeriod := s.params.pollPeriod s.lane.tempo }))

/-- R9 to R14, R42, R43, R47: the outcome of the head request's CHECK brings its context's verdict, whose tests come in this order: an
active bank, the deny list, Status, the proof, the other port's card in flight, the lists; then the lane test, the credit slot and the
journal slot. A PROCEED verdict holds one of each and goes on into RECKONING, or waits in JUDGING while a switch is DUE. A first
CHECK with no answer or GARBLED is sent once more; after the second the proof is UNAVAILABLE. A
SHOW carries the port's Tag unchanged (log 43). -/
def Obligations.VerdictTestsInTheirOrder : Prop :=
  ∀ (p : Port) (r : ProofRequest) (rest : List ProofRequest) (n cardId : Nat) (i : Image) (c : Instr)
    (x : Option ProofOutcome) (s : State), s.pins.reset = false →
    s.dialog.proofQueue = r :: rest → s.dialog.proofTimer = some n → r.port = p → r.abandoned = false →
    (s.ctx p).state = .checking → (s.ctx p).image = some i → (s.ctx p).cardId = some cardId → i.cardId = cardId →
    (s.ctx p).journalRes = 0 → (s.ctx p).creditRes = false → (s.ctx p).inFlight = false →
    (s.port p).outstanding = none → (s.port p).pendingShow = none →
    ((c = .proofTimeoutExpiry ∧ n = 0 ∧ x = none)
      ∨ ∃ message o, c = .checkAnswer message ∧ parseCheck message = some (s.dialog.proofTag, o)
        ∧ x = (match o with | .pass => some .pass | .fail => some .fail | .unknownGen => some .unknownGen | .garbled => none)) →
    let run := exec c s
    let d := portDirection p
    let refused (code : RefusalCode) := ∃ t, run = .next t ∧ s.refusedTo t p code none ∧ t.dialog.proofQueue = rest
    let clear := s.tariff.active.isSome = true ∧ s.denied cardId = none ∧ i.status = .active
    let passed := clear ∧ x = some .pass ∧ s.standing.inFlight.get (otherPort p) ≠ some cardId
    let free := passed ∧ s.recoveryOf cardId = none
    let proceeds := free ∧ s.sighting cardId = none
    (x = none → r.attempt = 1 → run = .next (follow
      { s with
        dialog := { s.dialog with
          proofQueue := { r with attempt := 2 } :: rest
          proofTag := nextTag s.dialog.proofTag, proofTimer := some s.params.proofTimeout }
        sent := .check (nextTag s.dialog.proofTag) { r with attempt := 2 } :: s.sent }))
    ∧ ((x ≠ none ∨ r.attempt ≠ 1) →
      (s.tariff.active = none → refused .noTariff)
      ∧ (∀ e, s.tariff.active.isSome = true → s.denied cardId = some e →
        (e.action = .refuse → refused .denied)
        ∧ (e.action = .refuseAndMark → ∃ t, run = .next t ∧ (t.ctx p).state = .marking
          ∧ (t.ctx p).marking = some .denied
          ∧ t.sent.head? = some (.verb p (nextTag (s.port p).tag) (.mark cardId))))
      ∧ (s.tariff.active.isSome = true → s.denied cardId = none → i.status = .blocked → refused .blocked)
      ∧ (clear → x = some .fail ∨ x = some .unknownGen → refused .proofFail)
      ∧ (clear → x = none → refused .proofUnavailable)
      ∧ (clear → x = some .pass → s.standing.inFlight.get (otherPort p) = some cardId → s.params.markOnClone = false →
        s.standing.deny.length < 4096 → ∃ t, run = .next t ∧ s.refusedTo t p .clone none
          ∧ t.denied cardId = some ⟨cardId, .clone, .localPart, .refuse⟩ ∧ t.standing.sightings = s.standing.sightings
          ∧ (1 ≤ s.journal.free → t.journal.records = s.journal.records ++
              [s.recordOf { kind := .clone, direction := some d, cardId := some cardId, reason := some (.clone .inFlight)
                            counterAfter := some i.counter, balanceAfter := some i.balance }]))
      ∧ (∀ y, free → s.stands cardId y →
        (i.counter < y.counter ∨ (i.counter = y.counter ∧ i.balance ≠ y.balance) → s.params.markOnClone = false →
          ∃ t, run = .next t ∧ s.refusedTo t p .clone none ∧ t.standing.sightings = s.standing.sightings)
        ∧ (y.kind = admittedKind d → i.counter = y.counter → i.balance = y.balance →
          s.age y.time ≤ s.params.passbackWindow →
          refused (match p with | .a => .alreadyIn | .b => .alreadyOut)))
      ∧ (proceeds →
        ((s.lane.eff = .closed ∨ s.lane.eff = .freeExit ∨ s.lane.eff = .fault) → refused .laneClosed)
        ∧ ((s.lane.eff = .entryOnly ∧ p = .b) ∨ (s.lane.eff = .exitOnly ∧ p = .a) → refused .laneDirection)
        ∧ ((s.lane.eff = .normal ∨ (s.lane.eff = .entryOnly ∧ p = .a) ∨ (s.lane.eff = .exitOnly ∧ p = .b)) →
          (4 ≤ (s.lane.credits.get d).length + s.lane.reserved.get d → refused .laneBusy)
          ∧ ((s.lane.credits.get d).length + s.lane.reserved.get d < 4 →
            (s.journal.free ≤ 16 → refused .journalFull)
            ∧ (16 < s.journal.free →
              (s.tariff.switch = .due → ∃ t, run = .next t ∧ (t.ctx p).state = .judging ∧ (t.ctx p).switchHeld = true
                ∧ (t.ctx p).creditRes = true ∧ (t.ctx p).journalRes = 1 ∧ (t.ctx p).inFlight = true
                ∧ t.lane.reserved = s.lane.reserved.put d (s.lane.reserved.get d + 1)
                ∧ t.journal.reserved = s.journal.reserved + 1
                ∧ t.standing.inFlight = s.standing.inFlight.put p (some cardId))
              ∧ (∀ b k, s.tariff.switch ≠ .due → s.tariff.active = some b → reckon d b i s.clock = .taken k →
                k.contents.length ≤ 1 →
                ∃ t, run = .next t ∧ (t.ctx p).state = .reckoning ∧ (t.ctx p).intended = some k
                  ∧ (t.ctx p).creditRes = true ∧ (t.ctx p).journalRes = 1 ∧ (t.ctx p).inFlight = true
                  ∧ t.lane.reserved = s.lane.reserved.put d (s.lane.reserved.get d + 1)
                  ∧ t.journal.reserved = s.journal.reserved + 1
                  ∧ t.standing.inFlight = s.standing.inFlight.put p (some cardId)))))))

/-- R44, R46, R21, R13: the verdicts that admit a card without writing it. A recovery entry whose written values the card shows, at the
port of its direction, is resolved as recovered: its RECOVERED record fills the held slot and SHOW carries the entry's fare. A lapsed
sighting with the card's counter and balance, within the grace, is a regrant: its REGRANT record is written and SHOW carries 0. Both
grant a credit, set the sighting to ENTERED or EXITED, and lead to HOLDING. Here the lane is NORMAL with a slot of each kind free. A
SHOW carries the port's Tag unchanged (log 43). -/
def Obligations.CardIsAdmittedWithoutAWrite : Prop :=
  ∀ (p : Port) (i : Image) (s : State), (s.ctx p).image = some i → s.tariff.active.isSome = true →
    s.denied i.cardId = none → i.status = .active → s.standing.inFlight.get (otherPort p) ≠ some i.cardId →
    (s.port p).outstanding = none → (s.port p).pendingShow = none →
    s.lane.eff = .normal → (s.lane.credits.get (portDirection p)).length + s.lane.reserved.get (portDirection p) < 4 →
    16 < s.journal.free →
    let d := portDirection p
    let t := judge p i .pass s
    let admittedAs (kind : CreditKind) (amount counter : Nat) (balance : Int) (c : Content) :=
      t.lane.credits.get d = s.lane.credits.get d ++
          [⟨s.lane.nextCreditNo, d, kind, i.cardId, s.stamp, s.params.creditLife * 1000, 0⟩]
        ∧ t.lane.reserved = s.lane.reserved
        ∧ t.journal.records = s.journal.records ++ [s.recordOf c]
        ∧ t.sighting i.cardId = some ⟨i.cardId, counter, balance, admittedKind d, s.line.address, s.stamp⟩
        ∧ t.sent.head? = some (.display p (s.port p).tag ⟨.accepted, some amount, some i.balance⟩)
        ∧ (t.ctx p).state = .holding ∧ (t.ctx p).creditRes = false ∧ t.standing.inFlight.get p = none
    (∀ e, s.recoveryOf i.cardId = some e → e.direction = d → i.counter = e.preCounter + 1 →
      i.balance = e.intendedBalance →
      admittedAs .recovered e.fare i.counter i.balance
          { kind := .recovered, direction := some d, cardId := some i.cardId, fare := some e.fare
            fareKind := some e.fareKind, bankTag := some e.bankTag, counterAfter := some i.counter
            balanceAfter := some i.balance }
        ∧ t.standing.recovery = s.standing.recovery.erase e ∧ t.journal.held = s.journal.held - 1)
    ∧ (∀ y, s.recoveryOf i.cardId = none → s.stands i.cardId y → y.kind = lapsedKind d → i.counter = y.counter →
      i.balance = y.balance → s.age y.time ≤ s.params.grace →
      admittedAs .regrant 0 i.counter i.balance
          { kind := .regrant, direction := some d, cardId := some i.cardId, counterAfter := some i.counter
            balanceAfter := some i.balance }
        ∧ t.standing.recovery = s.standing.recovery)

/-- R15, R16, R49: at the end of RECKONING the deny list and the clone check are taken again. A card denied meanwhile is refused; a
card that passes has its COMMIT issued, with the counter before the write and the Intended records, and enters COMMITTING. A stored
record that has aged out counts as absent and is removed (R32). A card that answers MISMATCH is refused CARD_CHANGED. A SHOW carries the
port's Tag unchanged (log 43). -/
def Obligations.CommitIsIssuedAfterTheRecheck : Prop :=
  (∀ (p : Port) (i : Image) (k : Intended) (cardId pre : Nat) (s : State), s.pins.reset = false →
    (s.ctx p).state = .reckoning → (s.ctx p).image = some i → (s.ctx p).intended = some k →
    (s.ctx p).cardId = some cardId → i.cardId = cardId → (s.ctx p).preCounter = some pre →
    (s.port p).outstanding = none → (s.port p).pendingShow = none →
    let run := exec (.recheckBeforeCommit p) s
    let issued : State := { s with
      dialog := { s.dialog with
        ctx := s.dialog.ctx.put p { s.ctx p with state := .committing, attempts := 0 }
        port := s.dialog.port.put p ((s.port p).issued .commit s.params none) }
      sent := .verb p (nextTag (s.port p).tag)
        (.commit cardId pre k.balance k.entry k.lastExit k.dailyDate k.dailySpent) :: s.sent }
    (∀ e, s.denied cardId = some e → e.action = .refuse → ∃ t, run = .next t ∧ s.refusedTo t p .denied none)
    ∧ (∀ y, s.denied cardId = none → s.stands cardId y → s.params.markOnClone = false →
      i.counter < y.counter ∨ (i.counter = y.counter ∧ i.balance ≠ y.balance) →
      ∃ t, run = .next t ∧ s.refusedTo t p .clone none ∧ t.standing.sightings = s.standing.sightings)
    ∧ (s.denied cardId = none →
      (s.sighting cardId = none ∨ ∃ y, s.stands cardId y ∧
        (y.counter < i.counter ∨ (i.counter = y.counter ∧ i.balance = y.balance))) →
      run = .next (follow issued))
    ∧ (∀ y, s.denied cardId = none → s.sighting cardId = some y → s.tooOld y.time →
      ∃ l, run = .next (follow { issued with standing := { s.standing with sightings := l } })
        ∧ ∀ c, findBy Sighting.cardId c l = if c = cardId then none else s.sighting c))
  ∧ (∀ (p : Port) (c : Instr) (b : List Byte) (s : State), s.pins.reset = false → s.endsAnswered p .commit c b →
    parseCommit b = some .mismatch → ∃ t, exec c s = .next t ∧ s.refusedTo t p .cardChanged none)

/-- R16 to R20, R39, R50: how a write ends, by COMMIT_ANSWER, REISSUED_COMMIT_ANSWER, CONFIRMING_READ_ANSWER or the deadline. It is
confirmed by an OK to COMMIT or to the reissued COMMIT, or by a confirming READ that shows the counter and balance after it, and
concludes with its records, its sighting and its credit. A COMMIT whose outcome is unknown leads to a confirming READ. The values before
the write lead to one reissued COMMIT, and after it to a torn write; a READ that shows nothing is repeated while Attempts is below
Dialog.Retries, and then the write is torn: a recovery entry stands for it, SHOW SEE_AGENT, IDLE. The sighting that either writes goes
out as a SIGHT, or is dropped with SEND_DROP set (R34, R177): where the context's journal slots are among the reserved ones, the
invariant that `StepsKeepTheSlots` states. Values that are neither are a clone case, and the recovery entry stands; with the mark
indication its SHOW waits for the MARK, and the CardId is withdrawn as the write is found torn (log 50). (Here the lane is in service,
and the recovery list has room.) A SHOW carries the port's Tag unchanged (log 43); the SHOW of a clone found here carries the balance of
the image taken in READING (log 46). -/
def Obligations.WriteIsConfirmedOrTorn : Prop :=
  ∀ (p : Port) (cardId pre : Nat) (preBalance : Int) (k : Intended) (c : Instr) (s : State), s.pins.reset = false →
    (s.ctx p).cardId = some cardId → (s.ctx p).preCounter = some pre → (s.ctx p).preBalance = some preBalance →
    (s.ctx p).intended = some k → s.lane.eff.inService = true → s.standing.recovery.length < 16 →
    let run := exec c s
    let again (u : Purpose) (x : Context) (v : Verb) := run = .next (follow
      { s with
        dialog := { s.dialog with
          ctx := s.dialog.ctx.put p x, port := s.dialog.port.put p ((s.port p).issued u s.params none) }
        sent := .verb p (nextTag (s.port p).tag) v :: s.shown p })
    let concluded := ∃ t, run = .next t ∧ s.concludedTo t p cardId pre k
    let torn := ∃ t, run = .next t ∧ s.tornTo t p cardId pre preBalance k ∧ (t.ctx p).state = .idle
      ∧ t.sent.head? = some (.display p (s.port p).tag ⟨.seeAgent, none, none⟩)
    let confirms := again .confirmRead { s.ctx p with state := .confirming, attempts := 1 } (.read cardId)
    (∀ b, s.endsAnswered p .commit c b ∨ s.endsAnswered p .reissue c b → parseCommit b = some .ok → concluded)
    ∧ ((∃ b, s.endsAnswered p .commit c b ∧ parseCommit b = some .fail) ∨ s.endsFieldLost p .commit c
        ∨ s.endsUnanswered p .commit c → confirms)
    ∧ ((∃ b, s.endsAnswered p .reissue c b ∧ (parseCommit b = some .fail ∨ parseCommit b = some .mismatch))
        ∨ s.endsFieldLost p .reissue c ∨ s.endsUnanswered p .reissue c → confirms)
    ∧ (∀ b i, s.endsAnswered p .confirmRead c b → parseImage b = some i → i.cardId = cardId →
      (i.counter = pre + 1 → i.balance = k.balance → concluded)
      ∧ (i.counter = pre → i.balance = preBalance → (s.ctx p).reissued = false →
        again .reissue { s.ctx p with reissued := true }
          (.commit cardId pre k.balance k.entry k.lastExit k.dailyDate k.dailySpent))
      ∧ (i.counter = pre → i.balance = preBalance → (s.ctx p).reissued = true → torn)
      ∧ (¬(i.counter = pre + 1 ∧ i.balance = k.balance) → ¬(i.counter = pre ∧ i.balance = preBalance) →
        s.params.markOnClone = false → (s.denied cardId).isSome = true ∨ s.standing.deny.length < 4096 →
        ∃ t, run = .next t ∧ s.tornTo t p cardId pre preBalance k ∧ s.refusedTo t p .clone none
          ∧ (t.denied cardId).isSome = true)
      ∧ (¬(i.counter = pre + 1 ∧ i.balance = k.balance) → ¬(i.counter = pre ∧ i.balance = preBalance) →
        s.params.markOnClone = true → (s.denied cardId).isSome = true ∨ s.standing.deny.length < 4096 →
        ∃ t, run = .next t ∧ s.tornTo t p cardId pre preBalance k ∧ (t.ctx p).state = .marking
          ∧ (t.ctx p).marking = some .clone ∧ t.sent.head? = some (.verb p (nextTag (s.port p).tag) (.mark cardId))
          ∧ (t.denied cardId).isSome = true))
    ∧ ((s.endsFieldLost p .confirmRead c ∨ s.endsUnanswered p .confirmRead c
        ∨ ∃ b, s.endsAnswered p .confirmRead c b ∧ ∀ i, parseImage b = some i → i.cardId ≠ cardId) →
      ((s.ctx p).attempts < s.params.retries →
        again .confirmRead { s.ctx p with attempts := (s.ctx p).attempts + 1 } (.read cardId))
      ∧ (s.params.retries ≤ (s.ctx p).attempts → torn))

/-- R135 to R139: a derivation that gives another mode writes a MODE record before any other, with the free crossings of the mode left,
asks for a MODE_CHANGE event, flushes both queues when it leaves service, makes Lane.FreeCount 0 in FREE_EXIT and FAULT, and drives
closed or closing flaps open in them (not a close retry by FAULT, R125). R25, R10: it refuses every context that has not issued COMMIT,
from READING to RECKONING, of the ports that the new mode refuses: both in CLOSED, FREE_EXIT and FAULT with LANE_CLOSED, port B in
ENTRY_ONLY and port A in EXIT_ONLY with LANE_DIRECTION; port A's first (log 22). Its reservations are released, its REFUSAL record is
written, in a reserved slot when it holds one; its proof request is removed while it waits, and abandoned while it is in service. A
context in IDLE, SENSING, COMMITTING, CONFIRMING, MARKING or HOLDING, or of a port not refused, is not touched. The answer to a refused
context's verb, or its deadline, only sends the pending SHOW and starts the poll timer; the outcome of an abandoned CHECK is discarded,
and the next request is sent (log 29: it is not counted in the bound of two). A SHOW carries the port's Tag unchanged (log 43). -/
def Obligations.ModeChangeRefusesDialogs : Prop :=
  (∀ (m : Mode) (p : Port) (s : State),
    let t := refuseByMode m p s
    let open' := (s.ctx p).state ∈ [.reading, .proving, .checking, .judging, .reckoning]
    let refused (code : RefusalCode) := s.refusedByMode t p code
      ∧ t.lane.reserved = (if (s.ctx p).creditRes then
          s.lane.reserved.put (portDirection p) (s.lane.reserved.get (portDirection p) - 1) else s.lane.reserved)
      ∧ t.journal.reserved = s.journal.reserved - (s.ctx p).journalRes
      ∧ t.journal.records = s.journal.records ++
        (if (s.ctx p).journalRes = 0 ∧ s.journal.free ≤ 16 then []
        else [s.recordOf { kind := .refusal, direction := some (portDirection p), cardId := (s.ctx p).cardId
                           reason := some (.refusal code) }])
      ∧ t.dialog.proofQueue = (match s.dialog.proofQueue, s.dialog.proofTimer with
        | r :: rest, some _ =>
          { r with abandoned := r.abandoned || decide (r.port = p) } :: rest.filter fun x => decide (x.port ≠ p)
        | l, none => l.filter fun x => decide (x.port ≠ p)
        | [], _ => [])
      ∧ t.sent = (if (s.port p).outstanding = none then
          [.display p (s.port p).tag ⟨.refused code, none, (s.ctx p).image.map Image.balance⟩] else []) ++ s.sent
      ∧ t.ctx (otherPort p) = s.ctx (otherPort p) ∧ t.port (otherPort p) = s.port (otherPort p)
      ∧ t.lane.credits = s.lane.credits ∧ t.lane.eff = s.lane.eff ∧ t.tariff = s.tariff ∧ t.params = s.params
    (open' → m = .closed ∨ m = .freeExit ∨ m = .fault → refused .laneClosed)
    ∧ (open' → (m = .entryOnly ∧ p = .b) ∨ (m = .exitOnly ∧ p = .a) → refused .laneDirection)
    ∧ (¬open' ∨ m = .normal ∨ (m = .entryOnly ∧ p = .a) ∨ (m = .exitOnly ∧ p = .b) → t = s)
    ∧ dialogsTold m s = refuseByMode m .b (refuseByMode m .a s))
  ∧ (∀ s : State,
    let m := s.lane.derived
    let t := deriveMode s
    let count := if s.lane.eff = .freeExit ∨ s.lane.eff = .fault then s.lane.freeCount else 0
    (m = s.lane.eff → t = s)
    ∧ (m ≠ s.lane.eff →
      t.lane.eff = m ∧ t.lane.freeCount = (if m = .freeExit ∨ m = .fault then 0 else s.lane.freeCount)
      ∧ (1 ≤ s.journal.free → ∃ later, t.journal.records = s.journal.records ++
          s.recordOf { kind := .mode, direction := none, reason := some (.mode m), count := some count } :: later)
      ∧ (s.journal.free = 0 → t.journal.overflow = true)
      ∧ (s.params.eventMask.getLsbD 5 = true → s.line.link.up = true →
        (s.journal.records.length + 1 ≠ s.params.highWater → s.journal.free ≠ 17 → s.line.held = [] → s.line.count .own < 4 →
          ∃ later, t.line.localQ.up = s.line.localQ.up ++ ⟨s.eventFrame (.modeChange s.lane.eff m count), .own, false⟩ :: later)
        ∧ (4 ≤ s.line.count .own → t.line.localQ = s.line.localQ ∧ t.mgmt.flags.sendDrop = true))
      ∧ (s.lane.eff.inService = true → m.inService = false → ∀ d, t.lane.credits.get d = []
        ∧ t.lane.counts.get d =
          { s.lane.counts.get d with lapsed := (s.lane.counts.get d).lapsed + (s.lane.credits.get d).length })
      ∧ (m = .freeExit ∨ m = .fault → s.lane.queuesServed →
        t.lane.flap = (if s.lane.flap = .closed ∨ (s.lane.flap = .closing ∧ (m = .freeExit ∨ s.lane.jam = none)) then .opening
          else s.lane.flap))))
  ∧ (∀ s : State, s.pins.reset = false → s.lane.emergencyFilter = some 0 → s.pins.emergency = true → s.lane.eff ≠ .freeExit →
    ∃ t, exec .emergencyTaken s = .next t ∧ ∀ p,
      if (s.ctx p).state ∈ [.reading, .proving, .checking, .judging, .reckoning] then s.refusedByMode t p .laneClosed
      else t.ctx p = s.ctx p ∧ t.port p = s.port p)
  ∧ (∀ (a : Arrival) (tag mode : Byte) (m : Mode) (s : State), (Instr.laneMode a tag mode).wf = true → s.canAnswer a →
    laneModeOf mode = some m →
    (m = .closed ∨ (s.clock.state ≠ .unset ∧ s.tariff.active.isSome = true ∧ s.mgmt.freshStart = false)) →
    s.lane.emergency = false → s.lane.jam = none → s.lane.faultBeams < 2 → s.lane.cmd ≠ m → s.lane.eff ≠ m →
    ∃ t, exec (.laneMode a tag mode) s = .next t ∧ ∀ p,
      if (s.ctx p).state ∈ [.reading, .proving, .checking, .judging, .reckoning]
          ∧ (m = .closed ∨ (m = .entryOnly ∧ p = .b) ∨ (m = .exitOnly ∧ p = .a)) then
        s.refusedByMode t p (if m = .closed then .laneClosed else .laneDirection)
      else t.ctx p = s.ctx p ∧ t.port p = s.port p)
  ∧ (∀ (p : Port) (c : Instr) (o : Outstanding) (s : State), s.pins.reset = false → (s.port p).outstanding = some o →
    o.dropped = true →
    ((c = .verbDeadlineExpiry p ∧ o.deadline = 0)
      ∨ ∃ message e, c = o.purpose.answerCommand p message ∧ parseAnswer message = some (o.purpose.code, o.tag, e)) →
    let period := s.params.pollPeriod s.lane.tempo
    exec c s = .next (follow
      { s with
        dialog := { s.dialog with
          ctx := s.dialog.ctx.put p { s.ctx p with pollTimer := some period, pollPeriod := period }
          port := s.dialog.port.put p (s.port p).ended }
        sent := s.shown p }))
  ∧ (∀ (c : Instr) (r : ProofRequest) (rest : List ProofRequest) (left : Nat) (s : State), s.pins.reset = false →
    s.dialog.proofQueue = r :: rest → r.abandoned = true → s.dialog.proofTimer = some left →
    ((c = .proofTimeoutExpiry ∧ left = 0)
      ∨ ∃ message o, c = .checkAnswer message ∧ parseCheck message = some (s.dialog.proofTag, o)) →
    exec c s = .next (follow
      (match rest with
      | [] => { s with dialog := { s.dialog with proofQueue := [], proofTimer := none } }
      | x :: _ =>
        { s with
          dialog := { s.dialog with
            proofQueue := rest, proofTag := nextTag s.dialog.proofTag, proofTimer := some s.params.proofTimeout }
          sent := .check (nextTag s.dialog.proofTag) x :: s.sent })))

/-! ### The lane sensor -/

/-- R85, R86, R88, R91, R106: the sensor port. At each expiry SAMPLE goes out with the next tag and the timer runs the period of the
tempo; a period without a sample set counts as missed, up to 8; at the eighth every beam is in FAULT, with Cause SILENT when it was not
before, and no body remains; the count of faulty beams is reported and makes the effective mode FAULT, unless EMERGENCY holds it in
FREE_EXIT; and a FAULT record SENSOR_SILENT with the number of beams that entered FAULT is written after those of that change (log 16),
and a BEAM_FAULT event naming the port is asked for. A sample
set with another tag, a bad check or after the period's first changes nothing; one that is taken gives each beam its level, ends a
silence, and at the acquisition makes it the reference. While no trim runs and the lane is not idle each beam is judged by its sample
alone. The oldest MIDDLE body of 2 s not yet reported is reported once, as an intrusion. A set
with a good check that is not six levels of 0 to 4,095 is discarded by the model's choice (log 9). -/
def Obligations.SensorPortIsSampled : Prop :=
  (∀ s : State, s.pins.reset = false → s.beam.sampleTimer = some 0 →
    let tag := nextTag s.beam.senseTag
    let next (missed : Nat) := exec .sampleTimerExpiry s = .next (follow
      { s with
        beam := { s.beam with
          senseTag := tag, sampleTimer := some (s.params.samplePeriod s.lane.tempo), answered := false, missed := missed }
        sent := .sample tag :: s.sent })
    (s.beam.answered = true → next s.beam.missed)
    ∧ (s.beam.answered = false → s.beam.missed + 1 < 8 → next (s.beam.missed + 1))
    ∧ (s.beam.answered = false → 8 ≤ s.beam.missed + 1 → s.beam.silent = true → next 8)
    ∧ (s.beam.answered = false → 8 ≤ s.beam.missed + 1 → s.beam.silent = false →
      ∃ t, exec .sampleTimerExpiry s = .next t ∧ t.beam.silent = true ∧ t.beam.missed = 8 ∧ t.beam.bodies = []
        ∧ t.beam.trimBeam = none ∧ (∀ r ∈ t.beam.records.toList, r.state = .fault ∧ r.steps = 0 ∧ r.settle = 0)
        ∧ t.beam.records.map (fun r => (r.cause, r.level, r.ref, r.drive, r.count)) = s.beam.records.map (fun r =>
          (if r.state = .fault then r.cause else some .silent, r.level, r.ref, r.drive, r.count))
        ∧ t.beam.senseTag = tag ∧ t.sent.head? = some (.sample tag)
        ∧ (s.lane.modeDerived → t.lane.faultBeams = 6 ∧ t.lane.eff = if s.lane.emergency then .freeExit else .fault)
        ∧ (s.lane.credits.inbound.length + s.lane.credits.outbound.length + 4 ≤ s.journal.free →
          t.journal.records.getLast?.map Record.content = some
            { kind := .fault, direction := none, reason := some (.fault .sensorSilent)
              count := some (s.beam.records.toList.countP fun r => decide (r.state ≠ .fault)) })
        ∧ (s.params.eventMask = 8#12 → t.mgmt.eventNo = (s.mgmt.eventNo + 1) % 65536
          ∧ (s.line.link.up = true → s.line.held = [] → s.line.count .own < 4 →
            ∃ f, t.line.localQ.up = s.line.localQ.up ++ [⟨f, .own, false⟩] ∧ f = s.eventFrame (.beamFault 0)))))
  ∧ (∀ (message : List Byte) (s : State), s.pins.reset = false →
    ((parseSample message = none ∨ s.beam.answered = true
        ∨ ∃ tag levels, parseSample message = some (tag, levels) ∧ tag ≠ s.beam.senseTag) →
      exec (.sampleSet message) s = .next s)
    ∧ (∀ levels, parseSample message = some (s.beam.senseTag, levels) → s.beam.answered = false →
      ∃ t, exec (.sampleSet message) s = .next t
        ∧ t.beam.records.map BeamRecord.level = levels
        ∧ t.beam.missed = 0 ∧ t.beam.answered = true ∧ t.beam.silent = false ∧ t.beam.acquiring = false
        ∧ t.beam.senseTag = s.beam.senseTag ∧ t.beam.sampleTimer = s.beam.sampleTimer
        ∧ (s.beam.acquiring = true → t.beam.records.map BeamRecord.ref = levels)
        ∧ (s.beam.acquiring = false → s.beam.silent = false → s.beam.trimBeam = none → s.laneIdle = false →
          t.beam.records.map (fun r => (r.ref, r.drive, r.state, r.count)) =
            (s.beam.records.join (sampleBeam s.params) levels).map (fun r => (r.ref, r.drive, r.state, r.count)))))
  ∧ (∀ (younger older : List Body) (b : Body) (s : State), s.pins.reset = false → s.beam.bodies = older ++ b :: younger →
    (∀ y ∈ older, ¬(y.origin = .middle ∧ y.reported = false ∧ y.since + 2000 ≤ s.now)) →
    b.origin = .middle → b.reported = false → b.since + 2000 ≤ s.now →
    ∃ t, exec .anomaly s = .next t ∧ t.beam.bodies = older ++ { b with reported := true } :: younger
      ∧ t.journal.records = s.journal.records ++
        (if 1 ≤ s.journal.free then
          [s.recordOf { kind := .intrusion, direction := none, reason := some (.intrusion .anomaly) }]
        else [])
      ∧ t.lane.credits = s.lane.credits ∧ t.lane.flap = s.lane.flap ∧ t.dialog = s.dialog ∧ t.standing = s.standing)

/-- R88 to R90: what one sample does to a beam. A CLEAR beam counts the samples of depth BlockLevel or more and blocks when Debounce of
them have come; a BLOCKED beam counts those of depth ReleaseLevel or less and clears; any other sample makes the count 0. While a
CLEAR beam does not count, its Ref moves toward Level by at least 1 and never past it. A beam that is TRIMMING or in FAULT takes its
level alone. -/
def Obligations.SampleJudgesABeam : Prop :=
  ∀ (q : Params) (r : BeamRecord) (level : Nat),
    let t := sampleBeam q r level
    t.level = level ∧ t.drive = r.drive ∧ t.cause = r.cause ∧ t.tried = r.tried
    ∧ (r.state = .clear → level + q.blockLevel ≤ r.ref → t.ref = r.ref
        ∧ (if q.debounce ≤ r.count + 1 then t.state = .blocked ∧ t.count = 0
          else t.state = .clear ∧ t.count = r.count + 1))
    ∧ (r.state = .clear → r.ref < level + q.blockLevel → t.state = .clear ∧ t.count = 0
        ∧ (r.ref = level → t.ref = level)
        ∧ (r.ref < level → r.ref < t.ref ∧ t.ref ≤ level)
        ∧ (level < r.ref → t.ref < r.ref ∧ level ≤ t.ref)
        ∧ (r.ref + q.fastBound < level →
          t.ref = r.ref + max 1 ((level - r.ref) / 2 ^ q.fastShift))
        ∧ (r.ref < level → level ≤ r.ref + q.fastBound →
          t.ref = r.ref + max 1 ((level - r.ref) / 2 ^ q.slowShift))
        ∧ (level < r.ref → t.ref = r.ref - max 1 ((r.ref - level) / 2 ^ q.slowShift)))
    ∧ (r.state = .blocked → t.ref = r.ref
        ∧ (r.ref ≤ level + q.releaseLevel →
          if q.debounce ≤ r.count + 1 then t.state = .clear ∧ t.count = 0
          else t.state = .blocked ∧ t.count = r.count + 1)
        ∧ (level + q.releaseLevel < r.ref → t.state = .blocked ∧ t.count = 0))
    ∧ (r.state = .trimming ∨ r.state = .fault → t = { r with level := level })

/-- R93 to R97: the trim, in each sample set that is taken: each beam is first sampled (`SampleJudgesABeam`), then the trim under way
meets the set, then a candidate is sought, then the view is formed (`BodiesFollowTheView`). The set raises Settle; when it
reaches TrimSettle, Ref takes the Level and is judged. If the lane is then no longer idle the trim that still runs is interrupted: a
TRIMMING beam becomes CLEAR with its Level as Ref, a retried one keeps its FAULT and its Ref. While no trim runs and the lane is idle,
the candidate of the lowest number begins: a CLEAR beam out of band that counts nothing, in TRIMMING, or a beam in FAULT by a trim that
has not been tried in this idle period; it is judged at once (log 17), in a set that has just ended a trim too (log 18). The record and
event of a failure come before the report of the count (log 16), Settle and Steps stand as log 51 says. -/
def Obligations.TrimRunsWhileTheLaneIsIdle : Prop :=
  (∀ (message : List Byte) (levels : Six Nat) (s : State), s.pins.reset = false →
    parseSample message = some (s.beam.senseTag, levels) → s.beam.answered = false →
    exec (.sampleSet message) s = .next (follow (takeView (seekTrim (advanceTrim
      { s with beam := s.beam.received.sampled s.params levels })))))
  ∧ (∀ s : State, s.laneIdle = true ↔
    s.beam.bodies = [] ∧ s.lane.credits = ⟨[], []⟩ ∧ s.lane.reserved = ⟨0, 0⟩ ∧ s.lane.tempo ≠ .brisk
      ∧ (s.lane.flap = .closed ∨ (s.lane.flap = .opened ∧ (s.lane.eff = .freeExit ∨ s.lane.eff = .fault))))
  ∧ (∀ s : State, s.beam.trimBeam = none → advanceTrim s = s)
  ∧ (∀ (i : Nat) (r : BeamRecord) (s : State), 1 ≤ i → i ≤ 6 → s.beam.trimBeam = some i → s.beam.records.get i = r →
    let unlessInterrupted (t : State) : State :=
      let x := t.beam.records.get i
      if s.laneIdle = true ∨ t.beam.trimBeam = none then t
      else { t with
        beam := { t.beam with
          trimBeam := none
          records := t.beam.records.put i
            (if x.state = .trimming then { x with state := .clear, count := 0, ref := x.level, steps := 0, settle := 0 }
            else { x with steps := 0, settle := 0 }) } }
    (r.settle + 1 < s.params.trimSettle → advanceTrim s = unlessInterrupted
      { s with beam := { s.beam with records := s.beam.records.put i { r with settle := r.settle + 1 } } })
    ∧ (s.params.trimSettle ≤ r.settle + 1 → ∃ t, advanceTrim s = unlessInterrupted t ∧ s.trimJudged t i { r with ref := r.level }))
  ∧ (∀ s : State,
    let limit := s.params.target * s.params.band / 128
    let candidate (i : Nat) : Prop :=
      let r := s.beam.records.get i
      (r.state = .clear ∧ r.count = 0 ∧ (r.ref + limit < s.params.target ∨ s.params.target + limit < r.ref))
        ∨ (r.state = .fault ∧ r.cause = some .trim ∧ r.tried = false)
    (s.beam.trimBeam ≠ none ∨ s.laneIdle = false ∨ (∀ i, 1 ≤ i → i ≤ 6 → ¬candidate i) → seekTrim s = s)
    ∧ (∀ i, s.beam.trimBeam = none → s.laneIdle = true → 1 ≤ i → i ≤ 6 → candidate i →
      (∀ j, 1 ≤ j → j < i → ¬candidate j) →
      let r := s.beam.records.get i
      s.trimJudged (seekTrim s) i
        (if r.state = .fault then { r with tried := true, steps := 0 } else { r with state := .trimming, steps := 0 })))

/-- R98 to R105, R107: a sample set that is taken moves the bodies by its view. A BLOCKED beam reads blocked, a CLEAR or TRIMMING one
clear, and one in FAULT as its neighbours, when they are BLOCKED. A run is a greatest stretch of blocked readings. With no run every
body has departed; a run that no body meets appears, with the origin of the end it holds; a body that one run meets moves to it, its
Reach never back; of two runs it keeps the one farther on, or the longer, and the other splits off with its Origin, Crossed, Since and
Reported, or is absorbed back while the list is full (log 21); two bodies that one run meets merge into the older. A body crosses once,
when its Reach comes to the crossing beam. The reports follow in the order of R107: the fault count, the flap zone, appearances (which
make the tempo BRISK), crossings (`CrossingIsJudged`), departures with their kinds, oldest first (log 19). Here for one group, and for
two bodies each with its own run. -/
def Obligations.BodiesFollowTheView : Prop :=
  (∀ (message : List Byte) (levels : Six Nat) (s : State), s.pins.reset = false →
    parseSample message = some (s.beam.senseTag, levels) → s.beam.answered = false →
    let u := seekTrim (advanceTrim { s with beam := s.beam.received.sampled s.params levels })
    let runs := runsOf u.beam.view
    let m := matchView s.now s.beam.bodies runs
    let left := s.beam.bodies.filter fun b => runs.all fun r => decide (r.2 < b.first ∨ b.last < r.1)
    let reports := (if u.beam.faults = s.lane.faultBeams then [] else [.faultCount u.beam.faults])
      ++ (if u.beam.flapZone = s.lane.flapZone then [] else [.flapZone u.beam.flapZone])
      ++ m.appeared.map .appearance ++ m.crossings.map m.crossingReport
      ++ left.map fun b => .departure b.origin b.departure b.crossed
    ∃ t, exec (.sampleSet message) s = .next (follow t)
      ∧ t = reports.foldl takeReport { u with beam := { u.beam with bodies := m.bodies.map Prod.snd } }
      ∧ t.beam.bodies = m.bodies.map Prod.snd ∧ t.lane.flapZone = u.beam.flapZone ∧ t.lane.faultBeams = u.beam.faults
      ∧ (m.appeared ≠ [] → t.lane.tempo = .brisk))
  ∧ (∀ (b : Beams) (i : Nat), 1 ≤ i → i ≤ 6 →
    let is (k : Nat) (x : BeamState) : Prop := (b.records.get k).state = x
    (is i .blocked → b.reads i = true) ∧ (is i .clear ∨ is i .trimming → b.reads i = false)
    ∧ (is i .fault → (b.reads i = true ↔ (1 < i → is (i - 1) .blocked) ∧ (i < 6 → is (i + 1) .blocked)))
    ∧ b.view[i - 1]? = some (b.reads i) ∧ b.view.length = 6 ∧ b.flapZone = (b.reads 3 || b.reads 4))
  ∧ (∀ v : List Bool, v.length = 6 → (runsOf v).Pairwise (fun r x => r.2 < x.1)
    ∧ ∀ f l, (f, l) ∈ runsOf v ↔ 1 ≤ f ∧ f ≤ l ∧ l ≤ 6 ∧ (∀ k < 6, f ≤ k + 1 → k + 1 ≤ l → v[k]? = some true)
      ∧ (1 < f → v[f - 2]? = some false) ∧ (l < 6 → v[l]? = some false))
  ∧ (∀ b : Body,
    (b.origin = .middle → b.departure = none)
    ∧ (b.origin = .entryEnd → b.departure = some
      (if b.last = 6 then .passage else if b.first = 1 then .retreat else if b.crossed then .passage else .retreat))
    ∧ (b.origin = .exitEnd → b.departure = some
      (if b.first = 1 then .passage else if b.last = 6 then .retreat else if b.crossed then .passage else .retreat)))
  ∧ (∀ now : Nat,
    let meets (b : Body) (r : Run) : Prop := r.1 ≤ b.last ∧ b.first ≤ r.2
    let placed (b : Body) (r : Run) : Body :=
      { b with
        first := r.1, last := r.2, long := b.long || decide (4 ≤ r.2 + 1 - r.1)
        reach := match b.origin with
          | .entryEnd => some (max (b.reach.getD r.2) r.2)
          | .exitEnd => some (min (b.reach.getD r.1) r.1)
          | .middle => none }
    let crosses (b : Body) : Bool := !b.crossed &&
      ((b.origin == .entryEnd && decide (4 ≤ b.reach.getD 0)) || (b.origin == .exitEnd && decide (b.reach.getD 6 ≤ 3)))
    let told (b : Body) : List Direction :=
      if crosses b then [if b.origin = .entryEnd then .inbound else .outbound] else []
    let settled (b : Body) : Body := { b with crossed := b.crossed || crosses b }
    let fresh (r : Run) : Body := placed
      ⟨if r.1 = 1 ∧ r.2 ≠ 6 then .entryEnd else if r.2 = 6 ∧ r.1 ≠ 1 then .exitEnd else .middle,
        r.1, r.2, none, false, false, now, false⟩ r
    let kept (b : Body) (r x : Run) : Run := match b.origin with
      | .entryEnd => x
      | .exitEnd => r
      | .middle => if r.2 - r.1 < x.2 - x.1 then x else r
    let gives (bodies : List Body) (runs : List Run) (after : List Body) (appeared : List Origin) (crossed : List Direction) :=
      (matchView now bodies runs).bodies.map Prod.snd = after ∧ (matchView now bodies runs).appeared = appeared
        ∧ (matchView now bodies runs).crossings.map Prod.fst = crossed
    (∀ l, gives l [] [] [] [])
    ∧ (∀ runs, runs.length ≤ 3 →
      gives [] runs (runs.map fun r => settled (fresh r)) (runs.map fun r => (fresh r).origin) (runs.flatMap fun r => told (fresh r)))
    ∧ (∀ b r, meets b r → gives [b] [r] [settled (placed b r)] [] (told (placed b r)))
    ∧ (∀ b r, ¬meets b r → gives [b] [r] [settled (fresh r)] [(fresh r).origin] (told (fresh r)))
    ∧ (∀ b c r x, r.1 ≤ r.2 → r.2 < x.1 → x.1 ≤ x.2 → meets b r → ¬meets b x → meets c x → ¬meets c r →
      gives [b, c] [r, x] [settled (placed b r), settled (placed c x)] [] (told (placed b r) ++ told (placed c x))
      ∧ gives [c, b] [r, x] [settled (placed c x), settled (placed b r)] [] (told (placed b r) ++ told (placed c x)))
    ∧ (∀ b r x, r.1 ≤ r.2 → r.2 < x.1 → x.1 ≤ x.2 → meets b r → meets b x →
      let m := settled (placed b (kept b r x))
      let other := if kept b r x = x then r else x
      gives [b] [r, x]
        [m, { m with
              first := other.1, last := other.2, long := false
              reach := match b.origin with | .entryEnd => some other.2 | .exitEnd => some other.1 | .middle => none }]
        [] (told (placed b (kept b r x)))
      ∧ (∀ c d z, x.2 < z.1 → ¬meets b z → meets c z → meets d z → ¬meets c r → ¬meets c x → ¬meets d r → ¬meets d x →
        (matchView now [b, c, d] [r, x, z]).bodies.head?.map Prod.snd =
          some (settled { placed m (min m.first other.1, max m.last other.2) with long := true })))
    ∧ (∀ b c r, meets b r → meets c r →
      let took := b.origin = .middle ∧ c.origin ≠ .middle
      let merged : Body := { b with
        long := true, origin := if took then c.origin else b.origin, reach := if took then c.reach else b.reach }
      let alike := c.origin = merged.origin ∧ c.origin ≠ .middle
      let joined : Body := { merged with crossed := b.crossed || (decide alike && c.crossed) }
      gives [b, c] [r] [settled (placed joined r)] []
        ((if alike ∧ b.crossed = true ∧ c.crossed = false then
            [if c.origin = .entryEnd then .inbound else .outbound] else []) ++ told (placed joined r))))

/-! ### Credits, flaps and timers -/

/-- R110 to R113, R35: a credit lapses when the Life of the head credit served runs out, or when the Wait of the head credit of a
direction that is not granted reaches its limit. It leaves its queue, the direction's Lapsed counter rises, a LAPSE record with the
reason is written while a slot is free, and its card's own admission record at this gate becomes a lapsed one. -/
def Obligations.CreditLapses : Prop :=
  ∀ (d : Direction) (c : Credit) (rest : List Credit) (run : Instr) (why : LapseReason) (s : State), s.pins.reset = false →
    s.lane.credits.get d = c :: rest →
    ((run = .creditLifeExpiry ∧ why = .lifetime ∧ s.lane.grant = some d ∧ s.lane.flap = .opened ∧ c.life = 0)
      ∨ (run = .waitLimitExpiry d ∧ why = .wait ∧ s.lane.grant ≠ some d ∧ s.params.waitLimit * 1000 ≤ c.wait)) →
    ∃ t, exec run s = .next t
      ∧ t.lane.credits = s.lane.credits.put d rest
      ∧ t.lane.counts = s.lane.counts.put d { s.lane.counts.get d with lapsed := (s.lane.counts.get d).lapsed + 1 }
      ∧ t.journal.records = s.journal.records ++
        (if 1 ≤ s.journal.free then
          [s.recordOf { kind := .lapse, direction := some c.direction, cardId := some c.cardId
                        reason := some (.lapse why) }]
        else [])
      ∧ (s.journal.free = 0 → t.journal.overflow = true)
      ∧ (∀ r, s.stands c.cardId r →
        t.sighting c.cardId = some (if r.kind = admittedKind d ∧ r.gate = s.line.address then
          { r with kind := lapsedKind d, time := s.stamp } else r))
      ∧ (s.sighting c.cardId = none → t.standing = s.standing)
      ∧ t.lane.reserved = s.lane.reserved ∧ t.lane.eff = s.lane.eff ∧ t.lane.nextCreditNo = s.lane.nextCreditNo
      ∧ t.dialog = s.dialog ∧ t.tariff = s.tariff ∧ t.params = s.params ∧ t.sent = s.sent

/-- R124 to R131: the flaps. AT_OPEN in OPENING makes them OPEN, stops the motion timer and starts the close delay; AT_CLOSED in CLOSING
makes them CLOSED; at either limit a jam is then CLEAR and the mode derived afresh (R130). At CLOSED the grant whose queue is empty and
whose bodies have gone is released, and the other direction granted when it has credits; the flaps open again while FREE_EXIT, FAULT or
a credit of the granted direction asks for it (the order of the three: log 25). Any other limit changes nothing but the pins (log 49).
The end of the close delay closes the flaps when no credit holds them open, the flap zone is clear and the mode does not. A motion whose
timer runs out is JAMMED: neither output is driven, a FAULT record is written, and the lane is in FAULT unless EMERGENCY holds it in
FREE_EXIT. -/
def Obligations.FlapsReachTheirLimits : Prop :=
  (∀ (atOpen atClosed : Bool) (s : State), s.pins.reset = false →
    let run := exec (.limitAsserted atOpen atClosed) s
    let u : State := { s with pins := { s.pins with atOpen := atOpen, atClosed := atClosed } }
    (s.lane.flap = .opening → atOpen = true →
      (s.lane.jam = none → run = .next (follow
        { u with lane := { s.lane with flap := .opened, motionTimer := none, closeTimer := some s.params.closeDelay } }))
      ∧ (s.lane.jam.isSome = true → ∃ t, run = .next t ∧ t.lane.flap = .opened ∧ t.lane.jam = none
        ∧ t.lane.motionTimer = none ∧ t.lane.closeTimer = some s.params.closeDelay
        ∧ t.lane.eff = (if s.lane.emergency then .freeExit else if 2 ≤ s.lane.faultBeams then .fault else s.lane.cmd)))
    ∧ (s.lane.flap = .closing → atClosed = true →
      let opens (eff : Mode) (grant : Option Direction) : Prop :=
        eff = .freeExit ∨ eff = .fault ∨ ∃ d, grant = some d ∧ s.lane.credits.get d ≠ []
      let left (d : Direction) : Prop := s.lane.credits.get d = [] ∧ ∀ b ∈ s.beam.bodies, b.origin ≠ originOf d
      let granted (grant served : Option Direction) : Prop :=
        (s.lane.grant = none → grant = none ∧ served = s.lane.lastServed)
        ∧ (∀ d, s.lane.grant = some d →
          (left d → served = some d
            ∧ grant = (if s.lane.credits.get (otherDirection d) = [] then none else some (otherDirection d)))
          ∧ (¬left d → grant = some d ∧ served = s.lane.lastServed))
      (s.lane.jam = none → ∃ l, run = .next (follow { u with lane := l }) ∧ granted l.grant l.lastServed
        ∧ l = { s.lane with
            flap := if opens s.lane.eff l.grant then .opening else .closed
            motionTimer := if opens s.lane.eff l.grant then some s.params.flapMotionLimit else none
            grant := l.grant, lastServed := l.lastServed })
      ∧ (s.lane.jam.isSome = true → s.lane.modeDerived → ∃ t, run = .next t ∧ t.lane.jam = none
        ∧ t.lane.eff = (if s.lane.emergency then .freeExit else if 2 ≤ s.lane.faultBeams then .fault else s.lane.cmd)
        ∧ granted t.lane.grant t.lane.lastServed
        ∧ t.lane.flap = (if opens t.lane.eff t.lane.grant then .opening else .closed)
        ∧ t.lane.motionTimer = (if opens t.lane.eff t.lane.grant then some s.params.flapMotionLimit else none)
        ∧ t.lane.credits = s.lane.credits ∧ t.lane.cmd = s.lane.cmd ∧ t.beam.bodies = s.beam.bodies))
    ∧ (¬(s.lane.flap = .opening ∧ atOpen = true) → ¬(s.lane.flap = .closing ∧ atClosed = true) →
      run = .next (follow u)))
  ∧ (∀ s : State, s.pins.reset = false → s.lane.closeTimer = some 0 →
    exec .closeDelayExpiry s = .next (follow
      (if s.lane.flap = .opened ∧ (∀ d, s.lane.grant = some d → s.lane.credits.get d = []) ∧ s.lane.flapZone = false
          ∧ s.lane.eff ≠ .freeExit ∧ s.lane.eff ≠ .fault then
        { s with
          lane := { s.lane with closeTimer := none, flap := .closing, motionTimer := some s.params.flapMotionLimit } }
      else { s with lane := { s.lane with closeTimer := none } })))
  ∧ (∀ (m : Motion) (s : State), s.pins.reset = false → s.lane.motionTimer = some 0 →
    ((s.lane.flap = .opening ∧ m = .towardOpen) ∨ (s.lane.flap = .closing ∧ m = .towardClosed)) →
    ∃ t, exec .motionTimerExpiry s = .next t ∧ t.lane.flap = .jammed ∧ t.lane.jam = some m ∧ t.lane.motionTimer = none
      ∧ t.flapOpenOut = false ∧ t.flapCloseOut = false
      ∧ t.lane.eff = (if s.lane.emergency then .freeExit else .fault)
      ∧ (1 ≤ s.journal.free → ∃ later, t.journal.records = s.journal.records ++
          s.recordOf { kind := .fault, direction := none, reason := some (.fault .flapJam) } :: later))

/-- R142, R143, R146, R179, R199: the expiries of the timers that act on their own registers alone. The brisk timer makes the tempo
STEADY when no body is in the lane; the dormant timer makes it DORMANT. The tally gap gives the head step its second edge, then ends
its spacing and begins the next step. The silence timer makes the line state ISOLATED. The countdown of the clock's age makes a GOOD
clock STALE. -/
def Obligations.ExpiredTimersActOnTheirRegisters : Prop :=
  ∀ s : State, s.pins.reset = false →
    (s.lane.briskTimer = some 0 → exec .briskTimerExpiry s = .next (follow
      { s with
        lane := { s.lane with
          briskTimer := none, tempo := if s.beam.bodies = [] then .steady else s.lane.tempo } }))
    ∧ (s.lane.dormantTimer = some 0 → exec .dormantTimerExpiry s = .next (follow
      { s with lane := { s.lane with dormantTimer := none, tempo := .dormant } }))
    ∧ (s.lane.tallyTimer = some 0 →
      (∀ d rest, s.lane.tallyPhase = .first → s.lane.tally = d :: rest → exec .tallyGapExpiry s = .next (follow
        { s with
          lane := { s.lane with
            tally := rest, tallyPhase := .spacing, tallyTimer := some s.params.tallyGap
            tallyA := if d = .outbound then !s.lane.tallyA else s.lane.tallyA
            tallyB := if d = .inbound then !s.lane.tallyB else s.lane.tallyB } }))
      ∧ (∀ d rest, s.lane.tallyPhase = .spacing → s.lane.tally = d :: rest → exec .tallyGapExpiry s = .next (follow
        { s with
          lane := { s.lane with
            tallyPhase := .first, tallyTimer := some s.params.tallyGap
            tallyA := if d = .inbound then !s.lane.tallyA else s.lane.tallyA
            tallyB := if d = .outbound then !s.lane.tallyB else s.lane.tallyB } }))
      ∧ (s.lane.tallyPhase = .spacing → s.lane.tally = [] → exec .tallyGapExpiry s = .next (follow
        { s with lane := { s.lane with tallyPhase := .ready, tallyTimer := none } })))
    ∧ (s.line.silenceTimer = some 0 → exec .silenceTimerExpiry s = .next (follow
      { s with line := { s.line with silenceTimer := none, connected := false } }))
    ∧ (s.mgmt.timeAge = some 0 → exec .timeAgeExpiry s = .next (follow
      { s with
        mgmt := { s.mgmt with
          timeAge := none
          clock := { s.mgmt.clock with
            state := if s.mgmt.clock.state = .good then .stale else s.mgmt.clock.state } } }))

/-- R118 to R122, R145: a crossing restarts the close delay, hands one step to the tally while it has room, and is judged by the first
line that applies: in FREE_EXIT and FAULT it is counted as free; with no grant, or in the granted direction with no credit, it is an
intrusion NO_CREDIT, in the other direction COUNTERFLOW; in the granted direction it consumes the head credit, and when it is Long a
second one, or is a tailgate when there is none. -/
def Obligations.CrossingIsJudged : Prop :=
  ∀ (d : Direction) (long : Bool) (s : State),
    let t := crossing d long s
    let stays := t.lane.credits = s.lane.credits ∧ t.lane.counts = s.lane.counts
    let recorded (c : Content) := t.journal.records = s.journal.records ++ if 1 ≤ s.journal.free then [s.recordOf c] else []
    let intruded (why : IntrusionReason) := stays ∧ t.lane.freeCount = s.lane.freeCount
      ∧ recorded { kind := .intrusion, direction := some d, reason := some (.intrusion why) }
    let consumed (n : Nat) (left : List Credit) := t.lane.credits = s.lane.credits.put d left
      ∧ t.lane.counts = s.lane.counts.put d
        { s.lane.counts.get d with consumed := (s.lane.counts.get d).consumed + n }
    t.lane.closeTimer = some s.params.closeDelay
    ∧ t.lane.tally = (if s.lane.tally.length < 16 then s.lane.tally ++ [d] else s.lane.tally)
    ∧ (16 ≤ s.lane.tally.length → t.mgmt.flags.tallyOverflow = true)
    ∧ t.dialog = s.dialog ∧ t.standing = s.standing ∧ t.beam = s.beam ∧ t.lane.eff = s.lane.eff
    ∧ (s.lane.eff = .freeExit ∨ s.lane.eff = .fault →
      stays ∧ t.journal = s.journal ∧ t.lane.freeCount = min 65535 (s.lane.freeCount + 1))
    ∧ (s.lane.eff ≠ .freeExit → s.lane.eff ≠ .fault →
      (s.lane.grant = none → intruded .noCredit)
      ∧ (s.lane.grant = some (otherDirection d) → intruded .counterflow)
      ∧ (s.lane.grant = some d →
        (s.lane.credits.get d = [] → intruded .noCredit)
        ∧ (∀ c rest, s.lane.credits.get d = c :: rest → long = false → consumed 1 rest ∧ t.journal = s.journal)
        ∧ (∀ c c' rest, s.lane.credits.get d = c :: c' :: rest → long = true → consumed 2 rest ∧ t.journal = s.journal)
        ∧ (∀ c, s.lane.credits.get d = [c] → long = true → consumed 1 []
          ∧ recorded { kind := .tailgate, direction := some d, cardId := some c.cardId })))

/-! ### Fares and the journal -/

/-- R56 to R70: the reckoning. A charge or fare that is taken lowers the balance by exactly its amount, and the balance stays within the
overdraft; the class 7 pays nothing; an entry opens the trip at this station, an exit closes it. A regular fare is the base fare of
the two groups by the entry's band and the class, rounded to the nearer cent, less the transfer discount, rounded to the nearer
step, and cut to what the daily cap leaves. -/
def Obligations.FareIsReckoned : Prop :=
  (∀ (d : Direction) (b : Bank) (i : Image) (c : Clock) (k : Intended), reckon d b i c = .taken k →
    k.balance = i.balance - k.amount ∧ -(b.rules.overdraft : Int) ≤ k.balance ∧ k.bankTag = b.tag
    ∧ (k.cls = 7 → k.amount = 0) ∧ 1 ≤ k.contents.length ∧ k.contents.length ≤ 2
    ∧ (d = .outbound → k.entry = none ∧ k.lastExit = some c.reading)
    ∧ (d = .inbound → k.lastExit = i.lastExit ∧ k.dailySpent = i.dailySpent ∧ ∃ band,
        k.entry = some ⟨b.station.stationCode, b.station.fareGroup, c.reading.date, c.reading.secs, band⟩)
    ∧ (d = .inbound → k.cls ≠ 7 → b.rules.minEntryBalance ≤ k.balance))
  ∧ (∀ (d : Direction) (b : Bank) (i : Image) (c : Clock) (amount : Nat), reckon d b i c = .insufficient amount →
    i.balance - amount < -(b.rules.overdraft : Int)
      ∨ (d = .inbound ∧ i.balance - amount < b.rules.minEntryBalance))
  ∧ (∀ (b : Bank) (i : Image) (c : Clock) (e : TripEntry), i.entry = some e → classInEffect i c.reading.date ≠ 7 →
    c.reading.absolute - (e.date * 86400 + e.secs) ≤ b.rules.maxTrip →
    ¬(e.station = b.station.stationCode
      ∧ c.reading.absolute - (e.date * 86400 + e.secs) ≤ b.rules.sameStationWindow) →
    let row := b.classes.getD (classInEffect i c.reading.date) ⟨0, 0⟩
    let base := b.matrix.getD (e.group * 32 + b.station.fareGroup) 0
    let banded := min ((base * b.bands.factorOf e.band + 500) / 1000) 65535
    let classed := (banded * row.factor + 500) / 1000
    let discount := match i.lastExit with
      | some x => if x.absolute ≤ e.date * 86400 + e.secs
            ∧ e.date * 86400 + e.secs - x.absolute ≤ b.rules.transferWindow then b.rules.transferDiscount else 0
      | none => 0
    let step := b.rules.fareStep
    let stepped := (classed - discount + step / 2) / step * step
    let rounded := if 65535 < stepped then 65535 / step * step else stepped
    let spent := if i.dailyDate = c.reading.date then i.dailySpent else 0
    let fare := if row.cap = 0 then rounded else min rounded (row.cap - spent)
    ((i.balance : Int) - fare < -(b.rules.overdraft : Int) → reckon .outbound b i c = .insufficient fare)
    ∧ (-(b.rules.overdraft : Int) ≤ i.balance - fare → ∃ k, reckon .outbound b i c = .taken k ∧ k.amount = fare
      ∧ k.fareKind = .regular ∧ k.dailyDate = c.reading.date ∧ k.dailySpent = min 65535 (spent + fare)))

/-- R147, R149 to R154: the four ways a record is admitted. An open refusal needs more than 16 free slots, and is otherwise not written
with nothing changed; a reserve record needs one, and is otherwise dropped with JOURNAL_OVERFLOW; a reserved or a held slot takes its
record whatever is free. The record joins the tail with the next Seq, the clock's time and the flags. None
of the four brings the records, held slots and reserved slots above 512; that no step does is the invariant `StepsKeepTheSlots`. -/
def Obligations.JournalAdmitsByClass : Prop :=
  ∀ (c : Content) (s : State),
    let used (j : Journal) := j.records.length + j.held + j.reserved
    let grown (t : State) := t.journal.records = s.journal.records ++ [s.recordOf c]
      ∧ t.journal.nextSeq = nextSeqOf s.journal.nextSeq ∧ t.journal.overflow = s.journal.overflow
    (16 < s.journal.free → grown (appendOpenRefusal c s) ∧ (appendOpenRefusal c s).journal.free + 1 = s.journal.free)
    ∧ (s.journal.free ≤ 16 → appendOpenRefusal c s = s)
    ∧ (1 ≤ s.journal.free → grown (appendReserve c s) ∧ (appendReserve c s).journal.free + 1 = s.journal.free)
    ∧ (s.journal.free = 0 → appendReserve c s = { s with journal := { s.journal with overflow := true } })
    ∧ (1 ≤ s.journal.reserved → grown (appendReserved c s) ∧ (appendReserved c s).journal.free = s.journal.free
        ∧ (appendReserved c s).journal.reserved + 1 = s.journal.reserved)
    ∧ (1 ≤ s.journal.held → grown (appendHeld c s) ∧ (appendHeld c s).journal.free = s.journal.free
        ∧ (appendHeld c s).journal.held + 1 = s.journal.held)
    ∧ (used s.journal ≤ 512 → used (appendOpenRefusal c s).journal ≤ 512 ∧ used (appendReserve c s).journal ≤ 512
        ∧ (1 ≤ s.journal.reserved → used (appendReserved c s).journal ≤ 512)
        ∧ (1 ≤ s.journal.held → used (appendHeld c s).journal ≤ 512))

/-! ### What every step keeps -/

/-- R113, R115, R109, R137: from every state in which, for each direction, the credits granted are those consumed, lapsed and still
queued, and no credit is queued while the grant is NONE or the lane is out of service, every step leads to such a state. -/
def Obligations.StepsKeepTheCreditAccount : Prop :=
  ∀ s t : State, s.lane.accountHolds ∧ s.lane.queuesServed → step s = .next t →
    t.lane.accountHolds ∧ t.lane.queuesServed

/-- R172, R173: every step keeps the quotas of the buffers, 10 from each port and 4 of the part's own, and the agreement of each HOLD
output with its count: ASSERTED from 8 on, RELEASED down to 5. -/
def Obligations.StepsKeepTheLineQuotas : Prop :=
  ∀ s t : State, s.line.quotasHold ∧ s.line.holdAgrees → step s = .next t → t.line.quotasHold ∧ t.line.holdAgrees

/-- R132, R135 and R124, R128 to R130: every step keeps the commanded mode one that can be commanded and the effective mode the one
its inputs give; the motion timer running exactly in OPENING and CLOSING, a jam SET in JAMMED and CLEAR at a limit, and no closing
onto a blocked flap zone. -/
def Obligations.StepsKeepTheModeAndTheFlaps : Prop :=
  ∀ s t : State, s.lane.modeDerived ∧ s.lane.flapsSafe → step s = .next t → t.lane.modeDerived ∧ t.lane.flapsSafe

/-- R28, R31, R38, R145, section 5.5: every step keeps the deny list, the sighting table, the recovery list, the body list and the tally
queue within their capacities, and the deny list in CardId order (R28). That the sighting table, too, stands in CardId order is the
model's choice (log 48): R31 gives it no order. R2, R9, R85, R86, R109, R134, R138, R147, R170, R195, R197, sections 5.2 and 5.5: the
Tags, Missed, the fields of the beam records, the Spans and Reaches of the bodies, Beam.TrimBeam, NextCreditNo, FaultBeams, FreeCount,
NextSeq, the address, EventNo, the clock and Tariff.SwitchAt stay in their ranges. R186, R92: so does every parameter. R147: the
journal's records are numbered without a gap up to Journal.NextSeq. (The slots of the credit queues, the journal and the proof queue are
`StepsKeepTheSlots`, the buffers `StepsKeepTheLineQuotas`; Lane.Counts have no bound in the model, log 14.) -/
def Obligations.StepsKeepCapacitiesAndNumbers : Prop :=
  ∀ s t : State, s.withinCapacity ∧ s.numbersInRange ∧ s.params.inRange ∧ s.journal.numbered → step s = .next t →
    t.withinCapacity ∧ t.numbersInRange ∧ t.params.inRange ∧ t.journal.numbered

/-- R108: every step keeps the credits queued and reserved in each direction within 4. R149: the journal's records, held and reserved slots
within 512. Section 1.5: at most one request of each context in the proof queue that is not abandoned, so at most two, and only its head
abandoned (log 29). With them what gives the slots their owners: R12, R14, R23: the slots of each context by its state; R38, R151: one held
slot for each recovery entry; R80: a context held for a switch, and an active bank for it; R2, R3, R25: the verb outstanding on a port is
the one its context waits for, or was refused a mode. -/
def Obligations.StepsKeepTheSlots : Prop :=
  ∀ s t : State, s.slotsHold → step s = .next t → t.slotsHold
end

