-- ==== Sys2Proof/Laws/Bytes.lean ====
section
/-! SUPPORT. Numbers and the bytes that hold them (R200): what is written reads back. -/

namespace Sys2Proof.Machine

open Sys2Proof

@[simp] theorem length_be (n v : Nat) : (be n v).length = n := by
  induction n with
  | zero => rfl
  | succ n ih => simp [be, ih]

@[simp] theorem length_beSigned (n : Nat) (v : Int) : (beSigned n v).length = n := by simp [beSigned]

/-- The value of bytes that follow others. -/
theorem ofBe_append (x y : List Byte) : ofBe (x ++ y) = ofBe x * 256 ^ y.length + ofBe y := by
  have key : ∀ (y : List Byte) (acc : Nat),
      y.foldl (fun acc b => acc * 256 + b.toNat) acc = acc * 256 ^ y.length + ofBe y := by
    intro y
    induction y with
    | nil => intro acc; simp [ofBe]
    | cons b y ih =>
      intro acc
      rw [List.foldl_cons, ih, show ofBe (b :: y) = y.foldl (fun acc b => acc * 256 + b.toNat) b.toNat by simp [ofBe], ih,
        List.length_cons, pow_succ]
      ring
  unfold ofBe
  rw [List.foldl_append]
  exact key y _

theorem ofBe_cons (b : Byte) (y : List Byte) : ofBe (b :: y) = b.toNat * 256 ^ y.length + ofBe y := by
  simpa [ofBe] using ofBe_append [b] y

/-- A number written in `n` bytes reads back modulo 256^n. -/
theorem ofBe_be_mod (n v : Nat) : ofBe (be n v) = v % 256 ^ n := by
  induction n with
  | zero => simp [be, ofBe, Nat.mod_one]
  | succ n ih =>
    rw [be, ofBe_cons, ih, length_be]
    have h : (byte (v / 256 ^ n)).toNat = v / 256 ^ n % 256 := by simp [byte]
    rw [h, pow_succ, Nat.mod_mul, Nat.add_comm, Nat.mul_comm]

/-- A number that fits in `n` bytes reads back as it is. -/
theorem ofBe_be {n v : Nat} (h : fits n v = true) : ofBe (be n v) = v := by
  rw [ofBe_be_mod, Nat.mod_eq_of_lt (by simpa [fits] using h)]

/-- A signed number that fits in `n + 1` bytes reads back as it is. -/
theorem ofBeSigned_beSigned {n : Nat} {v : Int} (h : fitsSigned (n + 1) v = true) :
    ofBeSigned (beSigned (n + 1) v) = v := by
  obtain ⟨h1, h2⟩ : -(256 ^ (n + 1) / 2 : Int) ≤ v ∧ v < (256 ^ (n + 1) / 2 : Int) := by
    simpa [fitsSigned] using h
  have hp : (0 : Int) < 256 ^ (n + 1) := by positivity
  have he : (256 ^ (n + 1) : Int) = 2 * (128 * 256 ^ n) := by ring
  have hm : (0 : Int) ≤ v % 256 ^ (n + 1) := Int.emod_nonneg _ (by omega)
  have hl : v % 256 ^ (n + 1) < 256 ^ (n + 1) := Int.emod_lt_of_pos _ hp
  have hv : ((v % 256 ^ (n + 1)).toNat : Int) = v % 256 ^ (n + 1) := Int.toNat_of_nonneg hm
  have hb : ofBe (beSigned (n + 1) v) = (v % 256 ^ (n + 1)).toNat := by
    rw [beSigned, ofBe_be_mod, Nat.mod_eq_of_lt]
    have : ((256 ^ (n + 1) : Nat) : Int) = 256 ^ (n + 1) := by norm_cast
    omega
  have hn : ((256 ^ (n + 1) : Nat) : Int) = 256 ^ (n + 1) := by norm_cast
  unfold ofBeSigned
  rw [hb, length_beSigned]
  have hhalf : ((256 ^ (n + 1) / 2 : Nat) : Int) = 256 ^ (n + 1) / 2 := by norm_cast
  rcases lt_or_ge v 0 with hneg | hpos
  · have hmod : v % 256 ^ (n + 1) = v + 256 ^ (n + 1) := by
      rw [← Int.add_emod_right, Int.emod_eq_of_lt (by omega) (by omega)]
    simp only [show ¬(v % 256 ^ (n + 1)).toNat < 256 ^ (n + 1) / 2 by omega, if_false]
    omega
  · have hmod : v % 256 ^ (n + 1) = v := Int.emod_eq_of_lt hpos (by omega)
    simp only [show (v % 256 ^ (n + 1)).toNat < 256 ^ (n + 1) / 2 by omega, if_true]
    omega

/-- What is sent with its check is received with a good check. -/
@[simp] theorem checked_withCheck (b : List Byte) : checked (withCheck b) = some b := by
  simp [checked, withCheck]

@[simp] theorem length_withCheck (b : List Byte) : (withCheck b).length = b.length + 2 := by simp [withCheck]

@[simp] theorem byte_toNat (b : Byte) : byte b.toNat = b := by simp [byte]

theorem toNat_byte {n : Nat} (h : n < 256) : (byte n).toNat = n := by simp [byte, Nat.mod_eq_of_lt h]

/-! ### Fields in their places -/

/-- The field that stands first. -/
theorem fieldAt_first (x y : List Byte) (n : Nat) (h : x.length = n) : fieldAt (x ++ y) 0 n = ofBe x := by
  simp [fieldAt, ← h]

/-- The field that stands alone. -/
theorem fieldAt_whole (x : List Byte) (n : Nat) (h : x.length = n) : fieldAt x 0 n = ofBe x := by
  simpa using fieldAt_first x [] n h

/-- A field behind others is read behind them. -/
theorem fieldAt_behind (x y : List Byte) (i n k : Nat) (h : x.length = k) (hk : k ≤ i) :
    fieldAt (x ++ y) i n = fieldAt y (i - k) n := by
  subst h
  rw [fieldAt, fieldAt, List.drop_append, List.drop_eq_nil_of_le hk, List.nil_append]

theorem fieldAt_cons_succ (b : Byte) (y : List Byte) (i n : Nat) : fieldAt (b :: y) (i + 1) n = fieldAt y i n := by
  simp [fieldAt]

theorem fieldAt_cons_one (b : Byte) (y : List Byte) : fieldAt (b :: y) 0 1 = b.toNat := by simp [fieldAt, ofBe]

/-- A checked message loses its last two bytes. -/
theorem checked_some {m b : List Byte} (h : checked m = some b) : b = m.take (m.length - 2) ∧ 2 ≤ m.length := by
  simp only [checked] at h
  split at h
  · rename_i c
    exact ⟨(Option.some.inj h).symm, c.1⟩
  · cases h

/-- R164: what has gone out of a frame cut off in transmission fails the neighbour's checks. -/
theorem Frame.cutOffBytes_discarded (f : Frame) (endMark : Bool) (h : f.payload.length ≤ 240) :
    parseFrame f.cutOffBytes endMark = none := by
  have hl : f.bytes.length = f.payload.length + 7 := by
    simp [Frame.bytes, withCheck, be]
  have hk : Config.bytesGoneOut f.bytes % f.bytes.length < f.payload.length + 7 := hl ▸ Nat.mod_lt _ (by omega)
  unfold Frame.cutOffBytes
  generalize Config.bytesGoneOut f.bytes % f.bytes.length = k at hk
  unfold parseFrame
  split
  · rename_i kind dest src hops length payload hc
    obtain ⟨hb, -⟩ := checked_some hc
    rw [List.length_take, hl, Nat.min_eq_left (by omega), List.take_take, Nat.min_eq_left (by omega)] at hb
    have hlen := congrArg List.length hb
    rw [List.length_take, hl, Nat.min_eq_left (by omega)] at hlen
    obtain ⟨j, rfl⟩ : ∃ j, k = j + 7 := ⟨k - 7, by simp at hlen; omega⟩
    have h5 : length = byte f.payload.length := by
      simp [Frame.bytes, withCheck] at hb
      exact hb.2.2.2.2.1
    simp at hlen
    have : length.toNat = f.payload.length := by simp [h5]; omega
    rw [if_neg]
    omega
  · rfl

end Sys2Proof.Machine
end

