-- ==== Sys2Proof/Laws/State.lean ====
section
/-! SUPPORT. The small lemmas of State: one for each field after each block's update, and what reading one of a pair gives after
writing one. -/

namespace Sys2Proof.Machine

open Sys2Proof

/-! ### Pairs -/

@[simp] theorem ByPort.get_put_same {α : Type} (x : ByPort α) (p : Port) (v : α) : (x.put p v).get p = v := by cases p <;> rfl
theorem ByPort.get_put {α : Type} (x : ByPort α) (p q : Port) (v : α) :
    (x.put p v).get q = if q = p then v else x.get q := by cases p <;> cases q <;> rfl
@[simp] theorem ByPort.put_get {α : Type} (x : ByPort α) (p : Port) : x.put p (x.get p) = x := by cases p <;> rfl
@[simp] theorem ByPort.put_put {α : Type} (x : ByPort α) (p : Port) (v w : α) : (x.put p v).put p w = x.put p w := by
  cases p <;> rfl

@[simp] theorem ByLine.get_put_same {α : Type} (x : ByLine α) (p : LinePort) (v : α) : (x.put p v).get p = v := by
  cases p <;> rfl
theorem ByLine.get_put {α : Type} (x : ByLine α) (p q : LinePort) (v : α) :
    (x.put p v).get q = if q = p then v else x.get q := by cases p <;> cases q <;> rfl
@[simp] theorem ByLine.put_get {α : Type} (x : ByLine α) (p : LinePort) : x.put p (x.get p) = x := by cases p <;> rfl
@[simp] theorem ByLine.put_put {α : Type} (x : ByLine α) (p : LinePort) (v w : α) :
    (x.put p v).put p w = x.put p w := by cases p <;> rfl

@[simp] theorem ByDir.get_put_same {α : Type} (x : ByDir α) (d : Direction) (v : α) : (x.put d v).get d = v := by
  cases d <;> rfl
theorem ByDir.get_put {α : Type} (x : ByDir α) (d e : Direction) (v : α) :
    (x.put d v).get e = if e = d then v else x.get e := by cases d <;> cases e <;> rfl
@[simp] theorem ByDir.put_get {α : Type} (x : ByDir α) (d : Direction) : x.put d (x.get d) = x := by cases d <;> rfl
@[simp] theorem ByDir.put_put {α : Type} (x : ByDir α) (d : Direction) (v w : α) : (x.put d v).put d w = x.put d w := by
  cases d <;> rfl

@[simp] theorem otherPort_ne (p : Port) : otherPort p ≠ p := by cases p <;> simp [otherPort]
@[simp] theorem otherLine_ne (p : LinePort) : otherLine p ≠ p := by cases p <;> simp [otherLine]
@[simp] theorem otherDirection_ne (d : Direction) : otherDirection d ≠ d := by cases d <;> simp [otherDirection]

/-! ### One block's update: each field after it -/

@[simp] theorem State.onDialog_dialog (f : Dialogs → Dialogs) (s : State) : (s.onDialog f).dialog = f s.dialog := rfl
@[simp] theorem State.onDialog_standing (f : Dialogs → Dialogs) (s : State) : (s.onDialog f).standing = s.standing := rfl
@[simp] theorem State.onDialog_tariff (f : Dialogs → Dialogs) (s : State) : (s.onDialog f).tariff = s.tariff := rfl
@[simp] theorem State.onDialog_beam (f : Dialogs → Dialogs) (s : State) : (s.onDialog f).beam = s.beam := rfl
@[simp] theorem State.onDialog_lane (f : Dialogs → Dialogs) (s : State) : (s.onDialog f).lane = s.lane := rfl
@[simp] theorem State.onDialog_journal (f : Dialogs → Dialogs) (s : State) : (s.onDialog f).journal = s.journal := rfl
@[simp] theorem State.onDialog_line (f : Dialogs → Dialogs) (s : State) : (s.onDialog f).line = s.line := rfl
@[simp] theorem State.onDialog_mgmt (f : Dialogs → Dialogs) (s : State) : (s.onDialog f).mgmt = s.mgmt := rfl
@[simp] theorem State.onDialog_params (f : Dialogs → Dialogs) (s : State) : (s.onDialog f).params = s.params := rfl
@[simp] theorem State.onDialog_pins (f : Dialogs → Dialogs) (s : State) : (s.onDialog f).pins = s.pins := rfl
@[simp] theorem State.onDialog_now (f : Dialogs → Dialogs) (s : State) : (s.onDialog f).now = s.now := rfl
@[simp] theorem State.onDialog_second (f : Dialogs → Dialogs) (s : State) : (s.onDialog f).second = s.second := rfl
@[simp] theorem State.onDialog_sent (f : Dialogs → Dialogs) (s : State) : (s.onDialog f).sent = s.sent := rfl
@[simp] theorem State.onDialog_pending (f : Dialogs → Dialogs) (s : State) : (s.onDialog f).pending = s.pending := rfl

@[simp] theorem State.onStanding_dialog (f : Standing → Standing) (s : State) : (s.onStanding f).dialog = s.dialog := rfl
@[simp] theorem State.onStanding_standing (f : Standing → Standing) (s : State) : (s.onStanding f).standing = f s.standing := rfl
@[simp] theorem State.onStanding_tariff (f : Standing → Standing) (s : State) : (s.onStanding f).tariff = s.tariff := rfl
@[simp] theorem State.onStanding_beam (f : Standing → Standing) (s : State) : (s.onStanding f).beam = s.beam := rfl
@[simp] theorem State.onStanding_lane (f : Standing → Standing) (s : State) : (s.onStanding f).lane = s.lane := rfl
@[simp] theorem State.onStanding_journal (f : Standing → Standing) (s : State) : (s.onStanding f).journal = s.journal := rfl
@[simp] theorem State.onStanding_line (f : Standing → Standing) (s : State) : (s.onStanding f).line = s.line := rfl
@[simp] theorem State.onStanding_mgmt (f : Standing → Standing) (s : State) : (s.onStanding f).mgmt = s.mgmt := rfl
@[simp] theorem State.onStanding_params (f : Standing → Standing) (s : State) : (s.onStanding f).params = s.params := rfl
@[simp] theorem State.onStanding_pins (f : Standing → Standing) (s : State) : (s.onStanding f).pins = s.pins := rfl
@[simp] theorem State.onStanding_now (f : Standing → Standing) (s : State) : (s.onStanding f).now = s.now := rfl
@[simp] theorem State.onStanding_second (f : Standing → Standing) (s : State) : (s.onStanding f).second = s.second := rfl
@[simp] theorem State.onStanding_sent (f : Standing → Standing) (s : State) : (s.onStanding f).sent = s.sent := rfl
@[simp] theorem State.onStanding_pending (f : Standing → Standing) (s : State) : (s.onStanding f).pending = s.pending := rfl

@[simp] theorem State.onTariff_dialog (f : Tariff → Tariff) (s : State) : (s.onTariff f).dialog = s.dialog := rfl
@[simp] theorem State.onTariff_standing (f : Tariff → Tariff) (s : State) : (s.onTariff f).standing = s.standing := rfl
@[simp] theorem State.onTariff_tariff (f : Tariff → Tariff) (s : State) : (s.onTariff f).tariff = f s.tariff := rfl
@[simp] theorem State.onTariff_beam (f : Tariff → Tariff) (s : State) : (s.onTariff f).beam = s.beam := rfl
@[simp] theorem State.onTariff_lane (f : Tariff → Tariff) (s : State) : (s.onTariff f).lane = s.lane := rfl
@[simp] theorem State.onTariff_journal (f : Tariff → Tariff) (s : State) : (s.onTariff f).journal = s.journal := rfl
@[simp] theorem State.onTariff_line (f : Tariff → Tariff) (s : State) : (s.onTariff f).line = s.line := rfl
@[simp] theorem State.onTariff_mgmt (f : Tariff → Tariff) (s : State) : (s.onTariff f).mgmt = s.mgmt := rfl
@[simp] theorem State.onTariff_params (f : Tariff → Tariff) (s : State) : (s.onTariff f).params = s.params := rfl
@[simp] theorem State.onTariff_pins (f : Tariff → Tariff) (s : State) : (s.onTariff f).pins = s.pins := rfl
@[simp] theorem State.onTariff_now (f : Tariff → Tariff) (s : State) : (s.onTariff f).now = s.now := rfl
@[simp] theorem State.onTariff_second (f : Tariff → Tariff) (s : State) : (s.onTariff f).second = s.second := rfl
@[simp] theorem State.onTariff_sent (f : Tariff → Tariff) (s : State) : (s.onTariff f).sent = s.sent := rfl
@[simp] theorem State.onTariff_pending (f : Tariff → Tariff) (s : State) : (s.onTariff f).pending = s.pending := rfl

@[simp] theorem State.onBeam_dialog (f : Beams → Beams) (s : State) : (s.onBeam f).dialog = s.dialog := rfl
@[simp] theorem State.onBeam_standing (f : Beams → Beams) (s : State) : (s.onBeam f).standing = s.standing := rfl
@[simp] theorem State.onBeam_tariff (f : Beams → Beams) (s : State) : (s.onBeam f).tariff = s.tariff := rfl
@[simp] theorem State.onBeam_beam (f : Beams → Beams) (s : State) : (s.onBeam f).beam = f s.beam := rfl
@[simp] theorem State.onBeam_lane (f : Beams → Beams) (s : State) : (s.onBeam f).lane = s.lane := rfl
@[simp] theorem State.onBeam_journal (f : Beams → Beams) (s : State) : (s.onBeam f).journal = s.journal := rfl
@[simp] theorem State.onBeam_line (f : Beams → Beams) (s : State) : (s.onBeam f).line = s.line := rfl
@[simp] theorem State.onBeam_mgmt (f : Beams → Beams) (s : State) : (s.onBeam f).mgmt = s.mgmt := rfl
@[simp] theorem State.onBeam_params (f : Beams → Beams) (s : State) : (s.onBeam f).params = s.params := rfl
@[simp] theorem State.onBeam_pins (f : Beams → Beams) (s : State) : (s.onBeam f).pins = s.pins := rfl
@[simp] theorem State.onBeam_now (f : Beams → Beams) (s : State) : (s.onBeam f).now = s.now := rfl
@[simp] theorem State.onBeam_second (f : Beams → Beams) (s : State) : (s.onBeam f).second = s.second := rfl
@[simp] theorem State.onBeam_sent (f : Beams → Beams) (s : State) : (s.onBeam f).sent = s.sent := rfl
@[simp] theorem State.onBeam_pending (f : Beams → Beams) (s : State) : (s.onBeam f).pending = s.pending := rfl

@[simp] theorem State.onLane_dialog (f : Lane → Lane) (s : State) : (s.onLane f).dialog = s.dialog := rfl
@[simp] theorem State.onLane_standing (f : Lane → Lane) (s : State) : (s.onLane f).standing = s.standing := rfl
@[simp] theorem State.onLane_tariff (f : Lane → Lane) (s : State) : (s.onLane f).tariff = s.tariff := rfl
@[simp] theorem State.onLane_beam (f : Lane → Lane) (s : State) : (s.onLane f).beam = s.beam := rfl
@[simp] theorem State.onLane_lane (f : Lane → Lane) (s : State) : (s.onLane f).lane = f s.lane := rfl
@[simp] theorem State.onLane_journal (f : Lane → Lane) (s : State) : (s.onLane f).journal = s.journal := rfl
@[simp] theorem State.onLane_line (f : Lane → Lane) (s : State) : (s.onLane f).line = s.line := rfl
@[simp] theorem State.onLane_mgmt (f : Lane → Lane) (s : State) : (s.onLane f).mgmt = s.mgmt := rfl
@[simp] theorem State.onLane_params (f : Lane → Lane) (s : State) : (s.onLane f).params = s.params := rfl
@[simp] theorem State.onLane_pins (f : Lane → Lane) (s : State) : (s.onLane f).pins = s.pins := rfl
@[simp] theorem State.onLane_now (f : Lane → Lane) (s : State) : (s.onLane f).now = s.now := rfl
@[simp] theorem State.onLane_second (f : Lane → Lane) (s : State) : (s.onLane f).second = s.second := rfl
@[simp] theorem State.onLane_sent (f : Lane → Lane) (s : State) : (s.onLane f).sent = s.sent := rfl
@[simp] theorem State.onLane_pending (f : Lane → Lane) (s : State) : (s.onLane f).pending = s.pending := rfl

@[simp] theorem State.onJournal_dialog (f : Journal → Journal) (s : State) : (s.onJournal f).dialog = s.dialog := rfl
@[simp] theorem State.onJournal_standing (f : Journal → Journal) (s : State) : (s.onJournal f).standing = s.standing := rfl
@[simp] theorem State.onJournal_tariff (f : Journal → Journal) (s : State) : (s.onJournal f).tariff = s.tariff := rfl
@[simp] theorem State.onJournal_beam (f : Journal → Journal) (s : State) : (s.onJournal f).beam = s.beam := rfl
@[simp] theorem State.onJournal_lane (f : Journal → Journal) (s : State) : (s.onJournal f).lane = s.lane := rfl
@[simp] theorem State.onJournal_journal (f : Journal → Journal) (s : State) : (s.onJournal f).journal = f s.journal := rfl
@[simp] theorem State.onJournal_line (f : Journal → Journal) (s : State) : (s.onJournal f).line = s.line := rfl
@[simp] theorem State.onJournal_mgmt (f : Journal → Journal) (s : State) : (s.onJournal f).mgmt = s.mgmt := rfl
@[simp] theorem State.onJournal_params (f : Journal → Journal) (s : State) : (s.onJournal f).params = s.params := rfl
@[simp] theorem State.onJournal_pins (f : Journal → Journal) (s : State) : (s.onJournal f).pins = s.pins := rfl
@[simp] theorem State.onJournal_now (f : Journal → Journal) (s : State) : (s.onJournal f).now = s.now := rfl
@[simp] theorem State.onJournal_second (f : Journal → Journal) (s : State) : (s.onJournal f).second = s.second := rfl
@[simp] theorem State.onJournal_sent (f : Journal → Journal) (s : State) : (s.onJournal f).sent = s.sent := rfl
@[simp] theorem State.onJournal_pending (f : Journal → Journal) (s : State) : (s.onJournal f).pending = s.pending := rfl

@[simp] theorem State.onLine_dialog (f : LineIf → LineIf) (s : State) : (s.onLine f).dialog = s.dialog := rfl
@[simp] theorem State.onLine_standing (f : LineIf → LineIf) (s : State) : (s.onLine f).standing = s.standing := rfl
@[simp] theorem State.onLine_tariff (f : LineIf → LineIf) (s : State) : (s.onLine f).tariff = s.tariff := rfl
@[simp] theorem State.onLine_beam (f : LineIf → LineIf) (s : State) : (s.onLine f).beam = s.beam := rfl
@[simp] theorem State.onLine_lane (f : LineIf → LineIf) (s : State) : (s.onLine f).lane = s.lane := rfl
@[simp] theorem State.onLine_journal (f : LineIf → LineIf) (s : State) : (s.onLine f).journal = s.journal := rfl
@[simp] theorem State.onLine_line (f : LineIf → LineIf) (s : State) : (s.onLine f).line = f s.line := rfl
@[simp] theorem State.onLine_mgmt (f : LineIf → LineIf) (s : State) : (s.onLine f).mgmt = s.mgmt := rfl
@[simp] theorem State.onLine_params (f : LineIf → LineIf) (s : State) : (s.onLine f).params = s.params := rfl
@[simp] theorem State.onLine_pins (f : LineIf → LineIf) (s : State) : (s.onLine f).pins = s.pins := rfl
@[simp] theorem State.onLine_now (f : LineIf → LineIf) (s : State) : (s.onLine f).now = s.now := rfl
@[simp] theorem State.onLine_second (f : LineIf → LineIf) (s : State) : (s.onLine f).second = s.second := rfl
@[simp] theorem State.onLine_sent (f : LineIf → LineIf) (s : State) : (s.onLine f).sent = s.sent := rfl
@[simp] theorem State.onLine_pending (f : LineIf → LineIf) (s : State) : (s.onLine f).pending = s.pending := rfl

@[simp] theorem State.onMgmt_dialog (f : Mgmt → Mgmt) (s : State) : (s.onMgmt f).dialog = s.dialog := rfl
@[simp] theorem State.onMgmt_standing (f : Mgmt → Mgmt) (s : State) : (s.onMgmt f).standing = s.standing := rfl
@[simp] theorem State.onMgmt_tariff (f : Mgmt → Mgmt) (s : State) : (s.onMgmt f).tariff = s.tariff := rfl
@[simp] theorem State.onMgmt_beam (f : Mgmt → Mgmt) (s : State) : (s.onMgmt f).beam = s.beam := rfl
@[simp] theorem State.onMgmt_lane (f : Mgmt → Mgmt) (s : State) : (s.onMgmt f).lane = s.lane := rfl
@[simp] theorem State.onMgmt_journal (f : Mgmt → Mgmt) (s : State) : (s.onMgmt f).journal = s.journal := rfl
@[simp] theorem State.onMgmt_line (f : Mgmt → Mgmt) (s : State) : (s.onMgmt f).line = s.line := rfl
@[simp] theorem State.onMgmt_mgmt (f : Mgmt → Mgmt) (s : State) : (s.onMgmt f).mgmt = f s.mgmt := rfl
@[simp] theorem State.onMgmt_params (f : Mgmt → Mgmt) (s : State) : (s.onMgmt f).params = s.params := rfl
@[simp] theorem State.onMgmt_pins (f : Mgmt → Mgmt) (s : State) : (s.onMgmt f).pins = s.pins := rfl
@[simp] theorem State.onMgmt_now (f : Mgmt → Mgmt) (s : State) : (s.onMgmt f).now = s.now := rfl
@[simp] theorem State.onMgmt_second (f : Mgmt → Mgmt) (s : State) : (s.onMgmt f).second = s.second := rfl
@[simp] theorem State.onMgmt_sent (f : Mgmt → Mgmt) (s : State) : (s.onMgmt f).sent = s.sent := rfl
@[simp] theorem State.onMgmt_pending (f : Mgmt → Mgmt) (s : State) : (s.onMgmt f).pending = s.pending := rfl

@[simp] theorem State.onPins_dialog (f : Pins → Pins) (s : State) : (s.onPins f).dialog = s.dialog := rfl
@[simp] theorem State.onPins_standing (f : Pins → Pins) (s : State) : (s.onPins f).standing = s.standing := rfl
@[simp] theorem State.onPins_tariff (f : Pins → Pins) (s : State) : (s.onPins f).tariff = s.tariff := rfl
@[simp] theorem State.onPins_beam (f : Pins → Pins) (s : State) : (s.onPins f).beam = s.beam := rfl
@[simp] theorem State.onPins_lane (f : Pins → Pins) (s : State) : (s.onPins f).lane = s.lane := rfl
@[simp] theorem State.onPins_journal (f : Pins → Pins) (s : State) : (s.onPins f).journal = s.journal := rfl
@[simp] theorem State.onPins_line (f : Pins → Pins) (s : State) : (s.onPins f).line = s.line := rfl
@[simp] theorem State.onPins_mgmt (f : Pins → Pins) (s : State) : (s.onPins f).mgmt = s.mgmt := rfl
@[simp] theorem State.onPins_params (f : Pins → Pins) (s : State) : (s.onPins f).params = s.params := rfl
@[simp] theorem State.onPins_pins (f : Pins → Pins) (s : State) : (s.onPins f).pins = f s.pins := rfl
@[simp] theorem State.onPins_now (f : Pins → Pins) (s : State) : (s.onPins f).now = s.now := rfl
@[simp] theorem State.onPins_second (f : Pins → Pins) (s : State) : (s.onPins f).second = s.second := rfl
@[simp] theorem State.onPins_sent (f : Pins → Pins) (s : State) : (s.onPins f).sent = s.sent := rfl
@[simp] theorem State.onPins_pending (f : Pins → Pins) (s : State) : (s.onPins f).pending = s.pending := rfl

@[simp] theorem State.send_dialog (m : Sent) (s : State) : (s.send m).dialog = s.dialog := rfl
@[simp] theorem State.send_standing (m : Sent) (s : State) : (s.send m).standing = s.standing := rfl
@[simp] theorem State.send_tariff (m : Sent) (s : State) : (s.send m).tariff = s.tariff := rfl
@[simp] theorem State.send_beam (m : Sent) (s : State) : (s.send m).beam = s.beam := rfl
@[simp] theorem State.send_lane (m : Sent) (s : State) : (s.send m).lane = s.lane := rfl
@[simp] theorem State.send_journal (m : Sent) (s : State) : (s.send m).journal = s.journal := rfl
@[simp] theorem State.send_line (m : Sent) (s : State) : (s.send m).line = s.line := rfl
@[simp] theorem State.send_mgmt (m : Sent) (s : State) : (s.send m).mgmt = s.mgmt := rfl
@[simp] theorem State.send_params (m : Sent) (s : State) : (s.send m).params = s.params := rfl
@[simp] theorem State.send_pins (m : Sent) (s : State) : (s.send m).pins = s.pins := rfl
@[simp] theorem State.send_now (m : Sent) (s : State) : (s.send m).now = s.now := rfl
@[simp] theorem State.send_second (m : Sent) (s : State) : (s.send m).second = s.second := rfl
@[simp] theorem State.send_sent (m : Sent) (s : State) : (s.send m).sent = m :: s.sent := rfl
@[simp] theorem State.send_pending (m : Sent) (s : State) : (s.send m).pending = s.pending := rfl

/-! ### A change of the buffers' places -/

@[simp] theorem State.onBuffers_dialog (f : LineIf → LineIf) (s : State) : (s.onBuffers f).dialog = s.dialog := rfl
@[simp] theorem State.onBuffers_standing (f : LineIf → LineIf) (s : State) : (s.onBuffers f).standing = s.standing := rfl
@[simp] theorem State.onBuffers_tariff (f : LineIf → LineIf) (s : State) : (s.onBuffers f).tariff = s.tariff := rfl
@[simp] theorem State.onBuffers_beam (f : LineIf → LineIf) (s : State) : (s.onBuffers f).beam = s.beam := rfl
@[simp] theorem State.onBuffers_lane (f : LineIf → LineIf) (s : State) : (s.onBuffers f).lane = s.lane := rfl
@[simp] theorem State.onBuffers_journal (f : LineIf → LineIf) (s : State) : (s.onBuffers f).journal = s.journal := rfl
@[simp] theorem State.onBuffers_line (f : LineIf → LineIf) (s : State) : (s.onBuffers f).line = (f s.line).setHold := rfl
@[simp] theorem State.onBuffers_mgmt (f : LineIf → LineIf) (s : State) : (s.onBuffers f).mgmt = s.mgmt := rfl
@[simp] theorem State.onBuffers_params (f : LineIf → LineIf) (s : State) : (s.onBuffers f).params = s.params := rfl
@[simp] theorem State.onBuffers_pins (f : LineIf → LineIf) (s : State) : (s.onBuffers f).pins = s.pins := rfl
@[simp] theorem State.onBuffers_now (f : LineIf → LineIf) (s : State) : (s.onBuffers f).now = s.now := rfl
@[simp] theorem State.onBuffers_second (f : LineIf → LineIf) (s : State) : (s.onBuffers f).second = s.second := rfl
@[simp] theorem State.onBuffers_sent (f : LineIf → LineIf) (s : State) : (s.onBuffers f).sent = s.sent := rfl
@[simp] theorem State.onBuffers_pending (f : LineIf → LineIf) (s : State) : (s.onBuffers f).pending = s.pending := rfl

/-! ### One context, one card port -/

@[simp] theorem State.onDialog_ctx (f : Dialogs → Dialogs) (s : State) (p : Port) :
    (s.onDialog f).ctx p = (f s.dialog).ctx.get p := rfl
@[simp] theorem State.onDialog_port (f : Dialogs → Dialogs) (s : State) (p : Port) :
    (s.onDialog f).port p = (f s.dialog).port.get p := rfl
@[simp] theorem State.onCtx_ctx_same (p : Port) (f : Context → Context) (s : State) :
    (s.onCtx p f).ctx p = f (s.ctx p) := by cases p <;> rfl
@[simp] theorem State.onCtx_ctx_other (p : Port) (f : Context → Context) (s : State) :
    (s.onCtx p f).ctx (otherPort p) = s.ctx (otherPort p) := by cases p <;> rfl
@[simp] theorem State.onCtx_port (p q : Port) (f : Context → Context) (s : State) : (s.onCtx p f).port q = s.port q := rfl
@[simp] theorem State.onPort_port_same (p : Port) (f : PortLink → PortLink) (s : State) :
    (s.onPort p f).port p = f (s.port p) := by cases p <;> rfl
@[simp] theorem State.onPort_port_other (p : Port) (f : PortLink → PortLink) (s : State) :
    (s.onPort p f).port (otherPort p) = s.port (otherPort p) := by cases p <;> rfl
@[simp] theorem State.onPort_ctx (p q : Port) (f : PortLink → PortLink) (s : State) : (s.onPort p f).ctx q = s.ctx q := rfl

@[simp] theorem State.onCtx_standing (p : Port) (f : Context → Context) (s : State) : (s.onCtx p f).standing = s.standing := rfl
@[simp] theorem State.onCtx_tariff (p : Port) (f : Context → Context) (s : State) : (s.onCtx p f).tariff = s.tariff := rfl
@[simp] theorem State.onCtx_beam (p : Port) (f : Context → Context) (s : State) : (s.onCtx p f).beam = s.beam := rfl
@[simp] theorem State.onCtx_lane (p : Port) (f : Context → Context) (s : State) : (s.onCtx p f).lane = s.lane := rfl
@[simp] theorem State.onCtx_journal (p : Port) (f : Context → Context) (s : State) : (s.onCtx p f).journal = s.journal := rfl
@[simp] theorem State.onCtx_line (p : Port) (f : Context → Context) (s : State) : (s.onCtx p f).line = s.line := rfl
@[simp] theorem State.onCtx_mgmt (p : Port) (f : Context → Context) (s : State) : (s.onCtx p f).mgmt = s.mgmt := rfl
@[simp] theorem State.onCtx_params (p : Port) (f : Context → Context) (s : State) : (s.onCtx p f).params = s.params := rfl
@[simp] theorem State.onCtx_pins (p : Port) (f : Context → Context) (s : State) : (s.onCtx p f).pins = s.pins := rfl
@[simp] theorem State.onCtx_now (p : Port) (f : Context → Context) (s : State) : (s.onCtx p f).now = s.now := rfl
@[simp] theorem State.onCtx_second (p : Port) (f : Context → Context) (s : State) : (s.onCtx p f).second = s.second := rfl
@[simp] theorem State.onCtx_sent (p : Port) (f : Context → Context) (s : State) : (s.onCtx p f).sent = s.sent := rfl
@[simp] theorem State.onCtx_pending (p : Port) (f : Context → Context) (s : State) : (s.onCtx p f).pending = s.pending := rfl

@[simp] theorem State.onPort_standing (p : Port) (f : PortLink → PortLink) (s : State) : (s.onPort p f).standing = s.standing := rfl
@[simp] theorem State.onPort_tariff (p : Port) (f : PortLink → PortLink) (s : State) : (s.onPort p f).tariff = s.tariff := rfl
@[simp] theorem State.onPort_beam (p : Port) (f : PortLink → PortLink) (s : State) : (s.onPort p f).beam = s.beam := rfl
@[simp] theorem State.onPort_lane (p : Port) (f : PortLink → PortLink) (s : State) : (s.onPort p f).lane = s.lane := rfl
@[simp] theorem State.onPort_journal (p : Port) (f : PortLink → PortLink) (s : State) : (s.onPort p f).journal = s.journal := rfl
@[simp] theorem State.onPort_line (p : Port) (f : PortLink → PortLink) (s : State) : (s.onPort p f).line = s.line := rfl
@[simp] theorem State.onPort_mgmt (p : Port) (f : PortLink → PortLink) (s : State) : (s.onPort p f).mgmt = s.mgmt := rfl
@[simp] theorem State.onPort_params (p : Port) (f : PortLink → PortLink) (s : State) : (s.onPort p f).params = s.params := rfl
@[simp] theorem State.onPort_pins (p : Port) (f : PortLink → PortLink) (s : State) : (s.onPort p f).pins = s.pins := rfl
@[simp] theorem State.onPort_now (p : Port) (f : PortLink → PortLink) (s : State) : (s.onPort p f).now = s.now := rfl
@[simp] theorem State.onPort_second (p : Port) (f : PortLink → PortLink) (s : State) : (s.onPort p f).second = s.second := rfl
@[simp] theorem State.onPort_sent (p : Port) (f : PortLink → PortLink) (s : State) : (s.onPort p f).sent = s.sent := rfl
@[simp] theorem State.onPort_pending (p : Port) (f : PortLink → PortLink) (s : State) : (s.onPort p f).pending = s.pending := rfl

end Sys2Proof.Machine
end

