-- ==== Sys2Proof/Laws/Frames.lean ====
section
/-! SUPPORT. The frame of each shared operation: the blocks it leaves unchanged, whatever the state. -/

namespace Sys2Proof.Machine

open Sys2Proof

/-- A fold of steps that each leave a reading unchanged leaves it unchanged. -/
theorem foldl_frame {α β : Type} (get : State → β) (f : State → α → State) (h : ∀ s a, get (f s a) = get s) :
    ∀ (l : List α) (s : State), get (l.foldl f s) = get s
  | [], _ => rfl
  | a :: l, s => (foldl_frame get f h l (f s a)).trans (h s a)

/-! ### Sticky flags -/

@[simp] theorem setOverrun_frame (s : State) :
    (setOverrun s).dialog = s.dialog ∧ (setOverrun s).standing = s.standing ∧ (setOverrun s).tariff = s.tariff ∧
    (setOverrun s).beam = s.beam ∧ (setOverrun s).lane = s.lane ∧ (setOverrun s).journal = s.journal ∧
    (setOverrun s).line = s.line ∧ (setOverrun s).params = s.params ∧ (setOverrun s).pins = s.pins ∧
    (setOverrun s).now = s.now ∧ (setOverrun s).second = s.second ∧ (setOverrun s).sent = s.sent ∧
    (setOverrun s).pending = s.pending := by
  simp [setOverrun]

@[simp] theorem setSendDrop_frame (s : State) :
    (setSendDrop s).dialog = s.dialog ∧ (setSendDrop s).standing = s.standing ∧ (setSendDrop s).tariff = s.tariff ∧
    (setSendDrop s).beam = s.beam ∧ (setSendDrop s).lane = s.lane ∧ (setSendDrop s).journal = s.journal ∧
    (setSendDrop s).line = s.line ∧ (setSendDrop s).params = s.params ∧ (setSendDrop s).pins = s.pins ∧
    (setSendDrop s).now = s.now ∧ (setSendDrop s).second = s.second ∧ (setSendDrop s).sent = s.sent ∧
    (setSendDrop s).pending = s.pending := by
  simp [setSendDrop]

@[simp] theorem setDenyFull_frame (s : State) :
    (setDenyFull s).dialog = s.dialog ∧ (setDenyFull s).standing = s.standing ∧ (setDenyFull s).tariff = s.tariff ∧
    (setDenyFull s).beam = s.beam ∧ (setDenyFull s).lane = s.lane ∧ (setDenyFull s).journal = s.journal ∧
    (setDenyFull s).line = s.line ∧ (setDenyFull s).params = s.params ∧ (setDenyFull s).pins = s.pins ∧
    (setDenyFull s).now = s.now ∧ (setDenyFull s).second = s.second ∧ (setDenyFull s).sent = s.sent ∧
    (setDenyFull s).pending = s.pending := by
  simp [setDenyFull]

@[simp] theorem setTallyOverflow_frame (s : State) :
    (setTallyOverflow s).dialog = s.dialog ∧ (setTallyOverflow s).standing = s.standing ∧
    (setTallyOverflow s).tariff = s.tariff ∧ (setTallyOverflow s).beam = s.beam ∧ (setTallyOverflow s).lane = s.lane ∧
    (setTallyOverflow s).journal = s.journal ∧ (setTallyOverflow s).line = s.line ∧
    (setTallyOverflow s).params = s.params ∧ (setTallyOverflow s).pins = s.pins ∧ (setTallyOverflow s).now = s.now ∧
    (setTallyOverflow s).second = s.second ∧ (setTallyOverflow s).sent = s.sent ∧
    (setTallyOverflow s).pending = s.pending := by
  simp [setTallyOverflow]

@[simp] theorem setJournalOverflow_frame (s : State) :
    (setJournalOverflow s).dialog = s.dialog ∧ (setJournalOverflow s).standing = s.standing ∧
    (setJournalOverflow s).tariff = s.tariff ∧ (setJournalOverflow s).beam = s.beam ∧
    (setJournalOverflow s).lane = s.lane ∧ (setJournalOverflow s).line = s.line ∧
    (setJournalOverflow s).mgmt = s.mgmt ∧ (setJournalOverflow s).params = s.params ∧
    (setJournalOverflow s).pins = s.pins ∧ (setJournalOverflow s).now = s.now ∧
    (setJournalOverflow s).second = s.second ∧ (setJournalOverflow s).sent = s.sent ∧
    (setJournalOverflow s).pending = s.pending := by
  simp [setJournalOverflow]

@[simp] theorem clearFlags_frame (s : State) :
    (clearFlags s).dialog = s.dialog ∧ (clearFlags s).standing = s.standing ∧ (clearFlags s).tariff = s.tariff ∧
    (clearFlags s).beam = s.beam ∧ (clearFlags s).lane = s.lane ∧ (clearFlags s).line = s.line ∧
    (clearFlags s).params = s.params ∧ (clearFlags s).pins = s.pins ∧ (clearFlags s).now = s.now ∧
    (clearFlags s).second = s.second ∧ (clearFlags s).sent = s.sent ∧ (clearFlags s).pending = s.pending := by
  simp [clearFlags]

/-! ### What the part makes for the line -/

@[simp] theorem convertOne_frame (s : State) :
    (convertOne s).dialog = s.dialog ∧ (convertOne s).standing = s.standing ∧ (convertOne s).tariff = s.tariff ∧
    (convertOne s).beam = s.beam ∧ (convertOne s).lane = s.lane ∧ (convertOne s).journal = s.journal ∧
    (convertOne s).mgmt = s.mgmt ∧ (convertOne s).params = s.params ∧ (convertOne s).pins = s.pins ∧
    (convertOne s).now = s.now ∧ (convertOne s).second = s.second ∧ (convertOne s).sent = s.sent ∧
    (convertOne s).pending = s.pending := by
  simp only [convertOne]
  repeat' split
  all_goals simp

@[simp] theorem convertWaiting_frame (s : State) :
    (convertWaiting s).dialog = s.dialog ∧ (convertWaiting s).standing = s.standing ∧
    (convertWaiting s).tariff = s.tariff ∧ (convertWaiting s).beam = s.beam ∧ (convertWaiting s).lane = s.lane ∧
    (convertWaiting s).journal = s.journal ∧ (convertWaiting s).mgmt = s.mgmt ∧ (convertWaiting s).params = s.params ∧
    (convertWaiting s).pins = s.pins ∧ (convertWaiting s).now = s.now ∧ (convertWaiting s).second = s.second ∧
    (convertWaiting s).sent = s.sent ∧ (convertWaiting s).pending = s.pending := by
  simp [convertWaiting]

@[simp] theorem sendCopy_frame (p : LinePort) (f : Frame) (s : State) :
    (sendCopy p f s).dialog = s.dialog ∧ (sendCopy p f s).standing = s.standing ∧ (sendCopy p f s).tariff = s.tariff ∧
    (sendCopy p f s).beam = s.beam ∧ (sendCopy p f s).lane = s.lane ∧ (sendCopy p f s).journal = s.journal ∧
    (sendCopy p f s).params = s.params ∧ (sendCopy p f s).pins = s.pins ∧ (sendCopy p f s).now = s.now ∧
    (sendCopy p f s).second = s.second ∧ (sendCopy p f s).sent = s.sent ∧ (sendCopy p f s).pending = s.pending := by
  simp only [sendCopy]
  repeat' split
  all_goals simp

@[simp] theorem broadcast_frame (kind : Byte) (payload : List Byte) (s : State) :
    (broadcast kind payload s).dialog = s.dialog ∧ (broadcast kind payload s).standing = s.standing ∧
    (broadcast kind payload s).tariff = s.tariff ∧ (broadcast kind payload s).beam = s.beam ∧
    (broadcast kind payload s).lane = s.lane ∧ (broadcast kind payload s).journal = s.journal ∧
    (broadcast kind payload s).params = s.params ∧ (broadcast kind payload s).pins = s.pins ∧
    (broadcast kind payload s).now = s.now ∧ (broadcast kind payload s).second = s.second ∧
    (broadcast kind payload s).sent = s.sent ∧ (broadcast kind payload s).pending = s.pending := by
  simp [broadcast]

@[simp] theorem event_frame (e : Event) (s : State) :
    (event e s).dialog = s.dialog ∧ (event e s).standing = s.standing ∧ (event e s).tariff = s.tariff ∧
    (event e s).beam = s.beam ∧ (event e s).lane = s.lane ∧ (event e s).journal = s.journal ∧
    (event e s).params = s.params ∧ (event e s).pins = s.pins ∧ (event e s).now = s.now ∧
    (event e s).second = s.second ∧ (event e s).sent = s.sent ∧ (event e s).pending = s.pending := by
  simp only [event]
  repeat' split
  all_goals simp

@[simp] theorem broadcastSight_frame (r : Sighting) (s : State) :
    (broadcastSight r s).dialog = s.dialog ∧ (broadcastSight r s).standing = s.standing ∧
    (broadcastSight r s).tariff = s.tariff ∧ (broadcastSight r s).beam = s.beam ∧ (broadcastSight r s).lane = s.lane ∧
    (broadcastSight r s).journal = s.journal ∧ (broadcastSight r s).params = s.params ∧
    (broadcastSight r s).pins = s.pins ∧ (broadcastSight r s).now = s.now ∧ (broadcastSight r s).second = s.second ∧
    (broadcastSight r s).sent = s.sent ∧ (broadcastSight r s).pending = s.pending := by
  simp [broadcastSight]

@[simp] theorem broadcastSuspect_frame (c : Nat) (s : State) :
    (broadcastSuspect c s).dialog = s.dialog ∧ (broadcastSuspect c s).standing = s.standing ∧
    (broadcastSuspect c s).tariff = s.tariff ∧ (broadcastSuspect c s).beam = s.beam ∧
    (broadcastSuspect c s).lane = s.lane ∧ (broadcastSuspect c s).journal = s.journal ∧
    (broadcastSuspect c s).params = s.params ∧ (broadcastSuspect c s).pins = s.pins ∧
    (broadcastSuspect c s).now = s.now ∧ (broadcastSuspect c s).second = s.second ∧
    (broadcastSuspect c s).sent = s.sent ∧ (broadcastSuspect c s).pending = s.pending := by
  simp [broadcastSuspect]

/-! ### The journal -/

@[simp] theorem fullEvent_frame (n : Nat) (s : State) :
    (fullEvent n s).dialog = s.dialog ∧ (fullEvent n s).standing = s.standing ∧ (fullEvent n s).tariff = s.tariff ∧
    (fullEvent n s).beam = s.beam ∧ (fullEvent n s).lane = s.lane ∧ (fullEvent n s).journal = s.journal ∧
    (fullEvent n s).params = s.params ∧ (fullEvent n s).pins = s.pins ∧ (fullEvent n s).now = s.now ∧
    (fullEvent n s).second = s.second ∧ (fullEvent n s).sent = s.sent ∧ (fullEvent n s).pending = s.pending := by
  simp only [fullEvent]
  repeat' split
  all_goals simp

@[simp] theorem appendRecord_frame (take : Journal → Journal) (c : Content) (s : State) :
    (appendRecord take c s).dialog = s.dialog ∧ (appendRecord take c s).standing = s.standing ∧
    (appendRecord take c s).tariff = s.tariff ∧ (appendRecord take c s).beam = s.beam ∧
    (appendRecord take c s).lane = s.lane ∧ (appendRecord take c s).params = s.params ∧
    (appendRecord take c s).pins = s.pins ∧ (appendRecord take c s).now = s.now ∧
    (appendRecord take c s).second = s.second ∧ (appendRecord take c s).sent = s.sent ∧
    (appendRecord take c s).pending = s.pending := by
  simp only [appendRecord]
  repeat' split
  all_goals simp

@[simp] theorem appendReserved_frame (c : Content) (s : State) :
    (appendReserved c s).dialog = s.dialog ∧ (appendReserved c s).standing = s.standing ∧
    (appendReserved c s).tariff = s.tariff ∧ (appendReserved c s).beam = s.beam ∧ (appendReserved c s).lane = s.lane ∧
    (appendReserved c s).params = s.params ∧ (appendReserved c s).pins = s.pins ∧ (appendReserved c s).now = s.now ∧
    (appendReserved c s).second = s.second ∧ (appendReserved c s).sent = s.sent ∧
    (appendReserved c s).pending = s.pending := by
  simp [appendReserved]

@[simp] theorem appendHeld_frame (c : Content) (s : State) :
    (appendHeld c s).dialog = s.dialog ∧ (appendHeld c s).standing = s.standing ∧ (appendHeld c s).tariff = s.tariff ∧
    (appendHeld c s).beam = s.beam ∧ (appendHeld c s).lane = s.lane ∧ (appendHeld c s).params = s.params ∧
    (appendHeld c s).pins = s.pins ∧ (appendHeld c s).now = s.now ∧ (appendHeld c s).second = s.second ∧
    (appendHeld c s).sent = s.sent ∧ (appendHeld c s).pending = s.pending := by
  simp [appendHeld]

@[simp] theorem appendOpenRefusal_frame (c : Content) (s : State) :
    (appendOpenRefusal c s).dialog = s.dialog ∧ (appendOpenRefusal c s).standing = s.standing ∧
    (appendOpenRefusal c s).tariff = s.tariff ∧ (appendOpenRefusal c s).beam = s.beam ∧
    (appendOpenRefusal c s).lane = s.lane ∧ (appendOpenRefusal c s).params = s.params ∧
    (appendOpenRefusal c s).pins = s.pins ∧ (appendOpenRefusal c s).now = s.now ∧
    (appendOpenRefusal c s).second = s.second ∧ (appendOpenRefusal c s).sent = s.sent ∧
    (appendOpenRefusal c s).pending = s.pending := by
  simp only [appendOpenRefusal]
  repeat' split
  all_goals simp

@[simp] theorem appendReserve_frame (c : Content) (s : State) :
    (appendReserve c s).dialog = s.dialog ∧ (appendReserve c s).standing = s.standing ∧
    (appendReserve c s).tariff = s.tariff ∧ (appendReserve c s).beam = s.beam ∧ (appendReserve c s).lane = s.lane ∧
    (appendReserve c s).params = s.params ∧ (appendReserve c s).pins = s.pins ∧ (appendReserve c s).now = s.now ∧
    (appendReserve c s).second = s.second ∧ (appendReserve c s).sent = s.sent ∧
    (appendReserve c s).pending = s.pending := by
  simp only [appendReserve]
  repeat' split
  all_goals simp

@[simp] theorem reserveJournal_frame (s : State) :
    (reserveJournal s).dialog = s.dialog ∧ (reserveJournal s).standing = s.standing ∧
    (reserveJournal s).tariff = s.tariff ∧ (reserveJournal s).beam = s.beam ∧ (reserveJournal s).lane = s.lane ∧
    (reserveJournal s).params = s.params ∧ (reserveJournal s).pins = s.pins ∧ (reserveJournal s).now = s.now ∧
    (reserveJournal s).second = s.second ∧ (reserveJournal s).sent = s.sent ∧ (reserveJournal s).pending = s.pending := by
  simp [reserveJournal]

@[simp] theorem releaseJournal_frame (n : Nat) (s : State) :
    (releaseJournal n s).dialog = s.dialog ∧ (releaseJournal n s).standing = s.standing ∧
    (releaseJournal n s).tariff = s.tariff ∧ (releaseJournal n s).beam = s.beam ∧ (releaseJournal n s).lane = s.lane ∧
    (releaseJournal n s).line = s.line ∧ (releaseJournal n s).mgmt = s.mgmt ∧ (releaseJournal n s).params = s.params ∧
    (releaseJournal n s).pins = s.pins ∧ (releaseJournal n s).now = s.now ∧ (releaseJournal n s).second = s.second ∧
    (releaseJournal n s).sent = s.sent ∧ (releaseJournal n s).pending = s.pending := by
  simp [releaseJournal]

@[simp] theorem holdSlot_frame (s : State) :
    (holdSlot s).dialog = s.dialog ∧ (holdSlot s).standing = s.standing ∧ (holdSlot s).tariff = s.tariff ∧
    (holdSlot s).beam = s.beam ∧ (holdSlot s).lane = s.lane ∧ (holdSlot s).line = s.line ∧ (holdSlot s).mgmt = s.mgmt ∧
    (holdSlot s).params = s.params ∧ (holdSlot s).pins = s.pins ∧ (holdSlot s).now = s.now ∧
    (holdSlot s).second = s.second ∧ (holdSlot s).sent = s.sent ∧ (holdSlot s).pending = s.pending := by
  simp [holdSlot]

@[simp] theorem releaseHeld_frame (s : State) :
    (releaseHeld s).dialog = s.dialog ∧ (releaseHeld s).standing = s.standing ∧ (releaseHeld s).tariff = s.tariff ∧
    (releaseHeld s).beam = s.beam ∧ (releaseHeld s).lane = s.lane ∧ (releaseHeld s).line = s.line ∧
    (releaseHeld s).mgmt = s.mgmt ∧ (releaseHeld s).params = s.params ∧ (releaseHeld s).pins = s.pins ∧
    (releaseHeld s).now = s.now ∧ (releaseHeld s).second = s.second ∧ (releaseHeld s).sent = s.sent ∧
    (releaseHeld s).pending = s.pending := by
  simp [releaseHeld]

/-! ### Card standing -/

@[simp] theorem addFound_frame (o : DenyOrigin) (c : Nat) (s : State) :
    (addFound o c s).dialog = s.dialog ∧ (addFound o c s).tariff = s.tariff ∧ (addFound o c s).beam = s.beam ∧
    (addFound o c s).lane = s.lane ∧ (addFound o c s).journal = s.journal ∧ (addFound o c s).line = s.line ∧
    (addFound o c s).params = s.params ∧ (addFound o c s).pins = s.pins ∧ (addFound o c s).now = s.now ∧
    (addFound o c s).second = s.second ∧ (addFound o c s).sent = s.sent ∧ (addFound o c s).pending = s.pending := by
  simp only [addFound]
  repeat' split
  all_goals simp

@[simp] theorem touch_frame (c : Nat) (s : State) :
    (touch c s).dialog = s.dialog ∧ (touch c s).tariff = s.tariff ∧ (touch c s).beam = s.beam ∧
    (touch c s).lane = s.lane ∧ (touch c s).journal = s.journal ∧ (touch c s).line = s.line ∧
    (touch c s).mgmt = s.mgmt ∧ (touch c s).params = s.params ∧ (touch c s).pins = s.pins ∧ (touch c s).now = s.now ∧
    (touch c s).second = s.second ∧ (touch c s).sent = s.sent ∧ (touch c s).pending = s.pending := by
  simp only [touch]
  repeat' split
  all_goals simp

@[simp] theorem writeSighting_frame (r : Sighting) (s : State) :
    (writeSighting r s).dialog = s.dialog ∧ (writeSighting r s).tariff = s.tariff ∧ (writeSighting r s).beam = s.beam ∧
    (writeSighting r s).lane = s.lane ∧ (writeSighting r s).journal = s.journal ∧ (writeSighting r s).line = s.line ∧
    (writeSighting r s).mgmt = s.mgmt ∧ (writeSighting r s).params = s.params ∧ (writeSighting r s).pins = s.pins ∧
    (writeSighting r s).now = s.now ∧ (writeSighting r s).second = s.second ∧ (writeSighting r s).sent = s.sent ∧
    (writeSighting r s).pending = s.pending := by
  simp [writeSighting]

@[simp] theorem writeAndBroadcast_frame (r : Sighting) (s : State) :
    (writeAndBroadcast r s).dialog = s.dialog ∧ (writeAndBroadcast r s).tariff = s.tariff ∧
    (writeAndBroadcast r s).beam = s.beam ∧ (writeAndBroadcast r s).lane = s.lane ∧
    (writeAndBroadcast r s).journal = s.journal ∧ (writeAndBroadcast r s).params = s.params ∧
    (writeAndBroadcast r s).pins = s.pins ∧ (writeAndBroadcast r s).now = s.now ∧
    (writeAndBroadcast r s).second = s.second ∧ (writeAndBroadcast r s).sent = s.sent ∧
    (writeAndBroadcast r s).pending = s.pending := by
  simp [writeAndBroadcast]

@[simp] theorem lapseReport_frame (c : Nat) (d : Direction) (s : State) :
    (lapseReport c d s).dialog = s.dialog ∧ (lapseReport c d s).tariff = s.tariff ∧ (lapseReport c d s).beam = s.beam ∧
    (lapseReport c d s).lane = s.lane ∧ (lapseReport c d s).journal = s.journal ∧ (lapseReport c d s).line = s.line ∧
    (lapseReport c d s).mgmt = s.mgmt ∧ (lapseReport c d s).params = s.params ∧ (lapseReport c d s).pins = s.pins ∧
    (lapseReport c d s).now = s.now ∧ (lapseReport c d s).second = s.second ∧ (lapseReport c d s).sent = s.sent ∧
    (lapseReport c d s).pending = s.pending := by
  simp only [lapseReport]
  repeat' split
  all_goals simp

@[simp] theorem sightConflict_frame (r : Sighting) (s : State) :
    (sightConflict r s).dialog = s.dialog ∧ (sightConflict r s).tariff = s.tariff ∧ (sightConflict r s).beam = s.beam ∧
    (sightConflict r s).lane = s.lane ∧ (sightConflict r s).params = s.params ∧ (sightConflict r s).pins = s.pins ∧
    (sightConflict r s).now = s.now ∧ (sightConflict r s).second = s.second ∧ (sightConflict r s).sent = s.sent ∧
    (sightConflict r s).pending = s.pending := by
  simp [sightConflict]

@[simp] theorem mergeSighting_frame (r : Sighting) (s : State) :
    (mergeSighting r s).dialog = s.dialog ∧ (mergeSighting r s).tariff = s.tariff ∧ (mergeSighting r s).beam = s.beam ∧
    (mergeSighting r s).lane = s.lane ∧ (mergeSighting r s).params = s.params ∧ (mergeSighting r s).pins = s.pins ∧
    (mergeSighting r s).now = s.now ∧ (mergeSighting r s).second = s.second ∧ (mergeSighting r s).sent = s.sent ∧
    (mergeSighting r s).pending = s.pending := by
  simp only [mergeSighting]
  repeat' split
  all_goals simp

@[simp] theorem takeSight_frame (x : SightPayload) (s : State) :
    (takeSight x s).dialog = s.dialog ∧ (takeSight x s).tariff = s.tariff ∧ (takeSight x s).beam = s.beam ∧
    (takeSight x s).lane = s.lane ∧ (takeSight x s).params = s.params ∧ (takeSight x s).pins = s.pins ∧
    (takeSight x s).now = s.now ∧ (takeSight x s).second = s.second ∧ (takeSight x s).sent = s.sent ∧
    (takeSight x s).pending = s.pending := by
  simp only [takeSight]
  repeat' split
  all_goals simp

@[simp] theorem takeSuspect_frame (x : SuspectPayload) (s : State) :
    (takeSuspect x s).dialog = s.dialog ∧ (takeSuspect x s).tariff = s.tariff ∧ (takeSuspect x s).beam = s.beam ∧
    (takeSuspect x s).lane = s.lane ∧ (takeSuspect x s).journal = s.journal ∧ (takeSuspect x s).line = s.line ∧
    (takeSuspect x s).params = s.params ∧ (takeSuspect x s).pins = s.pins ∧ (takeSuspect x s).now = s.now ∧
    (takeSuspect x s).second = s.second ∧ (takeSuspect x s).sent = s.sent ∧ (takeSuspect x s).pending = s.pending := by
  simp only [takeSuspect]
  repeat' split
  all_goals simp

@[simp] theorem appendClone_frame (p : Port) (c : Content) (s : State) :
    (appendClone p c s).standing = s.standing ∧ (appendClone p c s).tariff = s.tariff ∧
    (appendClone p c s).beam = s.beam ∧ (appendClone p c s).lane = s.lane ∧ (appendClone p c s).params = s.params ∧
    (appendClone p c s).pins = s.pins ∧ (appendClone p c s).now = s.now ∧ (appendClone p c s).second = s.second ∧
    (appendClone p c s).sent = s.sent ∧ (appendClone p c s).pending = s.pending := by
  simp only [appendClone]
  repeat' split
  all_goals simp

@[simp] theorem cloneFinding_frame (p : Port) (c : Nat) (r : CloneReason) (n : Nat) (b : Int) (s : State) :
    (cloneFinding p c r n b s).tariff = s.tariff ∧ (cloneFinding p c r n b s).beam = s.beam ∧
    (cloneFinding p c r n b s).lane = s.lane ∧ (cloneFinding p c r n b s).params = s.params ∧
    (cloneFinding p c r n b s).pins = s.pins ∧ (cloneFinding p c r n b s).now = s.now ∧
    (cloneFinding p c r n b s).second = s.second ∧ (cloneFinding p c r n b s).sent = s.sent ∧
    (cloneFinding p c r n b s).pending = s.pending := by
  simp [cloneFinding]

@[simp] theorem removeRecovery_frame (e : RecoveryEntry) (s : State) :
    (removeRecovery e s).dialog = s.dialog ∧ (removeRecovery e s).tariff = s.tariff ∧
    (removeRecovery e s).beam = s.beam ∧ (removeRecovery e s).lane = s.lane ∧
    (removeRecovery e s).journal = s.journal ∧ (removeRecovery e s).line = s.line ∧
    (removeRecovery e s).mgmt = s.mgmt ∧ (removeRecovery e s).params = s.params ∧ (removeRecovery e s).pins = s.pins ∧
    (removeRecovery e s).now = s.now ∧ (removeRecovery e s).second = s.second ∧ (removeRecovery e s).sent = s.sent ∧
    (removeRecovery e s).pending = s.pending := by
  simp [removeRecovery]

@[simp] theorem resolveUnresolved_frame (e : RecoveryEntry) (r : UnresolvedReason) (s : State) :
    (resolveUnresolved e r s).dialog = s.dialog ∧ (resolveUnresolved e r s).tariff = s.tariff ∧
    (resolveUnresolved e r s).beam = s.beam ∧ (resolveUnresolved e r s).lane = s.lane ∧
    (resolveUnresolved e r s).params = s.params ∧ (resolveUnresolved e r s).pins = s.pins ∧
    (resolveUnresolved e r s).now = s.now ∧ (resolveUnresolved e r s).second = s.second ∧
    (resolveUnresolved e r s).sent = s.sent ∧ (resolveUnresolved e r s).pending = s.pending := by
  simp [resolveUnresolved]

@[simp] theorem resolveRecovered_frame (e : RecoveryEntry) (s : State) :
    (resolveRecovered e s).dialog = s.dialog ∧ (resolveRecovered e s).tariff = s.tariff ∧
    (resolveRecovered e s).beam = s.beam ∧ (resolveRecovered e s).lane = s.lane ∧
    (resolveRecovered e s).params = s.params ∧ (resolveRecovered e s).pins = s.pins ∧
    (resolveRecovered e s).now = s.now ∧ (resolveRecovered e s).second = s.second ∧
    (resolveRecovered e s).sent = s.sent ∧ (resolveRecovered e s).pending = s.pending := by
  simp [resolveRecovered]

@[simp] theorem notApplied_frame (e : RecoveryEntry) (s : State) :
    (notApplied e s).dialog = s.dialog ∧ (notApplied e s).tariff = s.tariff ∧ (notApplied e s).beam = s.beam ∧
    (notApplied e s).lane = s.lane ∧ (notApplied e s).line = s.line ∧ (notApplied e s).mgmt = s.mgmt ∧
    (notApplied e s).params = s.params ∧ (notApplied e s).pins = s.pins ∧ (notApplied e s).now = s.now ∧
    (notApplied e s).second = s.second ∧ (notApplied e s).sent = s.sent ∧ (notApplied e s).pending = s.pending := by
  simp [notApplied]

@[simp] theorem displace_frame (s : State) :
    (displace s).dialog = s.dialog ∧ (displace s).tariff = s.tariff ∧ (displace s).beam = s.beam ∧
    (displace s).lane = s.lane ∧ (displace s).params = s.params ∧ (displace s).pins = s.pins ∧
    (displace s).now = s.now ∧ (displace s).second = s.second ∧ (displace s).sent = s.sent ∧
    (displace s).pending = s.pending := by
  simp only [displace]
  repeat' split
  all_goals simp

@[simp] theorem createRecovery_frame (e : RecoveryEntry) (s : State) :
    (createRecovery e s).dialog = s.dialog ∧ (createRecovery e s).tariff = s.tariff ∧
    (createRecovery e s).beam = s.beam ∧ (createRecovery e s).lane = s.lane ∧ (createRecovery e s).params = s.params ∧
    (createRecovery e s).pins = s.pins ∧ (createRecovery e s).now = s.now ∧ (createRecovery e s).second = s.second ∧
    (createRecovery e s).sent = s.sent ∧ (createRecovery e s).pending = s.pending := by
  simp [createRecovery]

@[simp] theorem joinInFlight_frame (p : Port) (c : Nat) (s : State) :
    (joinInFlight p c s).tariff = s.tariff ∧ (joinInFlight p c s).beam = s.beam ∧ (joinInFlight p c s).lane = s.lane ∧
    (joinInFlight p c s).journal = s.journal ∧ (joinInFlight p c s).line = s.line ∧
    (joinInFlight p c s).mgmt = s.mgmt ∧ (joinInFlight p c s).params = s.params ∧ (joinInFlight p c s).pins = s.pins ∧
    (joinInFlight p c s).now = s.now ∧ (joinInFlight p c s).second = s.second ∧ (joinInFlight p c s).sent = s.sent ∧
    (joinInFlight p c s).pending = s.pending := by
  simp [joinInFlight]

@[simp] theorem withdraw_frame (p : Port) (s : State) :
    (withdraw p s).tariff = s.tariff ∧ (withdraw p s).beam = s.beam ∧ (withdraw p s).lane = s.lane ∧
    (withdraw p s).journal = s.journal ∧ (withdraw p s).line = s.line ∧ (withdraw p s).mgmt = s.mgmt ∧
    (withdraw p s).params = s.params ∧ (withdraw p s).pins = s.pins ∧ (withdraw p s).now = s.now ∧
    (withdraw p s).second = s.second ∧ (withdraw p s).sent = s.sent ∧ (withdraw p s).pending = s.pending := by
  simp only [withdraw]
  repeat' split
  all_goals simp

/-! ### The lane -/

@[simp] theorem startMotion_frame (f : Flap) (s : State) :
    (startMotion f s).dialog = s.dialog ∧ (startMotion f s).standing = s.standing ∧
    (startMotion f s).tariff = s.tariff ∧ (startMotion f s).beam = s.beam ∧ (startMotion f s).journal = s.journal ∧
    (startMotion f s).line = s.line ∧ (startMotion f s).mgmt = s.mgmt ∧ (startMotion f s).params = s.params ∧
    (startMotion f s).pins = s.pins ∧ (startMotion f s).now = s.now ∧ (startMotion f s).second = s.second ∧
    (startMotion f s).sent = s.sent ∧ (startMotion f s).pending = s.pending := by
  simp [startMotion]

@[simp] theorem openTest_frame (s : State) :
    (openTest s).dialog = s.dialog ∧ (openTest s).standing = s.standing ∧ (openTest s).tariff = s.tariff ∧
    (openTest s).beam = s.beam ∧ (openTest s).journal = s.journal ∧ (openTest s).line = s.line ∧
    (openTest s).mgmt = s.mgmt ∧ (openTest s).params = s.params ∧ (openTest s).pins = s.pins ∧
    (openTest s).now = s.now ∧ (openTest s).second = s.second ∧ (openTest s).sent = s.sent ∧
    (openTest s).pending = s.pending := by
  simp only [openTest]
  repeat' split
  all_goals simp

@[simp] theorem closeTest_frame (s : State) :
    (closeTest s).dialog = s.dialog ∧ (closeTest s).standing = s.standing ∧ (closeTest s).tariff = s.tariff ∧
    (closeTest s).beam = s.beam ∧ (closeTest s).journal = s.journal ∧ (closeTest s).line = s.line ∧
    (closeTest s).mgmt = s.mgmt ∧ (closeTest s).params = s.params ∧ (closeTest s).pins = s.pins ∧
    (closeTest s).now = s.now ∧ (closeTest s).second = s.second ∧ (closeTest s).sent = s.sent ∧
    (closeTest s).pending = s.pending := by
  simp only [closeTest]
  repeat' split
  all_goals simp

@[simp] theorem startCloseDelay_frame (s : State) :
    (startCloseDelay s).dialog = s.dialog ∧ (startCloseDelay s).standing = s.standing ∧
    (startCloseDelay s).tariff = s.tariff ∧ (startCloseDelay s).beam = s.beam ∧
    (startCloseDelay s).journal = s.journal ∧ (startCloseDelay s).line = s.line ∧ (startCloseDelay s).mgmt = s.mgmt ∧
    (startCloseDelay s).params = s.params ∧ (startCloseDelay s).pins = s.pins ∧ (startCloseDelay s).now = s.now ∧
    (startCloseDelay s).second = s.second ∧ (startCloseDelay s).sent = s.sent ∧
    (startCloseDelay s).pending = s.pending := by
  simp [startCloseDelay]

@[simp] theorem flapZoneReport_frame (b : Bool) (s : State) :
    (flapZoneReport b s).dialog = s.dialog ∧ (flapZoneReport b s).standing = s.standing ∧
    (flapZoneReport b s).tariff = s.tariff ∧ (flapZoneReport b s).beam = s.beam ∧
    (flapZoneReport b s).journal = s.journal ∧ (flapZoneReport b s).line = s.line ∧
    (flapZoneReport b s).mgmt = s.mgmt ∧ (flapZoneReport b s).params = s.params ∧ (flapZoneReport b s).pins = s.pins ∧
    (flapZoneReport b s).now = s.now ∧ (flapZoneReport b s).second = s.second ∧ (flapZoneReport b s).sent = s.sent ∧
    (flapZoneReport b s).pending = s.pending := by
  simp only [flapZoneReport]
  repeat' split
  all_goals simp

@[simp] theorem arbitrate_frame (s : State) :
    (arbitrate s).dialog = s.dialog ∧ (arbitrate s).standing = s.standing ∧ (arbitrate s).tariff = s.tariff ∧
    (arbitrate s).beam = s.beam ∧ (arbitrate s).journal = s.journal ∧ (arbitrate s).line = s.line ∧
    (arbitrate s).mgmt = s.mgmt ∧ (arbitrate s).params = s.params ∧ (arbitrate s).pins = s.pins ∧
    (arbitrate s).now = s.now ∧ (arbitrate s).second = s.second ∧ (arbitrate s).sent = s.sent ∧
    (arbitrate s).pending = s.pending := by
  simp only [arbitrate]
  repeat' split
  all_goals simp

@[simp] theorem releaseTest_frame (s : State) :
    (releaseTest s).dialog = s.dialog ∧ (releaseTest s).standing = s.standing ∧ (releaseTest s).tariff = s.tariff ∧
    (releaseTest s).beam = s.beam ∧ (releaseTest s).journal = s.journal ∧ (releaseTest s).line = s.line ∧
    (releaseTest s).mgmt = s.mgmt ∧ (releaseTest s).params = s.params ∧ (releaseTest s).pins = s.pins ∧
    (releaseTest s).now = s.now ∧ (releaseTest s).second = s.second ∧ (releaseTest s).sent = s.sent ∧
    (releaseTest s).pending = s.pending := by
  simp only [releaseTest]
  repeat' split
  all_goals simp

@[simp] theorem reserveCredit_frame (d : Direction) (s : State) :
    (reserveCredit d s).dialog = s.dialog ∧ (reserveCredit d s).standing = s.standing ∧
    (reserveCredit d s).tariff = s.tariff ∧ (reserveCredit d s).beam = s.beam ∧
    (reserveCredit d s).journal = s.journal ∧ (reserveCredit d s).line = s.line ∧ (reserveCredit d s).mgmt = s.mgmt ∧
    (reserveCredit d s).params = s.params ∧ (reserveCredit d s).pins = s.pins ∧ (reserveCredit d s).now = s.now ∧
    (reserveCredit d s).second = s.second ∧ (reserveCredit d s).sent = s.sent ∧
    (reserveCredit d s).pending = s.pending := by
  simp [reserveCredit]

@[simp] theorem releaseCredit_frame (d : Direction) (s : State) :
    (releaseCredit d s).dialog = s.dialog ∧ (releaseCredit d s).standing = s.standing ∧
    (releaseCredit d s).tariff = s.tariff ∧ (releaseCredit d s).beam = s.beam ∧
    (releaseCredit d s).journal = s.journal ∧ (releaseCredit d s).line = s.line ∧ (releaseCredit d s).mgmt = s.mgmt ∧
    (releaseCredit d s).params = s.params ∧ (releaseCredit d s).pins = s.pins ∧ (releaseCredit d s).now = s.now ∧
    (releaseCredit d s).second = s.second ∧ (releaseCredit d s).sent = s.sent ∧
    (releaseCredit d s).pending = s.pending := by
  simp [releaseCredit]

@[simp] theorem creditLeft_frame (d : Direction) (s : State) :
    (creditLeft d s).dialog = s.dialog ∧ (creditLeft d s).standing = s.standing ∧ (creditLeft d s).tariff = s.tariff ∧
    (creditLeft d s).beam = s.beam ∧ (creditLeft d s).journal = s.journal ∧ (creditLeft d s).line = s.line ∧
    (creditLeft d s).mgmt = s.mgmt ∧ (creditLeft d s).params = s.params ∧ (creditLeft d s).pins = s.pins ∧
    (creditLeft d s).now = s.now ∧ (creditLeft d s).second = s.second ∧ (creditLeft d s).sent = s.sent ∧
    (creditLeft d s).pending = s.pending := by
  simp only [creditLeft]
  repeat' split
  all_goals simp

@[simp] theorem lapse_frame (d : Direction) (c : Credit) (r : LapseReason) (s : State) :
    (lapse d c r s).dialog = s.dialog ∧ (lapse d c r s).tariff = s.tariff ∧ (lapse d c r s).beam = s.beam ∧
    (lapse d c r s).params = s.params ∧ (lapse d c r s).pins = s.pins ∧ (lapse d c r s).now = s.now ∧
    (lapse d c r s).second = s.second ∧ (lapse d c r s).sent = s.sent ∧ (lapse d c r s).pending = s.pending := by
  simp [lapse]

@[simp] theorem flush_frame (d : Direction) (s : State) :
    (flush d s).dialog = s.dialog ∧ (flush d s).tariff = s.tariff ∧ (flush d s).beam = s.beam ∧
    (flush d s).params = s.params ∧ (flush d s).pins = s.pins ∧ (flush d s).now = s.now ∧
    (flush d s).second = s.second ∧ (flush d s).sent = s.sent ∧ (flush d s).pending = s.pending := by
  unfold flush
  refine ⟨?_, ?_, ?_, ?_, ?_, ?_, ?_, ?_, ?_⟩ <;> exact foldl_frame _ _ (by simp) _ _

@[simp] theorem joinCredit_frame (d : Direction) (k : CreditKind) (c : Nat) (s : State) :
    (joinCredit d k c s).dialog = s.dialog ∧ (joinCredit d k c s).tariff = s.tariff ∧
    (joinCredit d k c s).beam = s.beam ∧ (joinCredit d k c s).params = s.params ∧ (joinCredit d k c s).pins = s.pins ∧
    (joinCredit d k c s).now = s.now ∧ (joinCredit d k c s).second = s.second ∧ (joinCredit d k c s).sent = s.sent ∧
    (joinCredit d k c s).pending = s.pending := by
  simp only [joinCredit]
  repeat' split
  all_goals simp

@[simp] theorem makeBrisk_frame (s : State) :
    (makeBrisk s).dialog = s.dialog ∧ (makeBrisk s).standing = s.standing ∧ (makeBrisk s).tariff = s.tariff ∧
    (makeBrisk s).beam = s.beam ∧ (makeBrisk s).journal = s.journal ∧ (makeBrisk s).line = s.line ∧
    (makeBrisk s).mgmt = s.mgmt ∧ (makeBrisk s).params = s.params ∧ (makeBrisk s).pins = s.pins ∧
    (makeBrisk s).now = s.now ∧ (makeBrisk s).second = s.second ∧ (makeBrisk s).sent = s.sent ∧
    (makeBrisk s).pending = s.pending := by
  simp [makeBrisk]

@[simp] theorem tallyStep_frame (d : Direction) (s : State) :
    (tallyStep d s).dialog = s.dialog ∧ (tallyStep d s).standing = s.standing ∧ (tallyStep d s).tariff = s.tariff ∧
    (tallyStep d s).beam = s.beam ∧ (tallyStep d s).journal = s.journal ∧ (tallyStep d s).line = s.line ∧
    (tallyStep d s).params = s.params ∧ (tallyStep d s).pins = s.pins ∧ (tallyStep d s).now = s.now ∧
    (tallyStep d s).second = s.second ∧ (tallyStep d s).sent = s.sent ∧ (tallyStep d s).pending = s.pending := by
  simp only [tallyStep]
  repeat' split
  all_goals simp

@[simp] theorem intrusion_frame (d : Option Direction) (r : IntrusionReason) (s : State) :
    (intrusion d r s).dialog = s.dialog ∧ (intrusion d r s).standing = s.standing ∧
    (intrusion d r s).tariff = s.tariff ∧ (intrusion d r s).beam = s.beam ∧ (intrusion d r s).lane = s.lane ∧
    (intrusion d r s).params = s.params ∧ (intrusion d r s).pins = s.pins ∧ (intrusion d r s).now = s.now ∧
    (intrusion d r s).second = s.second ∧ (intrusion d r s).sent = s.sent ∧ (intrusion d r s).pending = s.pending := by
  simp [intrusion]

@[simp] theorem tailgate_frame (d : Direction) (c : Nat) (s : State) :
    (tailgate d c s).dialog = s.dialog ∧ (tailgate d c s).standing = s.standing ∧ (tailgate d c s).tariff = s.tariff ∧
    (tailgate d c s).beam = s.beam ∧ (tailgate d c s).lane = s.lane ∧ (tailgate d c s).params = s.params ∧
    (tailgate d c s).pins = s.pins ∧ (tailgate d c s).now = s.now ∧ (tailgate d c s).second = s.second ∧
    (tailgate d c s).sent = s.sent ∧ (tailgate d c s).pending = s.pending := by
  simp [tailgate]

@[simp] theorem pay_frame (d : Direction) (long : Bool) (c : Credit) (rest : List Credit) (s : State) :
    (pay d long c rest s).dialog = s.dialog ∧ (pay d long c rest s).standing = s.standing ∧
    (pay d long c rest s).tariff = s.tariff ∧ (pay d long c rest s).beam = s.beam ∧
    (pay d long c rest s).params = s.params ∧ (pay d long c rest s).pins = s.pins ∧ (pay d long c rest s).now = s.now ∧
    (pay d long c rest s).second = s.second ∧ (pay d long c rest s).sent = s.sent ∧
    (pay d long c rest s).pending = s.pending := by
  simp only [pay]
  repeat' split
  all_goals simp

@[simp] theorem freeCrossing_frame (s : State) :
    (freeCrossing s).dialog = s.dialog ∧ (freeCrossing s).standing = s.standing ∧ (freeCrossing s).tariff = s.tariff ∧
    (freeCrossing s).beam = s.beam ∧ (freeCrossing s).journal = s.journal ∧ (freeCrossing s).line = s.line ∧
    (freeCrossing s).mgmt = s.mgmt ∧ (freeCrossing s).params = s.params ∧ (freeCrossing s).pins = s.pins ∧
    (freeCrossing s).now = s.now ∧ (freeCrossing s).second = s.second ∧ (freeCrossing s).sent = s.sent ∧
    (freeCrossing s).pending = s.pending := by
  simp [freeCrossing]

@[simp] theorem judgeCrossing_frame (d : Direction) (long : Bool) (s : State) :
    (judgeCrossing d long s).dialog = s.dialog ∧ (judgeCrossing d long s).standing = s.standing ∧
    (judgeCrossing d long s).tariff = s.tariff ∧ (judgeCrossing d long s).beam = s.beam ∧
    (judgeCrossing d long s).params = s.params ∧ (judgeCrossing d long s).pins = s.pins ∧
    (judgeCrossing d long s).now = s.now ∧ (judgeCrossing d long s).second = s.second ∧
    (judgeCrossing d long s).sent = s.sent ∧ (judgeCrossing d long s).pending = s.pending := by
  simp only [judgeCrossing]
  repeat' split
  all_goals simp

@[simp] theorem crossing_frame (d : Direction) (long : Bool) (s : State) :
    (crossing d long s).dialog = s.dialog ∧ (crossing d long s).standing = s.standing ∧
    (crossing d long s).tariff = s.tariff ∧ (crossing d long s).beam = s.beam ∧ (crossing d long s).params = s.params ∧
    (crossing d long s).pins = s.pins ∧ (crossing d long s).now = s.now ∧ (crossing d long s).second = s.second ∧
    (crossing d long s).sent = s.sent ∧ (crossing d long s).pending = s.pending := by
  simp [crossing]

/-! ### The dialogs -/

@[simp] theorem flushShow_frame (p : Port) (s : State) :
    (flushShow p s).standing = s.standing ∧ (flushShow p s).tariff = s.tariff ∧ (flushShow p s).beam = s.beam ∧
    (flushShow p s).lane = s.lane ∧ (flushShow p s).journal = s.journal ∧ (flushShow p s).line = s.line ∧
    (flushShow p s).mgmt = s.mgmt ∧ (flushShow p s).params = s.params ∧ (flushShow p s).pins = s.pins ∧
    (flushShow p s).now = s.now ∧ (flushShow p s).second = s.second ∧ (flushShow p s).pending = s.pending := by
  simp only [flushShow]
  repeat' split
  all_goals simp

@[simp] theorem showNow_frame (p : Port) (w : Show) (s : State) :
    (showNow p w s).standing = s.standing ∧ (showNow p w s).tariff = s.tariff ∧ (showNow p w s).beam = s.beam ∧
    (showNow p w s).lane = s.lane ∧ (showNow p w s).journal = s.journal ∧ (showNow p w s).line = s.line ∧
    (showNow p w s).mgmt = s.mgmt ∧ (showNow p w s).params = s.params ∧ (showNow p w s).pins = s.pins ∧
    (showNow p w s).now = s.now ∧ (showNow p w s).second = s.second ∧ (showNow p w s).pending = s.pending := by
  simp [showNow]

@[simp] theorem endVerb_frame (p : Port) (s : State) :
    (endVerb p s).standing = s.standing ∧ (endVerb p s).tariff = s.tariff ∧ (endVerb p s).beam = s.beam ∧
    (endVerb p s).lane = s.lane ∧ (endVerb p s).journal = s.journal ∧ (endVerb p s).line = s.line ∧
    (endVerb p s).mgmt = s.mgmt ∧ (endVerb p s).params = s.params ∧ (endVerb p s).pins = s.pins ∧
    (endVerb p s).now = s.now ∧ (endVerb p s).second = s.second ∧ (endVerb p s).pending = s.pending := by
  simp [endVerb]

@[simp] theorem drawChallenge_frame (u : Purpose) (s : State) :
    (drawChallenge u s).standing = s.standing ∧ (drawChallenge u s).tariff = s.tariff ∧
    (drawChallenge u s).beam = s.beam ∧ (drawChallenge u s).lane = s.lane ∧ (drawChallenge u s).journal = s.journal ∧
    (drawChallenge u s).line = s.line ∧ (drawChallenge u s).mgmt = s.mgmt ∧ (drawChallenge u s).params = s.params ∧
    (drawChallenge u s).pins = s.pins ∧ (drawChallenge u s).now = s.now ∧ (drawChallenge u s).second = s.second ∧
    (drawChallenge u s).sent = s.sent ∧ (drawChallenge u s).pending = s.pending := by
  simp only [drawChallenge]
  repeat' split
  all_goals simp

@[simp] theorem issue_frame (p : Port) (u : Purpose) (s : State) :
    (issue p u s).standing = s.standing ∧ (issue p u s).tariff = s.tariff ∧ (issue p u s).beam = s.beam ∧
    (issue p u s).lane = s.lane ∧ (issue p u s).journal = s.journal ∧ (issue p u s).line = s.line ∧
    (issue p u s).mgmt = s.mgmt ∧ (issue p u s).params = s.params ∧ (issue p u s).pins = s.pins ∧
    (issue p u s).now = s.now ∧ (issue p u s).second = s.second ∧ (issue p u s).pending = s.pending := by
  simp [issue]

@[simp] theorem issueFirst_frame (p : Port) (u : Purpose) (s : State) :
    (issueFirst p u s).standing = s.standing ∧ (issueFirst p u s).tariff = s.tariff ∧
    (issueFirst p u s).beam = s.beam ∧ (issueFirst p u s).lane = s.lane ∧ (issueFirst p u s).journal = s.journal ∧
    (issueFirst p u s).line = s.line ∧ (issueFirst p u s).mgmt = s.mgmt ∧ (issueFirst p u s).params = s.params ∧
    (issueFirst p u s).pins = s.pins ∧ (issueFirst p u s).now = s.now ∧ (issueFirst p u s).second = s.second ∧
    (issueFirst p u s).pending = s.pending := by
  simp [issueFirst]

@[simp] theorem startPoll_frame (p : Port) (s : State) :
    (startPoll p s).standing = s.standing ∧ (startPoll p s).tariff = s.tariff ∧ (startPoll p s).beam = s.beam ∧
    (startPoll p s).lane = s.lane ∧ (startPoll p s).journal = s.journal ∧ (startPoll p s).line = s.line ∧
    (startPoll p s).mgmt = s.mgmt ∧ (startPoll p s).params = s.params ∧ (startPoll p s).pins = s.pins ∧
    (startPoll p s).now = s.now ∧ (startPoll p s).second = s.second ∧ (startPoll p s).sent = s.sent ∧
    (startPoll p s).pending = s.pending := by
  simp [startPoll]

@[simp] theorem toIdle_frame (p : Port) (s : State) :
    (toIdle p s).standing = s.standing ∧ (toIdle p s).tariff = s.tariff ∧ (toIdle p s).beam = s.beam ∧
    (toIdle p s).lane = s.lane ∧ (toIdle p s).journal = s.journal ∧ (toIdle p s).line = s.line ∧
    (toIdle p s).mgmt = s.mgmt ∧ (toIdle p s).params = s.params ∧ (toIdle p s).pins = s.pins ∧
    (toIdle p s).now = s.now ∧ (toIdle p s).second = s.second ∧ (toIdle p s).sent = s.sent ∧
    (toIdle p s).pending = s.pending := by
  simp [toIdle]

@[simp] theorem toHolding_frame (p : Port) (s : State) :
    (toHolding p s).standing = s.standing ∧ (toHolding p s).tariff = s.tariff ∧ (toHolding p s).beam = s.beam ∧
    (toHolding p s).lane = s.lane ∧ (toHolding p s).journal = s.journal ∧ (toHolding p s).line = s.line ∧
    (toHolding p s).mgmt = s.mgmt ∧ (toHolding p s).params = s.params ∧ (toHolding p s).pins = s.pins ∧
    (toHolding p s).now = s.now ∧ (toHolding p s).second = s.second ∧ (toHolding p s).sent = s.sent ∧
    (toHolding p s).pending = s.pending := by
  simp only [toHolding]
  repeat' split
  all_goals simp

@[simp] theorem startDialog_frame (p : Port) (c : Nat) (s : State) :
    (startDialog p c s).standing = s.standing ∧ (startDialog p c s).tariff = s.tariff ∧
    (startDialog p c s).beam = s.beam ∧ (startDialog p c s).journal = s.journal ∧ (startDialog p c s).line = s.line ∧
    (startDialog p c s).mgmt = s.mgmt ∧ (startDialog p c s).params = s.params ∧ (startDialog p c s).pins = s.pins ∧
    (startDialog p c s).now = s.now ∧ (startDialog p c s).second = s.second ∧ (startDialog p c s).pending = s.pending := by
  simp [startDialog]

@[simp] theorem droppedVerbEnds_frame (p : Port) (s : State) :
    (droppedVerbEnds p s).standing = s.standing ∧ (droppedVerbEnds p s).tariff = s.tariff ∧
    (droppedVerbEnds p s).beam = s.beam ∧ (droppedVerbEnds p s).lane = s.lane ∧
    (droppedVerbEnds p s).journal = s.journal ∧ (droppedVerbEnds p s).line = s.line ∧
    (droppedVerbEnds p s).mgmt = s.mgmt ∧ (droppedVerbEnds p s).params = s.params ∧
    (droppedVerbEnds p s).pins = s.pins ∧ (droppedVerbEnds p s).now = s.now ∧ (droppedVerbEnds p s).second = s.second ∧
    (droppedVerbEnds p s).pending = s.pending := by
  simp [droppedVerbEnds]

@[simp] theorem dropCreditRes_frame (p : Port) (s : State) :
    (dropCreditRes p s).standing = s.standing ∧ (dropCreditRes p s).tariff = s.tariff ∧
    (dropCreditRes p s).beam = s.beam ∧ (dropCreditRes p s).journal = s.journal ∧ (dropCreditRes p s).line = s.line ∧
    (dropCreditRes p s).mgmt = s.mgmt ∧ (dropCreditRes p s).params = s.params ∧ (dropCreditRes p s).pins = s.pins ∧
    (dropCreditRes p s).now = s.now ∧ (dropCreditRes p s).second = s.second ∧ (dropCreditRes p s).sent = s.sent ∧
    (dropCreditRes p s).pending = s.pending := by
  simp only [dropCreditRes]
  repeat' split
  all_goals simp

@[simp] theorem dropJournalRes_frame (p : Port) (s : State) :
    (dropJournalRes p s).standing = s.standing ∧ (dropJournalRes p s).tariff = s.tariff ∧
    (dropJournalRes p s).beam = s.beam ∧ (dropJournalRes p s).lane = s.lane ∧ (dropJournalRes p s).line = s.line ∧
    (dropJournalRes p s).mgmt = s.mgmt ∧ (dropJournalRes p s).params = s.params ∧ (dropJournalRes p s).pins = s.pins ∧
    (dropJournalRes p s).now = s.now ∧ (dropJournalRes p s).second = s.second ∧ (dropJournalRes p s).sent = s.sent ∧
    (dropJournalRes p s).pending = s.pending := by
  simp [dropJournalRes]

@[simp] theorem refusalRecord_frame (p : Port) (code : RefusalCode) (s : State) :
    (refusalRecord p code s).standing = s.standing ∧ (refusalRecord p code s).tariff = s.tariff ∧
    (refusalRecord p code s).beam = s.beam ∧ (refusalRecord p code s).lane = s.lane ∧
    (refusalRecord p code s).params = s.params ∧ (refusalRecord p code s).pins = s.pins ∧
    (refusalRecord p code s).now = s.now ∧ (refusalRecord p code s).second = s.second ∧
    (refusalRecord p code s).sent = s.sent ∧ (refusalRecord p code s).pending = s.pending := by
  simp only [refusalRecord]
  repeat' split
  all_goals simp

@[simp] theorem refuse_frame (p : Port) (code : RefusalCode) (mark : Bool) (amount : Option Nat) (s : State) :
    (refuse p code mark amount s).tariff = s.tariff ∧ (refuse p code mark amount s).beam = s.beam ∧
    (refuse p code mark amount s).params = s.params ∧ (refuse p code mark amount s).pins = s.pins ∧
    (refuse p code mark amount s).now = s.now ∧ (refuse p code mark amount s).second = s.second ∧
    (refuse p code mark amount s).pending = s.pending := by
  simp only [refuse]
  repeat' split
  all_goals simp

@[simp] theorem markEnds_frame (p : Port) (lost : Bool) (s : State) :
    (markEnds p lost s).tariff = s.tariff ∧ (markEnds p lost s).beam = s.beam ∧ (markEnds p lost s).lane = s.lane ∧
    (markEnds p lost s).journal = s.journal ∧ (markEnds p lost s).line = s.line ∧ (markEnds p lost s).mgmt = s.mgmt ∧
    (markEnds p lost s).params = s.params ∧ (markEnds p lost s).pins = s.pins ∧ (markEnds p lost s).now = s.now ∧
    (markEnds p lost s).second = s.second ∧ (markEnds p lost s).pending = s.pending := by
  simp only [markEnds]
  repeat' split
  all_goals simp

@[simp] theorem tryAgain_frame (p : Port) (lost : Bool) (s : State) :
    (tryAgain p lost s).standing = s.standing ∧ (tryAgain p lost s).tariff = s.tariff ∧
    (tryAgain p lost s).beam = s.beam ∧ (tryAgain p lost s).lane = s.lane ∧ (tryAgain p lost s).journal = s.journal ∧
    (tryAgain p lost s).line = s.line ∧ (tryAgain p lost s).mgmt = s.mgmt ∧ (tryAgain p lost s).params = s.params ∧
    (tryAgain p lost s).pins = s.pins ∧ (tryAgain p lost s).now = s.now ∧ (tryAgain p lost s).second = s.second ∧
    (tryAgain p lost s).pending = s.pending := by
  simp only [tryAgain]
  repeat' split
  all_goals simp

@[simp] theorem takeCreditRes_frame (p : Port) (s : State) :
    (takeCreditRes p s).standing = s.standing ∧ (takeCreditRes p s).tariff = s.tariff ∧
    (takeCreditRes p s).beam = s.beam ∧ (takeCreditRes p s).journal = s.journal ∧ (takeCreditRes p s).line = s.line ∧
    (takeCreditRes p s).mgmt = s.mgmt ∧ (takeCreditRes p s).params = s.params ∧ (takeCreditRes p s).pins = s.pins ∧
    (takeCreditRes p s).now = s.now ∧ (takeCreditRes p s).second = s.second ∧ (takeCreditRes p s).sent = s.sent ∧
    (takeCreditRes p s).pending = s.pending := by
  simp [takeCreditRes]

@[simp] theorem takeJournalRes_frame (p : Port) (s : State) :
    (takeJournalRes p s).standing = s.standing ∧ (takeJournalRes p s).tariff = s.tariff ∧
    (takeJournalRes p s).beam = s.beam ∧ (takeJournalRes p s).lane = s.lane ∧ (takeJournalRes p s).params = s.params ∧
    (takeJournalRes p s).pins = s.pins ∧ (takeJournalRes p s).now = s.now ∧ (takeJournalRes p s).second = s.second ∧
    (takeJournalRes p s).sent = s.sent ∧ (takeJournalRes p s).pending = s.pending := by
  simp [takeJournalRes]

@[simp] theorem keepIntended_frame (p : Port) (i : Intended) (s : State) :
    (keepIntended p i s).tariff = s.tariff ∧ (keepIntended p i s).beam = s.beam ∧
    (keepIntended p i s).params = s.params ∧ (keepIntended p i s).pins = s.pins ∧ (keepIntended p i s).now = s.now ∧
    (keepIntended p i s).second = s.second ∧ (keepIntended p i s).pending = s.pending := by
  simp only [keepIntended]
  repeat' split
  all_goals simp

@[simp] theorem enterReckoning_frame (p : Port) (s : State) :
    (enterReckoning p s).tariff = s.tariff ∧ (enterReckoning p s).beam = s.beam ∧
    (enterReckoning p s).params = s.params ∧ (enterReckoning p s).pins = s.pins ∧ (enterReckoning p s).now = s.now ∧
    (enterReckoning p s).second = s.second ∧ (enterReckoning p s).pending = s.pending := by
  simp only [enterReckoning]
  repeat' split
  all_goals simp

@[simp] theorem readyToReckon_frame (p : Port) (s : State) :
    (readyToReckon p s).tariff = s.tariff ∧ (readyToReckon p s).beam = s.beam ∧ (readyToReckon p s).params = s.params ∧
    (readyToReckon p s).pins = s.pins ∧ (readyToReckon p s).now = s.now ∧ (readyToReckon p s).second = s.second ∧
    (readyToReckon p s).pending = s.pending := by
  simp only [readyToReckon]
  repeat' split
  all_goals simp

@[simp] theorem releaseHeldContext_frame (p : Port) (s : State) :
    (releaseHeldContext p s).tariff = s.tariff ∧ (releaseHeldContext p s).beam = s.beam ∧
    (releaseHeldContext p s).params = s.params ∧ (releaseHeldContext p s).pins = s.pins ∧
    (releaseHeldContext p s).now = s.now ∧ (releaseHeldContext p s).second = s.second ∧
    (releaseHeldContext p s).pending = s.pending := by
  simp only [releaseHeldContext]
  repeat' split
  all_goals simp

@[simp] theorem releaseHeldContexts_frame (s : State) :
    (releaseHeldContexts s).tariff = s.tariff ∧ (releaseHeldContexts s).beam = s.beam ∧
    (releaseHeldContexts s).params = s.params ∧ (releaseHeldContexts s).pins = s.pins ∧
    (releaseHeldContexts s).now = s.now ∧ (releaseHeldContexts s).second = s.second ∧
    (releaseHeldContexts s).pending = s.pending := by
  simp [releaseHeldContexts]

@[simp] theorem appendWritten_frame (n : Nat) (b : Int) (cs : List Content) (s : State) :
    (appendWritten n b cs s).dialog = s.dialog ∧ (appendWritten n b cs s).standing = s.standing ∧
    (appendWritten n b cs s).tariff = s.tariff ∧ (appendWritten n b cs s).beam = s.beam ∧
    (appendWritten n b cs s).lane = s.lane ∧ (appendWritten n b cs s).params = s.params ∧
    (appendWritten n b cs s).pins = s.pins ∧ (appendWritten n b cs s).now = s.now ∧
    (appendWritten n b cs s).second = s.second ∧ (appendWritten n b cs s).sent = s.sent ∧
    (appendWritten n b cs s).pending = s.pending := by
  unfold appendWritten
  refine ⟨?_, ?_, ?_, ?_, ?_, ?_, ?_, ?_, ?_, ?_, ?_⟩ <;> exact foldl_frame _ _ (by simp) _ _

@[simp] theorem spendCreditRes_frame (p : Port) (k : CreditKind) (c : Nat) (s : State) :
    (spendCreditRes p k c s).tariff = s.tariff ∧ (spendCreditRes p k c s).beam = s.beam ∧
    (spendCreditRes p k c s).params = s.params ∧ (spendCreditRes p k c s).pins = s.pins ∧
    (spendCreditRes p k c s).now = s.now ∧ (spendCreditRes p k c s).second = s.second ∧
    (spendCreditRes p k c s).sent = s.sent ∧ (spendCreditRes p k c s).pending = s.pending := by
  simp [spendCreditRes]

@[simp] theorem admitted_frame (p : Port) (n : Nat) (b : Int) (s : State) :
    (admitted p n b s).tariff = s.tariff ∧ (admitted p n b s).beam = s.beam ∧ (admitted p n b s).lane = s.lane ∧
    (admitted p n b s).journal = s.journal ∧ (admitted p n b s).line = s.line ∧ (admitted p n b s).mgmt = s.mgmt ∧
    (admitted p n b s).params = s.params ∧ (admitted p n b s).pins = s.pins ∧ (admitted p n b s).now = s.now ∧
    (admitted p n b s).second = s.second ∧ (admitted p n b s).pending = s.pending := by
  simp [admitted]

@[simp] theorem concludeWrite_frame (p : Port) (s : State) :
    (concludeWrite p s).tariff = s.tariff ∧ (concludeWrite p s).beam = s.beam ∧ (concludeWrite p s).params = s.params ∧
    (concludeWrite p s).pins = s.pins ∧ (concludeWrite p s).now = s.now ∧ (concludeWrite p s).second = s.second ∧
    (concludeWrite p s).pending = s.pending := by
  simp only [concludeWrite]
  repeat' split
  all_goals simp

@[simp] theorem concludeRegrant_frame (p : Port) (i : Image) (r : Sighting) (s : State) :
    (concludeRegrant p i r s).tariff = s.tariff ∧ (concludeRegrant p i r s).beam = s.beam ∧
    (concludeRegrant p i r s).params = s.params ∧ (concludeRegrant p i r s).pins = s.pins ∧
    (concludeRegrant p i r s).now = s.now ∧ (concludeRegrant p i r s).second = s.second ∧
    (concludeRegrant p i r s).pending = s.pending := by
  simp [concludeRegrant]

@[simp] theorem concludeRecovered_frame (p : Port) (i : Image) (e : RecoveryEntry) (s : State) :
    (concludeRecovered p i e s).tariff = s.tariff ∧ (concludeRecovered p i e s).beam = s.beam ∧
    (concludeRecovered p i e s).params = s.params ∧ (concludeRecovered p i e s).pins = s.pins ∧
    (concludeRecovered p i e s).now = s.now ∧ (concludeRecovered p i e s).second = s.second ∧
    (concludeRecovered p i e s).pending = s.pending := by
  simp [concludeRecovered]

@[simp] theorem refuseClone_frame (p : Port) (c : Nat) (r : CloneReason) (n : Nat) (b : Int) (s : State) :
    (refuseClone p c r n b s).tariff = s.tariff ∧ (refuseClone p c r n b s).beam = s.beam ∧
    (refuseClone p c r n b s).params = s.params ∧ (refuseClone p c r n b s).pins = s.pins ∧
    (refuseClone p c r n b s).now = s.now ∧ (refuseClone p c r n b s).second = s.second ∧
    (refuseClone p c r n b s).pending = s.pending := by
  simp [refuseClone]

@[simp] theorem refuseDenied_frame (p : Port) (e : DenyEntry) (s : State) :
    (refuseDenied p e s).tariff = s.tariff ∧ (refuseDenied p e s).beam = s.beam ∧
    (refuseDenied p e s).params = s.params ∧ (refuseDenied p e s).pins = s.pins ∧ (refuseDenied p e s).now = s.now ∧
    (refuseDenied p e s).second = s.second ∧ (refuseDenied p e s).pending = s.pending := by
  simp [refuseDenied]

@[simp] theorem verdictProceed_frame (p : Port) (s : State) :
    (verdictProceed p s).tariff = s.tariff ∧ (verdictProceed p s).beam = s.beam ∧
    (verdictProceed p s).params = s.params ∧ (verdictProceed p s).pins = s.pins ∧ (verdictProceed p s).now = s.now ∧
    (verdictProceed p s).second = s.second ∧ (verdictProceed p s).pending = s.pending := by
  simp only [verdictProceed]
  repeat' split
  all_goals simp

@[simp] theorem verdictRegrant_frame (p : Port) (i : Image) (r : Sighting) (s : State) :
    (verdictRegrant p i r s).tariff = s.tariff ∧ (verdictRegrant p i r s).beam = s.beam ∧
    (verdictRegrant p i r s).params = s.params ∧ (verdictRegrant p i r s).pins = s.pins ∧
    (verdictRegrant p i r s).now = s.now ∧ (verdictRegrant p i r s).second = s.second ∧
    (verdictRegrant p i r s).pending = s.pending := by
  simp only [verdictRegrant]
  repeat' split
  all_goals simp

@[simp] theorem verdictSighting_frame (p : Port) (i : Image) (s : State) :
    (verdictSighting p i s).tariff = s.tariff ∧ (verdictSighting p i s).beam = s.beam ∧
    (verdictSighting p i s).params = s.params ∧ (verdictSighting p i s).pins = s.pins ∧
    (verdictSighting p i s).now = s.now ∧ (verdictSighting p i s).second = s.second ∧
    (verdictSighting p i s).pending = s.pending := by
  simp only [verdictSighting]
  repeat' split
  all_goals simp

@[simp] theorem verdictRecovered_frame (p : Port) (i : Image) (e : RecoveryEntry) (s : State) :
    (verdictRecovered p i e s).tariff = s.tariff ∧ (verdictRecovered p i e s).beam = s.beam ∧
    (verdictRecovered p i e s).params = s.params ∧ (verdictRecovered p i e s).pins = s.pins ∧
    (verdictRecovered p i e s).now = s.now ∧ (verdictRecovered p i e s).second = s.second ∧
    (verdictRecovered p i e s).pending = s.pending := by
  simp only [verdictRecovered]
  repeat' split
  all_goals simp

@[simp] theorem verdictRecovery_frame (p : Port) (i : Image) (s : State) :
    (verdictRecovery p i s).tariff = s.tariff ∧ (verdictRecovery p i s).beam = s.beam ∧
    (verdictRecovery p i s).params = s.params ∧ (verdictRecovery p i s).pins = s.pins ∧
    (verdictRecovery p i s).now = s.now ∧ (verdictRecovery p i s).second = s.second ∧
    (verdictRecovery p i s).pending = s.pending := by
  simp only [verdictRecovery]
  repeat' split
  all_goals simp

@[simp] theorem verdictInFlight_frame (p : Port) (i : Image) (s : State) :
    (verdictInFlight p i s).tariff = s.tariff ∧ (verdictInFlight p i s).beam = s.beam ∧
    (verdictInFlight p i s).params = s.params ∧ (verdictInFlight p i s).pins = s.pins ∧
    (verdictInFlight p i s).now = s.now ∧ (verdictInFlight p i s).second = s.second ∧
    (verdictInFlight p i s).pending = s.pending := by
  simp only [verdictInFlight]
  repeat' split
  all_goals simp

@[simp] theorem judge_frame (p : Port) (i : Image) (o : ProofOutcome) (s : State) :
    (judge p i o s).tariff = s.tariff ∧ (judge p i o s).beam = s.beam ∧ (judge p i o s).params = s.params ∧
    (judge p i o s).pins = s.pins ∧ (judge p i o s).now = s.now ∧ (judge p i o s).second = s.second ∧
    (judge p i o s).pending = s.pending := by
  simp only [judge]
  repeat' split
  all_goals simp

@[simp] theorem recheck_frame (p : Port) (i : Image) (s : State) :
    (recheck p i s).tariff = s.tariff ∧ (recheck p i s).beam = s.beam ∧ (recheck p i s).params = s.params ∧
    (recheck p i s).pins = s.pins ∧ (recheck p i s).now = s.now ∧ (recheck p i s).second = s.second ∧
    (recheck p i s).pending = s.pending := by
  simp only [recheck]
  repeat' split
  all_goals simp

@[simp] theorem enterConfirming_frame (p : Port) (s : State) :
    (enterConfirming p s).standing = s.standing ∧ (enterConfirming p s).tariff = s.tariff ∧
    (enterConfirming p s).beam = s.beam ∧ (enterConfirming p s).lane = s.lane ∧
    (enterConfirming p s).journal = s.journal ∧ (enterConfirming p s).line = s.line ∧
    (enterConfirming p s).mgmt = s.mgmt ∧ (enterConfirming p s).params = s.params ∧
    (enterConfirming p s).pins = s.pins ∧ (enterConfirming p s).now = s.now ∧ (enterConfirming p s).second = s.second ∧
    (enterConfirming p s).pending = s.pending := by
  simp [enterConfirming]

@[simp] theorem reissueCommit_frame (p : Port) (s : State) :
    (reissueCommit p s).standing = s.standing ∧ (reissueCommit p s).tariff = s.tariff ∧
    (reissueCommit p s).beam = s.beam ∧ (reissueCommit p s).lane = s.lane ∧ (reissueCommit p s).journal = s.journal ∧
    (reissueCommit p s).line = s.line ∧ (reissueCommit p s).mgmt = s.mgmt ∧ (reissueCommit p s).params = s.params ∧
    (reissueCommit p s).pins = s.pins ∧ (reissueCommit p s).now = s.now ∧ (reissueCommit p s).second = s.second ∧
    (reissueCommit p s).pending = s.pending := by
  simp [reissueCommit]

@[simp] theorem recordTorn_frame (p : Port) (s : State) :
    (recordTorn p s).tariff = s.tariff ∧ (recordTorn p s).beam = s.beam ∧ (recordTorn p s).params = s.params ∧
    (recordTorn p s).pins = s.pins ∧ (recordTorn p s).now = s.now ∧ (recordTorn p s).second = s.second ∧
    (recordTorn p s).sent = s.sent ∧ (recordTorn p s).pending = s.pending := by
  simp only [recordTorn]
  repeat' split
  all_goals simp

@[simp] theorem broadcastTorn_frame (p : Port) (s : State) :
    (broadcastTorn p s).dialog = s.dialog ∧ (broadcastTorn p s).standing = s.standing ∧
    (broadcastTorn p s).tariff = s.tariff ∧ (broadcastTorn p s).beam = s.beam ∧ (broadcastTorn p s).lane = s.lane ∧
    (broadcastTorn p s).journal = s.journal ∧ (broadcastTorn p s).params = s.params ∧
    (broadcastTorn p s).pins = s.pins ∧ (broadcastTorn p s).now = s.now ∧ (broadcastTorn p s).second = s.second ∧
    (broadcastTorn p s).sent = s.sent ∧ (broadcastTorn p s).pending = s.pending := by
  simp only [broadcastTorn]
  repeat' split
  all_goals simp

@[simp] theorem torn_frame (p : Port) (s : State) :
    (torn p s).tariff = s.tariff ∧ (torn p s).beam = s.beam ∧ (torn p s).params = s.params ∧ (torn p s).pins = s.pins ∧
    (torn p s).now = s.now ∧ (torn p s).second = s.second ∧ (torn p s).pending = s.pending := by
  simp [torn]

@[simp] theorem tornClone_frame (p : Port) (i : Image) (s : State) :
    (tornClone p i s).tariff = s.tariff ∧ (tornClone p i s).beam = s.beam ∧ (tornClone p i s).params = s.params ∧
    (tornClone p i s).pins = s.pins ∧ (tornClone p i s).now = s.now ∧ (tornClone p i s).second = s.second ∧
    (tornClone p i s).pending = s.pending := by
  simp [tornClone]

@[simp] theorem confirmAgain_frame (p : Port) (s : State) :
    (confirmAgain p s).tariff = s.tariff ∧ (confirmAgain p s).beam = s.beam ∧ (confirmAgain p s).params = s.params ∧
    (confirmAgain p s).pins = s.pins ∧ (confirmAgain p s).now = s.now ∧ (confirmAgain p s).second = s.second ∧
    (confirmAgain p s).pending = s.pending := by
  simp only [confirmAgain]
  repeat' split
  all_goals simp

@[simp] theorem judgeConfirming_frame (p : Port) (i : Image) (s : State) :
    (judgeConfirming p i s).tariff = s.tariff ∧ (judgeConfirming p i s).beam = s.beam ∧
    (judgeConfirming p i s).params = s.params ∧ (judgeConfirming p i s).pins = s.pins ∧
    (judgeConfirming p i s).now = s.now ∧ (judgeConfirming p i s).second = s.second ∧
    (judgeConfirming p i s).pending = s.pending := by
  simp only [judgeConfirming]
  repeat' split
  all_goals simp

@[simp] theorem sendCheck_frame (s : State) :
    (sendCheck s).standing = s.standing ∧ (sendCheck s).tariff = s.tariff ∧ (sendCheck s).beam = s.beam ∧
    (sendCheck s).lane = s.lane ∧ (sendCheck s).journal = s.journal ∧ (sendCheck s).line = s.line ∧
    (sendCheck s).mgmt = s.mgmt ∧ (sendCheck s).params = s.params ∧ (sendCheck s).pins = s.pins ∧
    (sendCheck s).now = s.now ∧ (sendCheck s).second = s.second ∧ (sendCheck s).pending = s.pending := by
  simp only [sendCheck]
  repeat' split
  all_goals simp

@[simp] theorem enqueueProof_frame (r : ProofRequest) (s : State) :
    (enqueueProof r s).standing = s.standing ∧ (enqueueProof r s).tariff = s.tariff ∧
    (enqueueProof r s).beam = s.beam ∧ (enqueueProof r s).lane = s.lane ∧ (enqueueProof r s).journal = s.journal ∧
    (enqueueProof r s).line = s.line ∧ (enqueueProof r s).mgmt = s.mgmt ∧ (enqueueProof r s).params = s.params ∧
    (enqueueProof r s).pins = s.pins ∧ (enqueueProof r s).now = s.now ∧ (enqueueProof r s).second = s.second ∧
    (enqueueProof r s).pending = s.pending := by
  simp [enqueueProof]

@[simp] theorem popProof_frame (s : State) :
    (popProof s).standing = s.standing ∧ (popProof s).tariff = s.tariff ∧ (popProof s).beam = s.beam ∧
    (popProof s).lane = s.lane ∧ (popProof s).journal = s.journal ∧ (popProof s).line = s.line ∧
    (popProof s).mgmt = s.mgmt ∧ (popProof s).params = s.params ∧ (popProof s).pins = s.pins ∧
    (popProof s).now = s.now ∧ (popProof s).second = s.second ∧ (popProof s).pending = s.pending := by
  simp [popProof]

@[simp] theorem resendCheck_frame (r : ProofRequest) (s : State) :
    (resendCheck r s).standing = s.standing ∧ (resendCheck r s).tariff = s.tariff ∧ (resendCheck r s).beam = s.beam ∧
    (resendCheck r s).lane = s.lane ∧ (resendCheck r s).journal = s.journal ∧ (resendCheck r s).line = s.line ∧
    (resendCheck r s).mgmt = s.mgmt ∧ (resendCheck r s).params = s.params ∧ (resendCheck r s).pins = s.pins ∧
    (resendCheck r s).now = s.now ∧ (resendCheck r s).second = s.second ∧ (resendCheck r s).pending = s.pending := by
  simp [resendCheck]

@[simp] theorem proofKnown_frame (p : Port) (o : ProofOutcome) (s : State) :
    (proofKnown p o s).tariff = s.tariff ∧ (proofKnown p o s).beam = s.beam ∧ (proofKnown p o s).params = s.params ∧
    (proofKnown p o s).pins = s.pins ∧ (proofKnown p o s).now = s.now ∧ (proofKnown p o s).second = s.second ∧
    (proofKnown p o s).pending = s.pending := by
  simp only [proofKnown]
  repeat' split
  all_goals simp

@[simp] theorem checkEnds_frame (r : ProofRequest) (o : Option ProofOutcome) (s : State) :
    (checkEnds r o s).tariff = s.tariff ∧ (checkEnds r o s).beam = s.beam ∧ (checkEnds r o s).params = s.params ∧
    (checkEnds r o s).pins = s.pins ∧ (checkEnds r o s).now = s.now ∧ (checkEnds r o s).second = s.second ∧
    (checkEnds r o s).pending = s.pending := by
  simp only [checkEnds]
  repeat' split
  all_goals simp

@[simp] theorem refuseByMode_frame (m : Mode) (p : Port) (s : State) :
    (refuseByMode m p s).tariff = s.tariff ∧ (refuseByMode m p s).beam = s.beam ∧
    (refuseByMode m p s).params = s.params ∧ (refuseByMode m p s).pins = s.pins ∧ (refuseByMode m p s).now = s.now ∧
    (refuseByMode m p s).second = s.second ∧ (refuseByMode m p s).pending = s.pending := by
  simp only [refuseByMode]
  repeat' split
  all_goals simp

@[simp] theorem dialogsTold_frame (m : Mode) (s : State) :
    (dialogsTold m s).tariff = s.tariff ∧ (dialogsTold m s).beam = s.beam ∧ (dialogsTold m s).params = s.params ∧
    (dialogsTold m s).pins = s.pins ∧ (dialogsTold m s).now = s.now ∧ (dialogsTold m s).second = s.second ∧
    (dialogsTold m s).pending = s.pending := by
  simp [dialogsTold]

/-! ### The effective mode and the flaps -/

@[simp] theorem flushOnLeaving_frame (a b : Mode) (s : State) :
    (flushOnLeaving a b s).dialog = s.dialog ∧ (flushOnLeaving a b s).tariff = s.tariff ∧
    (flushOnLeaving a b s).beam = s.beam ∧ (flushOnLeaving a b s).params = s.params ∧
    (flushOnLeaving a b s).pins = s.pins ∧ (flushOnLeaving a b s).now = s.now ∧
    (flushOnLeaving a b s).second = s.second ∧ (flushOnLeaving a b s).sent = s.sent ∧
    (flushOnLeaving a b s).pending = s.pending := by
  simp only [flushOnLeaving]
  repeat' split
  all_goals simp

@[simp] theorem freshCount_frame (m : Mode) (s : State) :
    (freshCount m s).dialog = s.dialog ∧ (freshCount m s).standing = s.standing ∧ (freshCount m s).tariff = s.tariff ∧
    (freshCount m s).beam = s.beam ∧ (freshCount m s).journal = s.journal ∧ (freshCount m s).line = s.line ∧
    (freshCount m s).mgmt = s.mgmt ∧ (freshCount m s).params = s.params ∧ (freshCount m s).pins = s.pins ∧
    (freshCount m s).now = s.now ∧ (freshCount m s).second = s.second ∧ (freshCount m s).sent = s.sent ∧
    (freshCount m s).pending = s.pending := by
  simp only [freshCount]
  repeat' split
  all_goals simp

@[simp] theorem reportMode_frame (m : Mode) (s : State) :
    (reportMode m s).dialog = s.dialog ∧ (reportMode m s).standing = s.standing ∧ (reportMode m s).tariff = s.tariff ∧
    (reportMode m s).beam = s.beam ∧ (reportMode m s).params = s.params ∧ (reportMode m s).pins = s.pins ∧
    (reportMode m s).now = s.now ∧ (reportMode m s).second = s.second ∧ (reportMode m s).sent = s.sent ∧
    (reportMode m s).pending = s.pending := by
  simp [reportMode]

@[simp] theorem changeMode_frame (m : Mode) (s : State) :
    (changeMode m s).tariff = s.tariff ∧ (changeMode m s).beam = s.beam ∧ (changeMode m s).params = s.params ∧
    (changeMode m s).pins = s.pins ∧ (changeMode m s).now = s.now ∧ (changeMode m s).second = s.second ∧
    (changeMode m s).pending = s.pending := by
  simp [changeMode]

@[simp] theorem deriveMode_frame (s : State) :
    (deriveMode s).tariff = s.tariff ∧ (deriveMode s).beam = s.beam ∧ (deriveMode s).params = s.params ∧
    (deriveMode s).pins = s.pins ∧ (deriveMode s).now = s.now ∧ (deriveMode s).second = s.second ∧
    (deriveMode s).pending = s.pending := by
  simp only [deriveMode]
  repeat' split
  all_goals simp

@[simp] theorem faultReport_frame (n : Nat) (s : State) :
    (faultReport n s).tariff = s.tariff ∧ (faultReport n s).beam = s.beam ∧ (faultReport n s).params = s.params ∧
    (faultReport n s).pins = s.pins ∧ (faultReport n s).now = s.now ∧ (faultReport n s).second = s.second ∧
    (faultReport n s).pending = s.pending := by
  simp [faultReport]

@[simp] theorem takeEmergency_frame (b : Bool) (s : State) :
    (takeEmergency b s).tariff = s.tariff ∧ (takeEmergency b s).beam = s.beam ∧ (takeEmergency b s).params = s.params ∧
    (takeEmergency b s).pins = s.pins ∧ (takeEmergency b s).now = s.now ∧ (takeEmergency b s).second = s.second ∧
    (takeEmergency b s).pending = s.pending := by
  simp only [takeEmergency]
  repeat' split
  all_goals simp

@[simp] theorem clearJam_frame (s : State) :
    (clearJam s).tariff = s.tariff ∧ (clearJam s).beam = s.beam ∧ (clearJam s).params = s.params ∧
    (clearJam s).pins = s.pins ∧ (clearJam s).now = s.now ∧ (clearJam s).second = s.second ∧
    (clearJam s).pending = s.pending := by
  simp only [clearJam]
  repeat' split
  all_goals simp

@[simp] theorem reachOpen_frame (s : State) :
    (reachOpen s).tariff = s.tariff ∧ (reachOpen s).beam = s.beam ∧ (reachOpen s).params = s.params ∧
    (reachOpen s).pins = s.pins ∧ (reachOpen s).now = s.now ∧ (reachOpen s).second = s.second ∧
    (reachOpen s).pending = s.pending := by
  simp [reachOpen]

@[simp] theorem reachClosed_frame (s : State) :
    (reachClosed s).tariff = s.tariff ∧ (reachClosed s).beam = s.beam ∧ (reachClosed s).params = s.params ∧
    (reachClosed s).pins = s.pins ∧ (reachClosed s).now = s.now ∧ (reachClosed s).second = s.second ∧
    (reachClosed s).pending = s.pending := by
  simp [reachClosed]

@[simp] theorem readLimits_frame (o c : Bool) (s : State) :
    (readLimits o c s).tariff = s.tariff ∧ (readLimits o c s).beam = s.beam ∧ (readLimits o c s).params = s.params ∧
    (readLimits o c s).pins = s.pins ∧ (readLimits o c s).now = s.now ∧ (readLimits o c s).second = s.second ∧
    (readLimits o c s).pending = s.pending := by
  simp only [readLimits]
  repeat' split
  all_goals simp

@[simp] theorem jamMotion_frame (m : Motion) (s : State) :
    (jamMotion m s).tariff = s.tariff ∧ (jamMotion m s).beam = s.beam ∧ (jamMotion m s).params = s.params ∧
    (jamMotion m s).pins = s.pins ∧ (jamMotion m s).now = s.now ∧ (jamMotion m s).second = s.second ∧
    (jamMotion m s).pending = s.pending := by
  simp [jamMotion]

@[simp] theorem flapRetry_frame (s : State) :
    (flapRetry s).dialog = s.dialog ∧ (flapRetry s).standing = s.standing ∧ (flapRetry s).tariff = s.tariff ∧
    (flapRetry s).beam = s.beam ∧ (flapRetry s).journal = s.journal ∧ (flapRetry s).line = s.line ∧
    (flapRetry s).mgmt = s.mgmt ∧ (flapRetry s).params = s.params ∧ (flapRetry s).pins = s.pins ∧
    (flapRetry s).now = s.now ∧ (flapRetry s).second = s.second ∧ (flapRetry s).sent = s.sent ∧
    (flapRetry s).pending = s.pending := by
  simp only [flapRetry]
  repeat' split
  all_goals simp

@[simp] theorem commandMode_frame (m : Mode) (s : State) :
    (commandMode m s).tariff = s.tariff ∧ (commandMode m s).beam = s.beam ∧ (commandMode m s).params = s.params ∧
    (commandMode m s).pins = s.pins ∧ (commandMode m s).now = s.now ∧ (commandMode m s).second = s.second ∧
    (commandMode m s).pending = s.pending := by
  simp only [commandMode]
  repeat' split
  all_goals simp

/-! ### The tariff -/

@[simp] theorem replaceStage_frame (g : Stage) (s : State) :
    (replaceStage g s).beam = s.beam ∧ (replaceStage g s).params = s.params ∧ (replaceStage g s).pins = s.pins ∧
    (replaceStage g s).now = s.now ∧ (replaceStage g s).second = s.second ∧ (replaceStage g s).pending = s.pending := by
  simp [replaceStage]

@[simp] theorem testSwitch_frame (s : State) :
    (testSwitch s).dialog = s.dialog ∧ (testSwitch s).standing = s.standing ∧ (testSwitch s).beam = s.beam ∧
    (testSwitch s).lane = s.lane ∧ (testSwitch s).journal = s.journal ∧ (testSwitch s).line = s.line ∧
    (testSwitch s).mgmt = s.mgmt ∧ (testSwitch s).params = s.params ∧ (testSwitch s).pins = s.pins ∧
    (testSwitch s).now = s.now ∧ (testSwitch s).second = s.second ∧ (testSwitch s).sent = s.sent ∧
    (testSwitch s).pending = s.pending := by
  simp only [testSwitch]
  repeat' split
  all_goals simp

@[simp] theorem acceptSwitch_frame (e : Option ServiceTime) (s : State) :
    (acceptSwitch e s).dialog = s.dialog ∧ (acceptSwitch e s).standing = s.standing ∧
    (acceptSwitch e s).beam = s.beam ∧ (acceptSwitch e s).lane = s.lane ∧ (acceptSwitch e s).journal = s.journal ∧
    (acceptSwitch e s).line = s.line ∧ (acceptSwitch e s).mgmt = s.mgmt ∧ (acceptSwitch e s).params = s.params ∧
    (acceptSwitch e s).pins = s.pins ∧ (acceptSwitch e s).now = s.now ∧ (acceptSwitch e s).second = s.second ∧
    (acceptSwitch e s).sent = s.sent ∧ (acceptSwitch e s).pending = s.pending := by
  simp [acceptSwitch]

@[simp] theorem retimeSwitch_frame (e : Option ServiceTime) (s : State) :
    (retimeSwitch e s).dialog = s.dialog ∧ (retimeSwitch e s).standing = s.standing ∧
    (retimeSwitch e s).beam = s.beam ∧ (retimeSwitch e s).lane = s.lane ∧ (retimeSwitch e s).journal = s.journal ∧
    (retimeSwitch e s).line = s.line ∧ (retimeSwitch e s).mgmt = s.mgmt ∧ (retimeSwitch e s).params = s.params ∧
    (retimeSwitch e s).pins = s.pins ∧ (retimeSwitch e s).now = s.now ∧ (retimeSwitch e s).second = s.second ∧
    (retimeSwitch e s).sent = s.sent ∧ (retimeSwitch e s).pending = s.pending := by
  simp [retimeSwitch]

@[simp] theorem stageDiscarded_frame (s : State) :
    (stageDiscarded s).beam = s.beam ∧ (stageDiscarded s).params = s.params ∧ (stageDiscarded s).pins = s.pins ∧
    (stageDiscarded s).now = s.now ∧ (stageDiscarded s).second = s.second ∧ (stageDiscarded s).pending = s.pending := by
  simp only [stageDiscarded]
  repeat' split
  all_goals simp

@[simp] theorem applySwitch_frame (b : Bank) (s : State) :
    (applySwitch b s).beam = s.beam ∧ (applySwitch b s).params = s.params ∧ (applySwitch b s).pins = s.pins ∧
    (applySwitch b s).now = s.now ∧ (applySwitch b s).second = s.second ∧ (applySwitch b s).pending = s.pending := by
  simp [applySwitch]

/-! ### The beams -/

@[simp] theorem onRecord_frame (i : Nat) (f : BeamRecord → BeamRecord) (s : State) :
    (onRecord i f s).dialog = s.dialog ∧ (onRecord i f s).standing = s.standing ∧ (onRecord i f s).tariff = s.tariff ∧
    (onRecord i f s).lane = s.lane ∧ (onRecord i f s).journal = s.journal ∧ (onRecord i f s).line = s.line ∧
    (onRecord i f s).mgmt = s.mgmt ∧ (onRecord i f s).params = s.params ∧ (onRecord i f s).pins = s.pins ∧
    (onRecord i f s).now = s.now ∧ (onRecord i f s).second = s.second ∧ (onRecord i f s).sent = s.sent ∧
    (onRecord i f s).pending = s.pending := by
  simp [onRecord]

@[simp] theorem trimStep_frame (i n : Nat) (s : State) :
    (trimStep i n s).dialog = s.dialog ∧ (trimStep i n s).standing = s.standing ∧ (trimStep i n s).tariff = s.tariff ∧
    (trimStep i n s).lane = s.lane ∧ (trimStep i n s).journal = s.journal ∧ (trimStep i n s).line = s.line ∧
    (trimStep i n s).mgmt = s.mgmt ∧ (trimStep i n s).params = s.params ∧ (trimStep i n s).pins = s.pins ∧
    (trimStep i n s).now = s.now ∧ (trimStep i n s).second = s.second ∧ (trimStep i n s).pending = s.pending := by
  simp [trimStep]

@[simp] theorem trimSucceeds_frame (i : Nat) (s : State) :
    (trimSucceeds i s).dialog = s.dialog ∧ (trimSucceeds i s).standing = s.standing ∧
    (trimSucceeds i s).tariff = s.tariff ∧ (trimSucceeds i s).lane = s.lane ∧ (trimSucceeds i s).journal = s.journal ∧
    (trimSucceeds i s).line = s.line ∧ (trimSucceeds i s).mgmt = s.mgmt ∧ (trimSucceeds i s).params = s.params ∧
    (trimSucceeds i s).pins = s.pins ∧ (trimSucceeds i s).now = s.now ∧ (trimSucceeds i s).second = s.second ∧
    (trimSucceeds i s).sent = s.sent ∧ (trimSucceeds i s).pending = s.pending := by
  simp [trimSucceeds]

@[simp] theorem trimFault_frame (i : Nat) (s : State) :
    (trimFault i s).dialog = s.dialog ∧ (trimFault i s).standing = s.standing ∧ (trimFault i s).tariff = s.tariff ∧
    (trimFault i s).beam = s.beam ∧ (trimFault i s).lane = s.lane ∧ (trimFault i s).params = s.params ∧
    (trimFault i s).pins = s.pins ∧ (trimFault i s).now = s.now ∧ (trimFault i s).second = s.second ∧
    (trimFault i s).sent = s.sent ∧ (trimFault i s).pending = s.pending := by
  simp [trimFault]

@[simp] theorem trimFails_frame (i : Nat) (s : State) :
    (trimFails i s).dialog = s.dialog ∧ (trimFails i s).standing = s.standing ∧ (trimFails i s).tariff = s.tariff ∧
    (trimFails i s).lane = s.lane ∧ (trimFails i s).params = s.params ∧ (trimFails i s).pins = s.pins ∧
    (trimFails i s).now = s.now ∧ (trimFails i s).second = s.second ∧ (trimFails i s).sent = s.sent ∧
    (trimFails i s).pending = s.pending := by
  simp only [trimFails]
  repeat' split
  all_goals simp

@[simp] theorem judgeTrim_frame (i : Nat) (s : State) :
    (judgeTrim i s).dialog = s.dialog ∧ (judgeTrim i s).standing = s.standing ∧ (judgeTrim i s).tariff = s.tariff ∧
    (judgeTrim i s).lane = s.lane ∧ (judgeTrim i s).params = s.params ∧ (judgeTrim i s).pins = s.pins ∧
    (judgeTrim i s).now = s.now ∧ (judgeTrim i s).second = s.second ∧ (judgeTrim i s).pending = s.pending := by
  simp only [judgeTrim]
  repeat' split
  all_goals simp

@[simp] theorem settleTrim_frame (i : Nat) (s : State) :
    (settleTrim i s).dialog = s.dialog ∧ (settleTrim i s).standing = s.standing ∧ (settleTrim i s).tariff = s.tariff ∧
    (settleTrim i s).lane = s.lane ∧ (settleTrim i s).params = s.params ∧ (settleTrim i s).pins = s.pins ∧
    (settleTrim i s).now = s.now ∧ (settleTrim i s).second = s.second ∧ (settleTrim i s).pending = s.pending := by
  simp only [settleTrim]
  repeat' split
  all_goals simp

@[simp] theorem interruptTrim_frame (i : Nat) (s : State) :
    (interruptTrim i s).dialog = s.dialog ∧ (interruptTrim i s).standing = s.standing ∧
    (interruptTrim i s).tariff = s.tariff ∧ (interruptTrim i s).lane = s.lane ∧
    (interruptTrim i s).journal = s.journal ∧ (interruptTrim i s).line = s.line ∧ (interruptTrim i s).mgmt = s.mgmt ∧
    (interruptTrim i s).params = s.params ∧ (interruptTrim i s).pins = s.pins ∧ (interruptTrim i s).now = s.now ∧
    (interruptTrim i s).second = s.second ∧ (interruptTrim i s).sent = s.sent ∧
    (interruptTrim i s).pending = s.pending := by
  simp [interruptTrim]

@[simp] theorem interruptTest_frame (s : State) :
    (interruptTest s).dialog = s.dialog ∧ (interruptTest s).standing = s.standing ∧
    (interruptTest s).tariff = s.tariff ∧ (interruptTest s).lane = s.lane ∧ (interruptTest s).journal = s.journal ∧
    (interruptTest s).line = s.line ∧ (interruptTest s).mgmt = s.mgmt ∧ (interruptTest s).params = s.params ∧
    (interruptTest s).pins = s.pins ∧ (interruptTest s).now = s.now ∧ (interruptTest s).second = s.second ∧
    (interruptTest s).sent = s.sent ∧ (interruptTest s).pending = s.pending := by
  simp only [interruptTest]
  repeat' split
  all_goals simp

@[simp] theorem advanceTrim_frame (s : State) :
    (advanceTrim s).dialog = s.dialog ∧ (advanceTrim s).standing = s.standing ∧ (advanceTrim s).tariff = s.tariff ∧
    (advanceTrim s).lane = s.lane ∧ (advanceTrim s).params = s.params ∧ (advanceTrim s).pins = s.pins ∧
    (advanceTrim s).now = s.now ∧ (advanceTrim s).second = s.second ∧ (advanceTrim s).pending = s.pending := by
  simp only [advanceTrim]
  split <;> simp

@[simp] theorem beginTrim_frame (i : Nat) (s : State) :
    (beginTrim i s).dialog = s.dialog ∧ (beginTrim i s).standing = s.standing ∧ (beginTrim i s).tariff = s.tariff ∧
    (beginTrim i s).lane = s.lane ∧ (beginTrim i s).params = s.params ∧ (beginTrim i s).pins = s.pins ∧
    (beginTrim i s).now = s.now ∧ (beginTrim i s).second = s.second ∧ (beginTrim i s).pending = s.pending := by
  simp [beginTrim]

@[simp] theorem seekTrim_frame (s : State) :
    (seekTrim s).dialog = s.dialog ∧ (seekTrim s).standing = s.standing ∧ (seekTrim s).tariff = s.tariff ∧
    (seekTrim s).lane = s.lane ∧ (seekTrim s).params = s.params ∧ (seekTrim s).pins = s.pins ∧
    (seekTrim s).now = s.now ∧ (seekTrim s).second = s.second ∧ (seekTrim s).pending = s.pending := by
  simp only [seekTrim]
  repeat' split
  all_goals simp

@[simp] theorem takeView_frame (s : State) :
    (takeView s).tariff = s.tariff ∧ (takeView s).params = s.params ∧ (takeView s).pins = s.pins ∧
    (takeView s).now = s.now ∧ (takeView s).second = s.second ∧ (takeView s).pending = s.pending := by
  unfold takeView
  refine ⟨?_, ?_, ?_, ?_, ?_, ?_⟩ <;>
    exact (foldl_frame _ _ (by rintro s (_ | _ | _ | _ | _) <;> simp [takeReport]) _ _).trans (by simp)

@[simp] theorem sendSample_frame (s : State) :
    (sendSample s).dialog = s.dialog ∧ (sendSample s).standing = s.standing ∧ (sendSample s).tariff = s.tariff ∧
    (sendSample s).lane = s.lane ∧ (sendSample s).journal = s.journal ∧ (sendSample s).line = s.line ∧
    (sendSample s).mgmt = s.mgmt ∧ (sendSample s).params = s.params ∧ (sendSample s).pins = s.pins ∧
    (sendSample s).now = s.now ∧ (sendSample s).second = s.second ∧ (sendSample s).pending = s.pending := by
  simp [sendSample]

@[simp] theorem fallSilent_frame (s : State) :
    (fallSilent s).tariff = s.tariff ∧ (fallSilent s).params = s.params ∧ (fallSilent s).pins = s.pins ∧
    (fallSilent s).now = s.now ∧ (fallSilent s).second = s.second ∧ (fallSilent s).pending = s.pending := by
  simp only [fallSilent]
  repeat' split
  all_goals simp

@[simp] theorem missPeriod_frame (s : State) :
    (missPeriod s).tariff = s.tariff ∧ (missPeriod s).params = s.params ∧ (missPeriod s).pins = s.pins ∧
    (missPeriod s).now = s.now ∧ (missPeriod s).second = s.second ∧ (missPeriod s).pending = s.pending := by
  simp only [missPeriod]
  repeat' split
  all_goals simp

@[simp] theorem processSample_frame (l : Six Nat) (s : State) :
    (processSample l s).tariff = s.tariff ∧ (processSample l s).params = s.params ∧ (processSample l s).pins = s.pins ∧
    (processSample l s).now = s.now ∧ (processSample l s).second = s.second ∧ (processSample l s).pending = s.pending := by
  simp [processSample]

/-! ### The line -/

@[simp] theorem startReception_frame (p : LinePort) (s : State) :
    (startReception p s).dialog = s.dialog ∧ (startReception p s).standing = s.standing ∧
    (startReception p s).tariff = s.tariff ∧ (startReception p s).beam = s.beam ∧ (startReception p s).lane = s.lane ∧
    (startReception p s).journal = s.journal ∧ (startReception p s).params = s.params ∧
    (startReception p s).pins = s.pins ∧ (startReception p s).now = s.now ∧ (startReception p s).second = s.second ∧
    (startReception p s).sent = s.sent ∧ (startReception p s).pending = s.pending := by
  simp only [startReception]
  repeat' split
  all_goals simp

@[simp] theorem freeReception_frame (p : LinePort) (s : State) :
    (freeReception p s).dialog = s.dialog ∧ (freeReception p s).standing = s.standing ∧
    (freeReception p s).tariff = s.tariff ∧ (freeReception p s).beam = s.beam ∧ (freeReception p s).lane = s.lane ∧
    (freeReception p s).journal = s.journal ∧ (freeReception p s).mgmt = s.mgmt ∧
    (freeReception p s).params = s.params ∧ (freeReception p s).pins = s.pins ∧ (freeReception p s).now = s.now ∧
    (freeReception p s).second = s.second ∧ (freeReception p s).sent = s.sent ∧
    (freeReception p s).pending = s.pending := by
  simp [freeReception]

@[simp] theorem relay_frame (p : LinePort) (f : Frame) (s : State) :
    (relay p f s).dialog = s.dialog ∧ (relay p f s).standing = s.standing ∧ (relay p f s).tariff = s.tariff ∧
    (relay p f s).beam = s.beam ∧ (relay p f s).lane = s.lane ∧ (relay p f s).journal = s.journal ∧
    (relay p f s).mgmt = s.mgmt ∧ (relay p f s).params = s.params ∧ (relay p f s).pins = s.pins ∧
    (relay p f s).now = s.now ∧ (relay p f s).second = s.second ∧ (relay p f s).sent = s.sent ∧
    (relay p f s).pending = s.pending := by
  simp only [relay]
  repeat' split
  all_goals simp

@[simp] theorem replyGone_frame (b : Bool) (s : State) :
    (replyGone b s).dialog = s.dialog ∧ (replyGone b s).standing = s.standing ∧ (replyGone b s).tariff = s.tariff ∧
    (replyGone b s).beam = s.beam ∧ (replyGone b s).lane = s.lane ∧ (replyGone b s).journal = s.journal ∧
    (replyGone b s).line = s.line ∧ (replyGone b s).params = s.params ∧ (replyGone b s).pins = s.pins ∧
    (replyGone b s).now = s.now ∧ (replyGone b s).second = s.second ∧ (replyGone b s).sent = s.sent ∧
    (replyGone b s).pending = s.pending := by
  simp only [replyGone]
  repeat' split
  all_goals simp

@[simp] theorem holdReception_frame (p q : LinePort) (c : HeldContent) (b : Bool) (s : State) :
    (holdReception p q c b s).dialog = s.dialog ∧ (holdReception p q c b s).standing = s.standing ∧
    (holdReception p q c b s).tariff = s.tariff ∧ (holdReception p q c b s).beam = s.beam ∧
    (holdReception p q c b s).lane = s.lane ∧ (holdReception p q c b s).journal = s.journal ∧
    (holdReception p q c b s).params = s.params ∧ (holdReception p q c b s).pins = s.pins ∧
    (holdReception p q c b s).now = s.now ∧ (holdReception p q c b s).second = s.second ∧
    (holdReception p q c b s).sent = s.sent ∧ (holdReception p q c b s).pending = s.pending := by
  simp only [holdReception]
  repeat' split
  all_goals simp

@[simp] theorem runEnumerate_frame (n : Byte) (s : State) :
    (runEnumerate n s).dialog = s.dialog ∧ (runEnumerate n s).standing = s.standing ∧
    (runEnumerate n s).tariff = s.tariff ∧ (runEnumerate n s).beam = s.beam ∧ (runEnumerate n s).lane = s.lane ∧
    (runEnumerate n s).journal = s.journal ∧ (runEnumerate n s).params = s.params ∧ (runEnumerate n s).pins = s.pins ∧
    (runEnumerate n s).now = s.now ∧ (runEnumerate n s).second = s.second ∧ (runEnumerate n s).sent = s.sent ∧
    (runEnumerate n s).pending = s.pending := by
  simp only [runEnumerate]
  repeat' split
  all_goals simp

@[simp] theorem takeEnumerate_frame (f : Frame) (s : State) :
    (takeEnumerate f s).dialog = s.dialog ∧ (takeEnumerate f s).standing = s.standing ∧
    (takeEnumerate f s).tariff = s.tariff ∧ (takeEnumerate f s).beam = s.beam ∧ (takeEnumerate f s).lane = s.lane ∧
    (takeEnumerate f s).journal = s.journal ∧ (takeEnumerate f s).params = s.params ∧
    (takeEnumerate f s).pins = s.pins ∧ (takeEnumerate f s).now = s.now ∧ (takeEnumerate f s).second = s.second ∧
    (takeEnumerate f s).sent = s.sent ∧ (takeEnumerate f s).pending = s.pending := by
  simp only [takeEnumerate]
  repeat' split
  all_goals simp

@[simp] theorem heardHead_frame (s : State) :
    (heardHead s).dialog = s.dialog ∧ (heardHead s).standing = s.standing ∧ (heardHead s).tariff = s.tariff ∧
    (heardHead s).beam = s.beam ∧ (heardHead s).lane = s.lane ∧ (heardHead s).journal = s.journal ∧
    (heardHead s).mgmt = s.mgmt ∧ (heardHead s).params = s.params ∧ (heardHead s).pins = s.pins ∧
    (heardHead s).now = s.now ∧ (heardHead s).second = s.second ∧ (heardHead s).sent = s.sent ∧
    (heardHead s).pending = s.pending := by
  simp [heardHead]

@[simp] theorem endTransmission_frame (p : LinePort) (b : Buffered) (s : State) :
    (endTransmission p b s).dialog = s.dialog ∧ (endTransmission p b s).standing = s.standing ∧
    (endTransmission p b s).tariff = s.tariff ∧ (endTransmission p b s).beam = s.beam ∧
    (endTransmission p b s).lane = s.lane ∧ (endTransmission p b s).journal = s.journal ∧
    (endTransmission p b s).params = s.params ∧ (endTransmission p b s).pins = s.pins ∧
    (endTransmission p b s).now = s.now ∧ (endTransmission p b s).second = s.second ∧
    (endTransmission p b s).pending = s.pending := by
  simp [endTransmission]

@[simp] theorem cutOff_frame (p : LinePort) (s : State) :
    (cutOff p s).dialog = s.dialog ∧ (cutOff p s).standing = s.standing ∧ (cutOff p s).tariff = s.tariff ∧
    (cutOff p s).beam = s.beam ∧ (cutOff p s).lane = s.lane ∧ (cutOff p s).journal = s.journal ∧
    (cutOff p s).line = s.line ∧ (cutOff p s).mgmt = s.mgmt ∧ (cutOff p s).params = s.params ∧
    (cutOff p s).pins = s.pins ∧ (cutOff p s).now = s.now ∧ (cutOff p s).second = s.second ∧
    (cutOff p s).pending = s.pending := by
  simp only [cutOff]
  repeat' split
  all_goals simp

@[simp] theorem tearDown_frame (p : LinePort) (s : State) :
    (tearDown p s).dialog = s.dialog ∧ (tearDown p s).standing = s.standing ∧ (tearDown p s).tariff = s.tariff ∧
    (tearDown p s).beam = s.beam ∧ (tearDown p s).lane = s.lane ∧ (tearDown p s).journal = s.journal ∧
    (tearDown p s).params = s.params ∧ (tearDown p s).pins = s.pins ∧ (tearDown p s).now = s.now ∧
    (tearDown p s).second = s.second ∧ (tearDown p s).pending = s.pending := by
  simp [tearDown]

@[simp] theorem takeLink_frame (p : LinePort) (up : Bool) (s : State) :
    (takeLink p up s).dialog = s.dialog ∧ (takeLink p up s).standing = s.standing ∧
    (takeLink p up s).tariff = s.tariff ∧ (takeLink p up s).beam = s.beam ∧ (takeLink p up s).lane = s.lane ∧
    (takeLink p up s).journal = s.journal ∧ (takeLink p up s).params = s.params ∧ (takeLink p up s).pins = s.pins ∧
    (takeLink p up s).now = s.now ∧ (takeLink p up s).second = s.second ∧ (takeLink p up s).pending = s.pending := by
  simp only [takeLink]
  repeat' split
  all_goals simp

/-! ### What follows every step -/

@[simp] theorem followBrisk_frame (s : State) :
    (followBrisk s).dialog = s.dialog ∧ (followBrisk s).standing = s.standing ∧ (followBrisk s).tariff = s.tariff ∧
    (followBrisk s).beam = s.beam ∧ (followBrisk s).journal = s.journal ∧ (followBrisk s).line = s.line ∧
    (followBrisk s).mgmt = s.mgmt ∧ (followBrisk s).params = s.params ∧ (followBrisk s).pins = s.pins ∧
    (followBrisk s).now = s.now ∧ (followBrisk s).second = s.second ∧ (followBrisk s).sent = s.sent ∧
    (followBrisk s).pending = s.pending := by
  simp only [followBrisk]
  repeat' split
  all_goals simp

@[simp] theorem followDormant_frame (s : State) :
    (followDormant s).dialog = s.dialog ∧ (followDormant s).standing = s.standing ∧
    (followDormant s).tariff = s.tariff ∧ (followDormant s).beam = s.beam ∧ (followDormant s).journal = s.journal ∧
    (followDormant s).line = s.line ∧ (followDormant s).mgmt = s.mgmt ∧ (followDormant s).params = s.params ∧
    (followDormant s).pins = s.pins ∧ (followDormant s).now = s.now ∧ (followDormant s).second = s.second ∧
    (followDormant s).sent = s.sent ∧ (followDormant s).pending = s.pending := by
  simp only [followDormant]
  repeat' split
  all_goals simp

@[simp] theorem followTried_frame (s : State) :
    (followTried s).dialog = s.dialog ∧ (followTried s).standing = s.standing ∧ (followTried s).tariff = s.tariff ∧
    (followTried s).lane = s.lane ∧ (followTried s).journal = s.journal ∧ (followTried s).line = s.line ∧
    (followTried s).mgmt = s.mgmt ∧ (followTried s).params = s.params ∧ (followTried s).pins = s.pins ∧
    (followTried s).now = s.now ∧ (followTried s).second = s.second ∧ (followTried s).sent = s.sent ∧
    (followTried s).pending = s.pending := by
  simp only [followTried]
  repeat' split
  all_goals simp

@[simp] theorem follow_frame (s : State) :
    (follow s).dialog = s.dialog ∧ (follow s).standing = s.standing ∧ (follow s).tariff = s.tariff ∧
    (follow s).journal = s.journal ∧ (follow s).line = s.line ∧ (follow s).mgmt = s.mgmt ∧
    (follow s).params = s.params ∧ (follow s).pins = s.pins ∧ (follow s).now = s.now ∧ (follow s).second = s.second ∧
    (follow s).sent = s.sent ∧ (follow s).pending = s.pending := by
  simp [follow]

end Sys2Proof.Machine
end

