-- ==== Sys2Proof/Laws/Effect.lean ====
section
/-! SUPPORT. How a command takes effect at all: the outcomes of `effect`, and the way from a property that every meaning keeps to
one that every step keeps. -/

namespace Sys2Proof.Machine

open Sys2Proof

theorem effect_illFormed {c : Instr} {s : State} {r : State → Option State} (hw : c.wf = false) :
    effect c s r = .refused .illFormed := by simp [effect, hw]

theorem effect_underReset {c : Instr} {s : State} {r : State → Option State} (hw : c.wf = true)
    (hr : s.pins.reset = true) : effect c s r = .next s := by simp [effect, hw, hr]

theorem effect_none {c : Instr} {s : State} {r : State → Option State} (hw : c.wf = true) (hr : s.pins.reset = false)
    (h : r s = none) : effect c s r = .next s := by simp [effect, hw, hr, h]

theorem effect_some {c : Instr} {s t : State} {r : State → Option State} (hw : c.wf = true)
    (hr : s.pins.reset = false) (h : r s = some t) : effect c s r = .next (follow t) := by simp [effect, hw, hr, h]

/-- What a command that answers a next state has done: nothing, or its effect and what follows it. -/
theorem effect_next {c : Instr} {s t : State} {r : State → Option State} (h : effect c s r = .next t) :
    t = s ∨ ∃ u, s.pins.reset = false ∧ r s = some u ∧ t = follow u := by
  unfold effect at h
  split at h
  · cases h
  · split at h
    · exact .inl (Host.Outcome.next.inj h).symm
    · rename_i hr
      split at h
      · exact .inl (Host.Outcome.next.inj h).symm
      · rename_i u hu
        exact .inr ⟨u, by simpa using hr, hu, (Host.Outcome.next.inj h).symm⟩

/-- A property that a command's effect and what follows it keep is kept by the command. -/
theorem effect_keeps {P : State → Prop} {c : Instr} {s t : State} {r : State → Option State}
    (hf : ∀ u, P u → P (follow u)) (hr : ∀ u, r s = some u → P u) (hs : P s) (h : effect c s r = .next t) : P t := by
  obtain rfl | ⟨u, -, hu, rfl⟩ := effect_next h
  · exact hs
  · exact hf u (hr u hu)

/-- A step is the command at the front of the queue, or what the part does while none waits. -/
theorem step_next {s t : State} (h : step s = .next t) :
    (∃ c rest, s.pending = c :: rest ∧ exec c { s with pending := rest } = .next t) ∨ (s.pending = [] ∧ t = idle s) := by
  unfold step at h
  split at h
  · exact .inl ⟨_, _, by assumption, h⟩
  · exact .inr ⟨by assumption, (Host.Outcome.next.inj h).symm⟩

end Sys2Proof.Machine
end

