-- ==== Sys2Proof/Laws/Exec.lean ====
section
/-! SUPPORT. What each command does, as one equation over the shared operations: a proof rewrites by it and never unfolds the
dispatch. -/

namespace Sys2Proof.Machine

open Sys2Proof

theorem exec_coldReset (cause : ResetCause) (s : State) :
    exec (.coldReset cause) s =
      match cause with
      | .powerOn => .next (coldReset s)
      | .pinAsserted => .next (coldReset (s.onPins fun p => { p with reset := true }))
      | .pinReleased => .next (if s.pins.reset then coldReset (s.onPins fun p => { p with reset := false }) else s) := rfl

theorem exec_warmReset (s : State) :
    exec .warmReset s =
      effect .warmReset s fun t => if t.restartDue then some (warmReset t) else none := rfl

theorem exec_emergencyPinChange (asserted : Bool) (s : State) :
    exec (.emergencyPinChange asserted) s =
      if s.pins.reset then .next (s.onPins fun p => { p with emergency := asserted })
      else effect (.emergencyPinChange asserted) s fun t =>
        if t.pins.emergency = asserted then none
        else some ((t.onPins fun p => { p with emergency := asserted }).onLane fun l =>
          { l with emergencyFilter := if l.emergency = asserted then none else some Config.emergencyFilter }) := rfl

theorem exec_emergencyTaken (s : State) :
    exec .emergencyTaken s =
      effect .emergencyTaken s fun t => if t.lane.emergencyFilter.due then some (takeEmergency t.pins.emergency t) else none := rfl

theorem exec_linkPinChange (p : LinePort) (up : Bool) (s : State) :
    exec (.linkPinChange p up) s =
      if s.pins.reset then .next (s.onPins fun q => { q with link := q.link.put p up })
      else effect (.linkPinChange p up) s fun t =>
        if t.pins.link.get p = up then none
        else some ((t.onPins fun q => { q with link := q.link.put p up }).onLine fun l =>
          { l with linkFilter := l.linkFilter.put p (if l.link.get p = up then none else some Config.linkFilter) }) := rfl

theorem exec_linkTaken (p : LinePort) (s : State) :
    exec (.linkTaken p) s =
      effect (.linkTaken p) s fun t => if (t.line.linkFilter.get p).due then some (takeLink p (t.pins.link.get p) t) else none := rfl

theorem exec_holdInputChange (p : LinePort) (asserted : Bool) (s : State) :
    exec (.holdInputChange p asserted) s =
      if s.pins.reset then .next (s.onPins fun q => { q with hold := q.hold.put p asserted })
      else effect (.holdInputChange p asserted) s fun t => some (t.onPins fun q => { q with hold := q.hold.put p asserted }) := rfl

theorem exec_frameStart (p : LinePort) (s : State) :
    exec (.frameStart p) s =
      effect (.frameStart p) s fun t =>
        if t.line.link.get p = true ∧ t.line.receiving.get p = false then some (startReception p t) else none := rfl

theorem exec_frameEnd (p : LinePort) (bytes : List Byte) (endMark : Bool) (s : State) :
    exec (.frameEnd p bytes endMark) s =
      effect (.frameEnd p bytes endMark) s fun t =>
        if t.line.receiving.get p then some (endReception p bytes endMark t) else none := rfl

theorem exec_transmissionBegin (p : LinePort) (s : State) :
    exec (.transmissionBegin p) s =
      effect (.transmissionBegin p) s fun t => if t.transmits p then some (t.onBuffers (LineIf.pick p)) else none := rfl

theorem exec_transmissionEnd (p : LinePort) (s : State) :
    exec (.transmissionEnd p) s =
      effect (.transmissionEnd p) s fun t => (t.line.tx.get p).map fun b => endTransmission p b t := rfl

theorem exec_heldConversion (s : State) :
    exec .heldConversion s =
      effect .heldConversion s fun t => some (convertOne t) := rfl

theorem exec_silenceTimerExpiry (s : State) :
    exec .silenceTimerExpiry s =
      effect .silenceTimerExpiry s fun t =>
        if t.line.silenceTimer.due then some (t.onLine fun l => { l with silenceTimer := none, connected := false }) else none := rfl

theorem exec_enumerate (n : Byte) (s : State) :
    exec (.enumerate n) s =
      effect (.enumerate n) s fun t => arrive ⟨.up, true, 0, 0⟩ 0 [n] t := rfl

theorem exec_time (a : Arrival) (tag : Byte) (date secs : Nat) (s : State) :
    exec (.time a tag date secs) s =
      effect (.time a tag date secs) s (arriveCommand a tag (.time date secs)) := rfl

theorem exec_set (a : Arrival) (tag : Byte) (entries : List (Byte × Int)) (s : State) :
    exec (.set a tag entries) s =
      effect (.set a tag entries) s (arriveCommand a tag (.set entries)) := rfl

theorem exec_query (a : Arrival) (tag : Byte) (s : State) :
    exec (.query a tag) s =
      effect (.query a tag) s (arriveCommand a tag .query) := rfl

theorem exec_stageOpen (a : Arrival) (tag : Byte) (bankTag : Nat) (s : State) :
    exec (.stageOpen a tag bankTag) s =
      effect (.stageOpen a tag bankTag) s (arriveCommand a tag (.stageOpen bankTag)) := rfl

theorem exec_stageLoad (a : Arrival) (tag : Byte) (bankTag : Nat) (segment part : Byte) (values : List Byte) (s : State) :
    exec (.stageLoad a tag bankTag segment part values) s =
      effect (.stageLoad a tag bankTag segment part values) s (arriveCommand a tag (.stageLoad bankTag segment part values)) := rfl

theorem exec_stageSwitch (a : Arrival) (tag : Byte) (effective : Option (Nat × Nat)) (s : State) :
    exec (.stageSwitch a tag effective) s =
      effect (.stageSwitch a tag effective) s (arriveCommand a tag (.stageSwitch effective)) := rfl

theorem exec_stageDiscard (a : Arrival) (tag : Byte) (s : State) :
    exec (.stageDiscard a tag) s =
      effect (.stageDiscard a tag) s (arriveCommand a tag .stageDiscard) := rfl

theorem exec_denyAdd (a : Arrival) (tag : Byte) (cardId : Nat) (reason action : Byte) (s : State) :
    exec (.denyAdd a tag cardId reason action) s =
      effect (.denyAdd a tag cardId reason action) s (arriveCommand a tag (.denyAdd cardId reason action)) := rfl

theorem exec_denyDrop (a : Arrival) (tag : Byte) (cardId : Nat) (s : State) :
    exec (.denyDrop a tag cardId) s =
      effect (.denyDrop a tag cardId) s (arriveCommand a tag (.denyDrop cardId)) := rfl

theorem exec_collect (a : Arrival) (tag k : Byte) (s : State) :
    exec (.collect a tag k) s =
      effect (.collect a tag k) s (arriveCommand a tag (.collect k)) := rfl

theorem exec_trim (a : Arrival) (tag : Byte) (firstSeq n : Nat) (s : State) :
    exec (.trim a tag firstSeq n) s =
      effect (.trim a tag firstSeq n) s (arriveCommand a tag (.trim firstSeq n)) := rfl

theorem exec_laneMode (a : Arrival) (tag mode : Byte) (s : State) :
    exec (.laneMode a tag mode) s =
      effect (.laneMode a tag mode) s (arriveCommand a tag (.laneMode mode)) := rfl

theorem exec_ackStart (a : Arrival) (tag : Byte) (s : State) :
    exec (.ackStart a tag) s =
      effect (.ackStart a tag) s (arriveCommand a tag .ackStart) := rfl

theorem exec_restart (a : Arrival) (tag : Byte) (s : State) :
    exec (.restart a tag) s =
      effect (.restart a tag) s (arriveCommand a tag .restart) := rfl

theorem exec_unknownKind (a : Arrival) (kind : Byte) (payload : List Byte) (s : State) :
    exec (.unknownKind a kind payload) s =
      effect (.unknownKind a kind payload) s fun t => arrive a kind payload t := rfl

theorem exec_sight (a : Arrival) (x : SightPayload) (s : State) :
    exec (.sight a x) s =
      effect (.sight a x) s fun t => arrive a kindSight (SightPayload.bytes x) t := rfl

theorem exec_suspect (a : Arrival) (x : SuspectPayload) (s : State) :
    exec (.suspect a x) s =
      effect (.suspect a x) s fun t => arrive a kindSuspect (SuspectPayload.bytes x) t := rfl

theorem exec_clockAdvance (s : State) :
    exec .clockAdvance s =
      effect .clockAdvance s fun t => if t.second = 0 then some (advanceClock t) else none := rfl

theorem exec_timeAgeExpiry (s : State) :
    exec .timeAgeExpiry s =
      effect .timeAgeExpiry s fun t => if t.mgmt.timeAge.due then some (staleClock t) else none := rfl

theorem exec_switchApplication (s : State) :
    exec .switchApplication s =
      effect .switchApplication s fun t => t.switchBank.map fun b => applySwitch b t := rfl

theorem exec_recoveryExpiry (cardId : Nat) (s : State) :
    exec (.recoveryExpiry cardId) s =
      effect (.recoveryExpiry cardId) s fun t =>
        match t.recoveryOf cardId with
        | some e => if e.remaining = 0 then some (resolveUnresolved e .expired t) else none
        | none => none := rfl

theorem exec_pollTimerExpiry (p : Port) (s : State) :
    exec (.pollTimerExpiry p) s =
      effect (.pollTimerExpiry p) s fun t => if (t.ctx p).pollTimer.due then some (pollExpires p t) else none := rfl

theorem exec_senseAnswer (p : Port) (message : List Byte) (s : State) :
    exec (.senseAnswer p message) s =
      effect (.senseAnswer p message) s (onAnswer p .sense message fun _ e => senseEnds p e) := rfl

theorem exec_readAnswer (p : Port) (message : List Byte) (s : State) :
    exec (.readAnswer p message) s =
      effect (.readAnswer p message) s (onAnswer p .read message fun _ e => readEnds p e) := rfl

theorem exec_proveAnswer (p : Port) (message : List Byte) (s : State) :
    exec (.proveAnswer p message) s =
      effect (.proveAnswer p message) s (onAnswer p .prove message fun o e => proveEnds p (o.challenge.getD 0) e) := rfl

theorem exec_checkAnswer (message : List Byte) (s : State) :
    exec (.checkAnswer message) s =
      effect (.checkAnswer message) s (checkAnswered message) := rfl

theorem exec_proofTimeoutExpiry (s : State) :
    exec .proofTimeoutExpiry s =
      effect .proofTimeoutExpiry s fun t => if t.dialog.proofTimer.due then some (proofExpires t) else none := rfl

theorem exec_verbDeadlineExpiry (p : Port) (s : State) :
    exec (.verbDeadlineExpiry p) s =
      effect (.verbDeadlineExpiry p) s fun t =>
        match (t.port p).outstanding with
        | some o => if o.deadline = 0 then some (deadlineExpires p o t) else none
        | none => none := rfl

theorem exec_recheckBeforeCommit (p : Port) (s : State) :
    exec (.recheckBeforeCommit p) s =
      effect (.recheckBeforeCommit p) s fun t =>
        if t.recheckable p then (t.ctx p).image.map fun i => recheck p i t else none := rfl

theorem exec_markAnswer (p : Port) (message : List Byte) (s : State) :
    exec (.markAnswer p message) s =
      effect (.markAnswer p message) s (onAnswer p .mark message fun _ e => markEndsBy p e) := rfl

theorem exec_commitAnswer (p : Port) (message : List Byte) (s : State) :
    exec (.commitAnswer p message) s =
      effect (.commitAnswer p message) s (onAnswer p .commit message fun _ e => commitEnds p e) := rfl

theorem exec_confirmingReadAnswer (p : Port) (message : List Byte) (s : State) :
    exec (.confirmingReadAnswer p message) s =
      effect (.confirmingReadAnswer p message) s (onAnswer p .confirmRead message fun _ e t => some (confirmEnds p e t)) := rfl

theorem exec_reissuedCommitAnswer (p : Port) (message : List Byte) (s : State) :
    exec (.reissuedCommitAnswer p message) s =
      effect (.reissuedCommitAnswer p message) s (onAnswer p .reissue message fun _ e => reissueEnds p e) := rfl

theorem exec_sampleTimerExpiry (s : State) :
    exec .sampleTimerExpiry s =
      effect .sampleTimerExpiry s fun t => if t.beam.sampleTimer.due then some (sendSample (missPeriod t)) else none := rfl

theorem exec_sampleSet (message : List Byte) (s : State) :
    exec (.sampleSet message) s =
      effect (.sampleSet message) s fun t =>
        match parseSample message with
        | some (tag, levels) =>
          if tag = t.beam.senseTag ∧ t.beam.answered = false then some (processSample levels t) else none
        | none => none := rfl

theorem exec_anomaly (s : State) :
    exec .anomaly s =
      effect .anomaly s fun t =>
        if t.anomalyDue then some (intrusion none .anomaly (t.onBeam fun b => { b with bodies := markReported t.now b.bodies }))
        else none := rfl

theorem exec_creditLifeExpiry (s : State) :
    exec .creditLifeExpiry s =
      effect .creditLifeExpiry s fun t =>
        match t.servedCredit with
        | some (d, c) => if c.life = 0 then some (lapse d c .lifetime t) else none
        | none => none := rfl

theorem exec_waitLimitExpiry (d : Direction) (s : State) :
    exec (.waitLimitExpiry d) s =
      effect (.waitLimitExpiry d) s fun t => (t.waitedCredit d).map fun c => lapse d c .wait t := rfl

theorem exec_limitAsserted (atOpen atClosed : Bool) (s : State) :
    exec (.limitAsserted atOpen atClosed) s =
      if s.pins.reset then .next (s.onPins fun p => { p with atOpen := atOpen, atClosed := atClosed })
      else effect (.limitAsserted atOpen atClosed) s fun t =>
        some (readLimits atOpen atClosed (t.onPins fun p => { p with atOpen := atOpen, atClosed := atClosed })) := rfl

theorem exec_closeDelayExpiry (s : State) :
    exec .closeDelayExpiry s =
      effect .closeDelayExpiry s fun t =>
        if t.lane.closeTimer.due then some (closeTest (t.onLane fun l => { l with closeTimer := none })) else none := rfl

theorem exec_motionTimerExpiry (s : State) :
    exec .motionTimerExpiry s =
      effect .motionTimerExpiry s fun t => if t.lane.motionTimer.due then some (motionExpires t) else none := rfl

theorem exec_briskTimerExpiry (s : State) :
    exec .briskTimerExpiry s =
      effect .briskTimerExpiry s fun t =>
        if t.lane.briskTimer.due then
          some (t.onLane fun l =>
            { l with briskTimer := none, tempo := if t.beam.bodies.isEmpty then .steady else l.tempo })
        else none := rfl

theorem exec_dormantTimerExpiry (s : State) :
    exec .dormantTimerExpiry s =
      effect .dormantTimerExpiry s fun t =>
        if t.lane.dormantTimer.due then some (t.onLane fun l => { l with dormantTimer := none, tempo := .dormant }) else none := rfl

theorem exec_tallyGapExpiry (s : State) :
    exec .tallyGapExpiry s =
      effect .tallyGapExpiry s fun t =>
        if t.lane.tallyTimer.due then some (t.onLane (Lane.tallyGap t.params.tallyGap)) else none := rfl

end Sys2Proof.Machine
end

