-- ==== Sys2Proof/Laws/Follow.lean ====
section
/-! SUPPORT. What follows every step leaves of the lane and of the sensor: all but the brisk timer, the dormant timer and Tried. -/

namespace Sys2Proof.Machine

open Sys2Proof

@[simp] theorem followBrisk_laneRest (s : State) :
    (followBrisk s).lane.credits = s.lane.credits ∧ (followBrisk s).lane.reserved = s.lane.reserved ∧
    (followBrisk s).lane.nextCreditNo = s.lane.nextCreditNo ∧ (followBrisk s).lane.counts = s.lane.counts ∧
    (followBrisk s).lane.grant = s.lane.grant ∧ (followBrisk s).lane.lastServed = s.lane.lastServed ∧
    (followBrisk s).lane.flap = s.lane.flap ∧ (followBrisk s).lane.jam = s.lane.jam ∧
    (followBrisk s).lane.closeTimer = s.lane.closeTimer ∧ (followBrisk s).lane.motionTimer = s.lane.motionTimer ∧
    (followBrisk s).lane.flapZone = s.lane.flapZone ∧ (followBrisk s).lane.cmd = s.lane.cmd ∧
    (followBrisk s).lane.eff = s.lane.eff ∧ (followBrisk s).lane.emergency = s.lane.emergency ∧
    (followBrisk s).lane.emergencyFilter = s.lane.emergencyFilter ∧ (followBrisk s).lane.faultBeams = s.lane.faultBeams ∧
    (followBrisk s).lane.freeCount = s.lane.freeCount ∧ (followBrisk s).lane.tempo = s.lane.tempo ∧
    (followBrisk s).lane.tally = s.lane.tally ∧ (followBrisk s).lane.tallyPhase = s.lane.tallyPhase ∧
    (followBrisk s).lane.tallyTimer = s.lane.tallyTimer ∧ (followBrisk s).lane.tallyA = s.lane.tallyA ∧
    (followBrisk s).lane.tallyB = s.lane.tallyB := by
  simp only [followBrisk]
  repeat' split
  all_goals simp

@[simp] theorem followDormant_laneRest (s : State) :
    (followDormant s).lane.credits = s.lane.credits ∧ (followDormant s).lane.reserved = s.lane.reserved ∧
    (followDormant s).lane.nextCreditNo = s.lane.nextCreditNo ∧ (followDormant s).lane.counts = s.lane.counts ∧
    (followDormant s).lane.grant = s.lane.grant ∧ (followDormant s).lane.lastServed = s.lane.lastServed ∧
    (followDormant s).lane.flap = s.lane.flap ∧ (followDormant s).lane.jam = s.lane.jam ∧
    (followDormant s).lane.closeTimer = s.lane.closeTimer ∧ (followDormant s).lane.motionTimer = s.lane.motionTimer ∧
    (followDormant s).lane.flapZone = s.lane.flapZone ∧ (followDormant s).lane.cmd = s.lane.cmd ∧
    (followDormant s).lane.eff = s.lane.eff ∧ (followDormant s).lane.emergency = s.lane.emergency ∧
    (followDormant s).lane.emergencyFilter = s.lane.emergencyFilter ∧
    (followDormant s).lane.faultBeams = s.lane.faultBeams ∧ (followDormant s).lane.freeCount = s.lane.freeCount ∧
    (followDormant s).lane.tempo = s.lane.tempo ∧ (followDormant s).lane.tally = s.lane.tally ∧
    (followDormant s).lane.tallyPhase = s.lane.tallyPhase ∧ (followDormant s).lane.tallyTimer = s.lane.tallyTimer ∧
    (followDormant s).lane.tallyA = s.lane.tallyA ∧ (followDormant s).lane.tallyB = s.lane.tallyB := by
  simp only [followDormant]
  repeat' split
  all_goals simp

@[simp] theorem followTried_laneRest (s : State) :
    (followTried s).lane.credits = s.lane.credits ∧ (followTried s).lane.reserved = s.lane.reserved ∧
    (followTried s).lane.nextCreditNo = s.lane.nextCreditNo ∧ (followTried s).lane.counts = s.lane.counts ∧
    (followTried s).lane.grant = s.lane.grant ∧ (followTried s).lane.lastServed = s.lane.lastServed ∧
    (followTried s).lane.flap = s.lane.flap ∧ (followTried s).lane.jam = s.lane.jam ∧
    (followTried s).lane.closeTimer = s.lane.closeTimer ∧ (followTried s).lane.motionTimer = s.lane.motionTimer ∧
    (followTried s).lane.flapZone = s.lane.flapZone ∧ (followTried s).lane.cmd = s.lane.cmd ∧
    (followTried s).lane.eff = s.lane.eff ∧ (followTried s).lane.emergency = s.lane.emergency ∧
    (followTried s).lane.emergencyFilter = s.lane.emergencyFilter ∧ (followTried s).lane.faultBeams = s.lane.faultBeams ∧
    (followTried s).lane.freeCount = s.lane.freeCount ∧ (followTried s).lane.tempo = s.lane.tempo ∧
    (followTried s).lane.tally = s.lane.tally ∧ (followTried s).lane.tallyPhase = s.lane.tallyPhase ∧
    (followTried s).lane.tallyTimer = s.lane.tallyTimer ∧ (followTried s).lane.tallyA = s.lane.tallyA ∧
    (followTried s).lane.tallyB = s.lane.tallyB := by
  simp only [followTried]
  repeat' split
  all_goals simp

@[simp] theorem follow_laneRest (s : State) :
    (follow s).lane.credits = s.lane.credits ∧ (follow s).lane.reserved = s.lane.reserved ∧
    (follow s).lane.nextCreditNo = s.lane.nextCreditNo ∧ (follow s).lane.counts = s.lane.counts ∧
    (follow s).lane.grant = s.lane.grant ∧ (follow s).lane.lastServed = s.lane.lastServed ∧
    (follow s).lane.flap = s.lane.flap ∧ (follow s).lane.jam = s.lane.jam ∧
    (follow s).lane.closeTimer = s.lane.closeTimer ∧ (follow s).lane.motionTimer = s.lane.motionTimer ∧
    (follow s).lane.flapZone = s.lane.flapZone ∧ (follow s).lane.cmd = s.lane.cmd ∧ (follow s).lane.eff = s.lane.eff ∧
    (follow s).lane.emergency = s.lane.emergency ∧ (follow s).lane.emergencyFilter = s.lane.emergencyFilter ∧
    (follow s).lane.faultBeams = s.lane.faultBeams ∧ (follow s).lane.freeCount = s.lane.freeCount ∧
    (follow s).lane.tempo = s.lane.tempo ∧ (follow s).lane.tally = s.lane.tally ∧
    (follow s).lane.tallyPhase = s.lane.tallyPhase ∧ (follow s).lane.tallyTimer = s.lane.tallyTimer ∧
    (follow s).lane.tallyA = s.lane.tallyA ∧ (follow s).lane.tallyB = s.lane.tallyB := by
  simp [follow]

@[simp] theorem followTried_beamRest (s : State) :
    (followTried s).beam.bodies = s.beam.bodies ∧ (followTried s).beam.senseTag = s.beam.senseTag ∧
    (followTried s).beam.missed = s.beam.missed ∧ (followTried s).beam.silent = s.beam.silent ∧
    (followTried s).beam.trimBeam = s.beam.trimBeam ∧ (followTried s).beam.acquiring = s.beam.acquiring ∧
    (followTried s).beam.sampleTimer = s.beam.sampleTimer ∧ (followTried s).beam.answered = s.beam.answered := by
  simp only [followTried]
  repeat' split
  all_goals simp

@[simp] theorem follow_beamRest (s : State) :
    (follow s).beam.bodies = s.beam.bodies ∧ (follow s).beam.senseTag = s.beam.senseTag ∧
    (follow s).beam.missed = s.beam.missed ∧ (follow s).beam.silent = s.beam.silent ∧
    (follow s).beam.trimBeam = s.beam.trimBeam ∧ (follow s).beam.acquiring = s.beam.acquiring ∧
    (follow s).beam.sampleTimer = s.beam.sampleTimer ∧ (follow s).beam.answered = s.beam.answered := by
  simp [follow]

/-- A reading of the beams' records that does not look at Tried. -/
theorem follow_records {α : Type} (g : BeamRecord → α) (h : ∀ r, g { r with tried := false } = g r) (s : State) :
    (follow s).beam.records.map g = s.beam.records.map g := by
  have tried : ∀ u : State, (followTried u).beam.records.map g = u.beam.records.map g := by
    intro u
    unfold followTried
    split
    · rfl
    · simp [State.onBeam, Six.map, h]
  simp [follow, tried]

end Sys2Proof.Machine
end

