-- ==== Sys2Proof/Laws/Dialog.lean ====
section
/-! SUPPORT. The card dialogs' shared operations as equations: how an answer is taken, how a verb ends, how one is issued, how a
SHOW goes out, and what a refusal leaves. -/

namespace Sys2Proof.Machine

open Sys2Proof

/-! ### Answers -/

/-- R3: what the ending of a verb does, by its purpose. -/
def onEnd (p : Port) (u : Purpose) (o : Outstanding) (e : Ending) : State → Option State :=
  match u with
  | .sense => senseEnds p e
  | .read => readEnds p e
  | .prove => proveEnds p (o.challenge.getD 0) e
  | .commit => commitEnds p e
  | .mark => markEndsBy p e
  | .confirmRead => fun t => some (confirmEnds p e t)
  | .reissue => reissueEnds p e

theorem answerCommand_wf (u : Purpose) (p : Port) (m : List Byte) : (u.answerCommand p m).wf = true := by cases u <;> rfl

theorem exec_answerCommand (u : Purpose) (p : Port) (m : List Byte) (s : State) :
    exec (u.answerCommand p m) s = effect (u.answerCommand p m) s (onAnswer p u m (onEnd p u)) := by
  cases u <;> rfl

/-- R3: an answer that is taken: the verb ends, and its ending acts. -/
theorem exec_answered {s : State} {p : Port} {u : Purpose} {m : List Byte} {e : Ending} (hr : s.pins.reset = false)
    (h : s.answeredBy p u m e) :
    ∃ o, (s.port p).outstanding = some o ∧
      ∀ t, onEnd p u o e (endVerb p s) = some t → exec (u.answerCommand p m) s = .next (follow t) := by
  obtain ⟨o, ho, hu, hd, hp⟩ := h
  refine ⟨o, ho, fun t ht => ?_⟩
  rw [exec_answerCommand]
  refine effect_some (answerCommand_wf u p m) hr ?_
  simpa [onAnswer, ho, hp, hu, hd] using ht

/-! ### Verbs and SHOWs -/

/-- R2: a verb has ended: nothing is outstanding, and the pending SHOW has gone out. -/
theorem endVerb_eq (p : Port) (s : State) :
    endVerb p s =
      { s with dialog := { s.dialog with port := s.dialog.port.put p (s.port p).ended }, sent := s.shown p } := by
  obtain ⟨⟨⟨ca, cb⟩, ⟨⟨ta, oa, pa⟩, ⟨tb, ob, pb⟩⟩, q, pt, pti, cn⟩, st, ta', be, la, jo, li, mg, pr, pi, nw, sc, se, pe⟩ := s
  cases p
  · cases pa <;> rfl
  · cases pb <;> rfl

@[simp] theorem endVerb_outstanding (p : Port) (s : State) : ((endVerb p s).port p).outstanding = none := by
  simp [endVerb_eq, State.port, PortLink.ended]

@[simp] theorem endVerb_pendingShow (p : Port) (s : State) : ((endVerb p s).port p).pendingShow = none := by
  simp [endVerb_eq, State.port, PortLink.ended]

@[simp] theorem endVerb_ctx (p q : Port) (s : State) : (endVerb p s).ctx q = s.ctx q := by simp [endVerb_eq, State.ctx]

/-- R2, R8: a verb issued on a port with none outstanding: any pending SHOW first, then the verb with a new Tag. -/
theorem issue_eq (p : Port) (u : Purpose) (s : State) (h : (s.port p).outstanding = none) :
    issue p u s =
      { s with
        dialog := { s.dialog with
          port := s.dialog.port.put p ((s.port p).issued u s.params
            (if u = .prove then some (Config.challenge s.dialog.challengeNo) else none))
          challengeNo := s.dialog.challengeNo + if u = .prove then 1 else 0 }
        sent := .verb p (nextTag (s.port p).tag) (s.verbFor p u) :: s.shown p } := by
  obtain ⟨⟨⟨ca, cb⟩, ⟨⟨ta, oa, pa⟩, ⟨tb, ob, pb⟩⟩, q, pt, pti, cn⟩, st, ta', be, la, jo, li, mg, pr, pi, nw, sc, se, pe⟩ := s
  cases p <;> simp [State.port, ByPort.get] at h <;> subst h
  · cases pa <;> cases u <;>
      simp [issue, flushShow, State.onPort, State.onDialog, State.port, ByPort.get, ByPort.put, State.shown, State.send,
        PortLink.issued, State.drawn, drawChallenge, State.verbFor, State.ctx]
  · cases pb <;> cases u <;>
      simp [issue, flushShow, State.onPort, State.onDialog, State.port, ByPort.get, ByPort.put, State.shown, State.send,
        PortLink.issued, State.drawn, drawChallenge, State.verbFor, State.ctx]

/-- R2: a SHOW goes out at once on a port with no verb outstanding and no SHOW pending. -/
theorem showNow_eq (p : Port) (w : Show) (s : State) (h : (s.port p).outstanding = none)
    (h2 : (s.port p).pendingShow = none) :
    showNow p w s = { s with sent := .display p (s.port p).tag w :: s.sent } := by
  obtain ⟨⟨⟨ca, cb⟩, ⟨⟨ta, oa, pa⟩, ⟨tb, ob, pb⟩⟩, q, pt, pti, cn⟩, st, ta', be, la, jo, li, mg, pr, pi, nw, sc, se, pe⟩ := s
  cases p <;> simp [State.port, ByPort.get] at h h2 <;> subst h h2 <;>
    simp [showNow, flushShow, State.onPort, State.onDialog, State.port, ByPort.get, ByPort.put, State.send]

/-- R4: the verb outstanding ends unanswered: by its deadline, by GARBLED, or by another card's image. -/
theorem exec_unanswered {p : Port} {u : Purpose} {c : Instr} {s : State} (hr : s.pins.reset = false)
    (h : s.endsUnanswered p u c) : exec c s = .next (follow (noAnswer p u (endVerb p s))) := by
  rcases h with ⟨rfl, o, ho, hu, hd, ht⟩ | ⟨m, rfl, h⟩ | ⟨rfl, m, b, oth, rfl, h, hi, hne⟩
  · rw [exec_verbDeadlineExpiry]
    refine effect_some rfl hr ?_
    simp [ho, ht, deadlineExpires, hd, hu]
  · obtain ⟨o, ho, h3⟩ := exec_answered hr h
    refine h3 _ ?_
    cases u <;> rfl
  · obtain ⟨o, ho, h3⟩ := exec_answered hr h
    refine h3 _ ?_
    simp [onEnd, readEnds, hi, hne, noAnswer]

/-! ### Refusals -/

/-- R147: an append puts the record at the tail and leaves the rest of the journal to `take`. -/
theorem appendRecord_journal (take : Journal → Journal) (c : Content) (s : State) :
    (appendRecord take c s).journal =
      (take s.journal).append c s.stamp (!s.line.connected) (s.clock.state != .good) := by
  simp only [appendRecord]
  split <;> simp

theorem dropJournalRes_ctx (p : Port) (s : State) : (dropJournalRes p s).ctx p = { s.ctx p with journalRes := 0 } := by
  simp [dropJournalRes, State.ctx, State.onCtx, State.onDialog, releaseJournal, State.onJournal]

theorem dropCreditRes_eq (p : Port) (s : State) :
    (dropCreditRes p s).ctx p = { s.ctx p with creditRes := false } ∧ (dropCreditRes p s).journal = s.journal
      ∧ (dropCreditRes p s).line = s.line ∧ (dropCreditRes p s).mgmt = s.mgmt
      ∧ (dropCreditRes p s).dialog.port = s.dialog.port ∧ (dropCreditRes p s).sent = s.sent := by
  unfold dropCreditRes
  split
  · simp [releaseCredit, State.ctx, State.onCtx, State.onDialog, State.onLane]
  · rename_i h
    simp only [and_true]
    generalize s.ctx p = x at h
    obtain ⟨⟩ := x
    simp at h
    subst h
    rfl

/-- R23, step 2: the record of a refusal, and the journal slots given back. -/
theorem refusalRecord_eq (p : Port) (code : RefusalCode) (s : State) :
    (refusalRecord p code s).ctx p = { s.ctx p with journalRes := 0 } ∧ (refusalRecord p code s).sent = s.sent
      ∧ (refusalRecord p code s).dialog.port = s.dialog.port
      ∧ (code ≠ .clone → (refusalRecord p code s).journal.records = s.journal.records ++
        if (s.ctx p).journalRes = 0 ∧ s.journal.free ≤ 16 then []
        else [s.recordOf { kind := .refusal, direction := some (portDirection p), cardId := (s.ctx p).cardId
                           reason := some (.refusal code) }]) := by
  have kept : ∀ u : State, (dropJournalRes p u).dialog.port = u.dialog.port ∧ (dropJournalRes p u).sent = u.sent := by
    intro u
    simp [dropJournalRes, State.onCtx, State.onDialog, releaseJournal, State.onJournal]
  simp only [refusalRecord]
  split
  · rename_i h
    simp [dropJournalRes_ctx, kept, h]
  · split
    · rename_i h h2
      refine ⟨?_, by simp [appendOpenRefusal]; split <;> simp, by simp [appendOpenRefusal]; split <;> simp, fun _ => ?_⟩
      · have : (appendOpenRefusal (refusalContent p (s.ctx p).cardId code) s).ctx p = s.ctx p := by simp [State.ctx]
        rw [this]
        generalize s.ctx p = x at h2
        obtain ⟨⟩ := x
        simp at h2
        subst h2
        rfl
      · simp only [appendOpenRefusal, Config.journalReserve]
        split
        · rw [appendRecord_journal, if_neg (by omega)]
          simp [Journal.append, State.recordOf, refusalContent]
        · rw [if_pos (by omega)]
          simp
    · rename_i h h2
      refine ⟨?_, ?_, ?_, fun _ => ?_⟩
      · rw [dropJournalRes_ctx]
        simp [appendReserved, State.ctx, State.onCtx, State.onDialog]
      · rw [(kept _).2]
        simp [appendReserved, State.onCtx, State.onDialog]
      · rw [(kept _).1]
        simp [appendReserved, State.onCtx, State.onDialog]
      · rw [if_neg (by simp [h2])]
        simp [dropJournalRes, releaseJournal, appendReserved, appendRecord_journal, State.onCtx, State.onDialog,
          State.onJournal, Journal.append, State.recordOf, refusalContent, State.stamp, State.clock]
        rfl

/-- R22, R23: what a refusal without a MARK leaves, on a port with no verb outstanding and no SHOW pending. -/
theorem refuse_refusedTo (p : Port) (code : RefusalCode) (amount : Option Nat) (s : State)
    (ho : (s.port p).outstanding = none) (hs : (s.port p).pendingShow = none) :
    s.refusedTo (follow (refuse p code false amount s)) p code amount := by
  obtain ⟨d1, d2, d3, d4, d5, d6⟩ := dropCreditRes_eq p s
  obtain ⟨r1, r2, r3, r4⟩ := refusalRecord_eq p code (dropCreditRes p s)
  simp only [refuse]
  generalize refusalRecord p code (dropCreditRes p s) = t at *
  simp only [Bool.false_eq_true, if_false]
  have hp : t.port p = s.port p := by simp only [State.port, r3, d5]
  rw [showNow_eq _ _ _ (by rw [hp]; exact ho) (by rw [hp]; exact hs)]
  have hc : t.ctx p = { s.ctx p with creditRes := false, journalRes := 0 } := by rw [r1, d1]
  have hsent : t.sent = s.sent := by rw [r2, d6]
  have hj : code ≠ .clone → t.journal.records = s.journal.records ++
      if (s.ctx p).journalRes = 0 ∧ s.journal.free ≤ 16 then []
      else [s.recordOf { kind := .refusal, direction := some (portDirection p), cardId := (s.ctx p).cardId
                         reason := some (.refusal code) }] := by
    intro h
    rw [r4 h, d1, d2]
    have same : ∀ x, (dropCreditRes p s).recordOf x = s.recordOf x := by
      intro x
      simp only [State.recordOf, d2, d3, State.stamp, State.clock, d4]
      rfl
    rw [same]
  have hc' : t.dialog.ctx.get p = _ := hc
  have hp' : t.dialog.port.get p = s.port p := hp
  have ho' : (t.dialog.port.get p).outstanding = none := by rw [hp']; exact ho
  unfold State.refusedTo
  simp only [withdraw]
  split <;> rename_i h <;> simp [State.ctx, hc'] at h <;>
    (refine ⟨?_, fun hne => ?_, ?_, ?_, ?_, ?_, ?_, ?_, ?_⟩ <;>
      simp_all [toHolding, startPoll, State.onCtx, State.onDialog, State.onStanding, State.ctx, State.port, refusalShow])

end Sys2Proof.Machine
end

