-- ==== Sys2Proof/Laws/LaneFrames.lean ====
section
/-! SUPPORT. What the operations of credits, grant, flaps, crossings and dialogs leave unchanged of the lane: the commanded and the
effective mode, and what the effective mode is derived from. -/

namespace Sys2Proof.Machine

open Sys2Proof

@[simp] theorem Lane.toggleTally_keeps (d : Direction) (l : Lane) :
    (l.toggleTally d).cmd = l.cmd ∧ (l.toggleTally d).eff = l.eff ∧ (l.toggleTally d).emergency = l.emergency ∧
    (l.toggleTally d).emergencyFilter = l.emergencyFilter ∧ (l.toggleTally d).jam = l.jam ∧ (l.toggleTally d).faultBeams = l.faultBeams := by
  cases d <;> simp [Lane.toggleTally]

@[simp] theorem Lane.beginTally_keeps (g : Nat) (l : Lane) :
    (l.beginTally g).cmd = l.cmd ∧ (l.beginTally g).eff = l.eff ∧ (l.beginTally g).emergency = l.emergency ∧
    (l.beginTally g).emergencyFilter = l.emergencyFilter ∧ (l.beginTally g).jam = l.jam ∧ (l.beginTally g).faultBeams = l.faultBeams := by
  unfold Lane.beginTally; split <;> simp

@[simp] theorem Lane.dropLapsed_keeps (d : Direction) (c : Credit) (l : Lane) :
    (l.dropLapsed d c).cmd = l.cmd ∧ (l.dropLapsed d c).eff = l.eff ∧ (l.dropLapsed d c).emergency = l.emergency ∧
    (l.dropLapsed d c).emergencyFilter = l.emergencyFilter ∧ (l.dropLapsed d c).jam = l.jam ∧ (l.dropLapsed d c).faultBeams = l.faultBeams := by
  simp [Lane.dropLapsed]

@[simp] theorem Lane.join_keeps (d : Direction) (c : Credit) (l : Lane) :
    (l.join d c).cmd = l.cmd ∧ (l.join d c).eff = l.eff ∧ (l.join d c).emergency = l.emergency ∧
    (l.join d c).emergencyFilter = l.emergencyFilter ∧ (l.join d c).jam = l.jam ∧ (l.join d c).faultBeams = l.faultBeams := by
  simp [Lane.join]

@[simp] theorem Lane.consume_keeps (d : Direction) (l : Lane) :
    (l.consume d).cmd = l.cmd ∧ (l.consume d).eff = l.eff ∧ (l.consume d).emergency = l.emergency ∧
    (l.consume d).emergencyFilter = l.emergencyFilter ∧ (l.consume d).jam = l.jam ∧ (l.consume d).faultBeams = l.faultBeams := by
  simp [Lane.consume]

@[simp] theorem startMotion_lane (f : Flap) (s : State) :
    (startMotion f s).lane.cmd = s.lane.cmd ∧ (startMotion f s).lane.eff = s.lane.eff ∧
    (startMotion f s).lane.emergency = s.lane.emergency ∧
    (startMotion f s).lane.emergencyFilter = s.lane.emergencyFilter ∧ (startMotion f s).lane.jam = s.lane.jam ∧
    (startMotion f s).lane.faultBeams = s.lane.faultBeams := by
  simp [startMotion]

@[simp] theorem openTest_lane (s : State) :
    (openTest s).lane.cmd = s.lane.cmd ∧ (openTest s).lane.eff = s.lane.eff ∧
    (openTest s).lane.emergency = s.lane.emergency ∧ (openTest s).lane.emergencyFilter = s.lane.emergencyFilter ∧
    (openTest s).lane.jam = s.lane.jam ∧ (openTest s).lane.faultBeams = s.lane.faultBeams := by
  simp only [openTest]
  repeat' split
  all_goals simp

@[simp] theorem closeTest_lane (s : State) :
    (closeTest s).lane.cmd = s.lane.cmd ∧ (closeTest s).lane.eff = s.lane.eff ∧
    (closeTest s).lane.emergency = s.lane.emergency ∧ (closeTest s).lane.emergencyFilter = s.lane.emergencyFilter ∧
    (closeTest s).lane.jam = s.lane.jam ∧ (closeTest s).lane.faultBeams = s.lane.faultBeams := by
  simp only [closeTest]
  repeat' split
  all_goals simp

@[simp] theorem startCloseDelay_lane (s : State) :
    (startCloseDelay s).lane.cmd = s.lane.cmd ∧ (startCloseDelay s).lane.eff = s.lane.eff ∧
    (startCloseDelay s).lane.emergency = s.lane.emergency ∧
    (startCloseDelay s).lane.emergencyFilter = s.lane.emergencyFilter ∧ (startCloseDelay s).lane.jam = s.lane.jam ∧
    (startCloseDelay s).lane.faultBeams = s.lane.faultBeams := by
  simp [startCloseDelay]

@[simp] theorem flapZoneReport_lane (b : Bool) (s : State) :
    (flapZoneReport b s).lane.cmd = s.lane.cmd ∧ (flapZoneReport b s).lane.eff = s.lane.eff ∧
    (flapZoneReport b s).lane.emergency = s.lane.emergency ∧
    (flapZoneReport b s).lane.emergencyFilter = s.lane.emergencyFilter ∧ (flapZoneReport b s).lane.jam = s.lane.jam ∧
    (flapZoneReport b s).lane.faultBeams = s.lane.faultBeams := by
  simp only [flapZoneReport]
  repeat' split
  all_goals simp

@[simp] theorem arbitrate_lane (s : State) :
    (arbitrate s).lane.cmd = s.lane.cmd ∧ (arbitrate s).lane.eff = s.lane.eff ∧
    (arbitrate s).lane.emergency = s.lane.emergency ∧ (arbitrate s).lane.emergencyFilter = s.lane.emergencyFilter ∧
    (arbitrate s).lane.jam = s.lane.jam ∧ (arbitrate s).lane.faultBeams = s.lane.faultBeams := by
  simp only [arbitrate]
  repeat' split
  all_goals simp

@[simp] theorem releaseTest_lane (s : State) :
    (releaseTest s).lane.cmd = s.lane.cmd ∧ (releaseTest s).lane.eff = s.lane.eff ∧
    (releaseTest s).lane.emergency = s.lane.emergency ∧ (releaseTest s).lane.emergencyFilter = s.lane.emergencyFilter ∧
    (releaseTest s).lane.jam = s.lane.jam ∧ (releaseTest s).lane.faultBeams = s.lane.faultBeams := by
  simp only [releaseTest]
  repeat' split
  all_goals simp

@[simp] theorem reserveCredit_lane (d : Direction) (s : State) :
    (reserveCredit d s).lane.cmd = s.lane.cmd ∧ (reserveCredit d s).lane.eff = s.lane.eff ∧
    (reserveCredit d s).lane.emergency = s.lane.emergency ∧
    (reserveCredit d s).lane.emergencyFilter = s.lane.emergencyFilter ∧ (reserveCredit d s).lane.jam = s.lane.jam ∧
    (reserveCredit d s).lane.faultBeams = s.lane.faultBeams := by
  simp [reserveCredit]

@[simp] theorem releaseCredit_lane (d : Direction) (s : State) :
    (releaseCredit d s).lane.cmd = s.lane.cmd ∧ (releaseCredit d s).lane.eff = s.lane.eff ∧
    (releaseCredit d s).lane.emergency = s.lane.emergency ∧
    (releaseCredit d s).lane.emergencyFilter = s.lane.emergencyFilter ∧ (releaseCredit d s).lane.jam = s.lane.jam ∧
    (releaseCredit d s).lane.faultBeams = s.lane.faultBeams := by
  simp [releaseCredit]

@[simp] theorem creditLeft_lane (d : Direction) (s : State) :
    (creditLeft d s).lane.cmd = s.lane.cmd ∧ (creditLeft d s).lane.eff = s.lane.eff ∧
    (creditLeft d s).lane.emergency = s.lane.emergency ∧
    (creditLeft d s).lane.emergencyFilter = s.lane.emergencyFilter ∧ (creditLeft d s).lane.jam = s.lane.jam ∧
    (creditLeft d s).lane.faultBeams = s.lane.faultBeams := by
  simp only [creditLeft]
  repeat' split
  all_goals simp

@[simp] theorem lapse_lane (d : Direction) (c : Credit) (r : LapseReason) (s : State) :
    (lapse d c r s).lane.cmd = s.lane.cmd ∧ (lapse d c r s).lane.eff = s.lane.eff ∧
    (lapse d c r s).lane.emergency = s.lane.emergency ∧ (lapse d c r s).lane.emergencyFilter = s.lane.emergencyFilter ∧
    (lapse d c r s).lane.jam = s.lane.jam ∧ (lapse d c r s).lane.faultBeams = s.lane.faultBeams := by
  simp [lapse]

@[simp] theorem flush_lane (d : Direction) (s : State) :
    (flush d s).lane.cmd = s.lane.cmd ∧ (flush d s).lane.eff = s.lane.eff ∧
    (flush d s).lane.emergency = s.lane.emergency ∧ (flush d s).lane.emergencyFilter = s.lane.emergencyFilter ∧
    (flush d s).lane.jam = s.lane.jam ∧ (flush d s).lane.faultBeams = s.lane.faultBeams := by
  have h := foldl_frame (fun s : State => (s.lane.cmd, s.lane.eff, s.lane.emergency, s.lane.emergencyFilter, s.lane.jam, s.lane.faultBeams))
    (fun t c => lapse d c .flush t) (by simp) (s.lane.credits.get d) s
  unfold flush
  simpa only [Prod.mk.injEq] using h

@[simp] theorem joinCredit_lane (d : Direction) (k : CreditKind) (c : Nat) (s : State) :
    (joinCredit d k c s).lane.cmd = s.lane.cmd ∧ (joinCredit d k c s).lane.eff = s.lane.eff ∧
    (joinCredit d k c s).lane.emergency = s.lane.emergency ∧
    (joinCredit d k c s).lane.emergencyFilter = s.lane.emergencyFilter ∧ (joinCredit d k c s).lane.jam = s.lane.jam ∧
    (joinCredit d k c s).lane.faultBeams = s.lane.faultBeams := by
  simp only [joinCredit]
  repeat' split
  all_goals simp

@[simp] theorem makeBrisk_lane (s : State) :
    (makeBrisk s).lane.cmd = s.lane.cmd ∧ (makeBrisk s).lane.eff = s.lane.eff ∧
    (makeBrisk s).lane.emergency = s.lane.emergency ∧ (makeBrisk s).lane.emergencyFilter = s.lane.emergencyFilter ∧
    (makeBrisk s).lane.jam = s.lane.jam ∧ (makeBrisk s).lane.faultBeams = s.lane.faultBeams := by
  simp [makeBrisk]

@[simp] theorem tallyStep_lane (d : Direction) (s : State) :
    (tallyStep d s).lane.cmd = s.lane.cmd ∧ (tallyStep d s).lane.eff = s.lane.eff ∧
    (tallyStep d s).lane.emergency = s.lane.emergency ∧ (tallyStep d s).lane.emergencyFilter = s.lane.emergencyFilter ∧
    (tallyStep d s).lane.jam = s.lane.jam ∧ (tallyStep d s).lane.faultBeams = s.lane.faultBeams := by
  simp only [tallyStep]
  repeat' split
  all_goals simp

@[simp] theorem pay_lane (d : Direction) (long : Bool) (c : Credit) (rest : List Credit) (s : State) :
    (pay d long c rest s).lane.cmd = s.lane.cmd ∧ (pay d long c rest s).lane.eff = s.lane.eff ∧
    (pay d long c rest s).lane.emergency = s.lane.emergency ∧
    (pay d long c rest s).lane.emergencyFilter = s.lane.emergencyFilter ∧ (pay d long c rest s).lane.jam = s.lane.jam ∧
    (pay d long c rest s).lane.faultBeams = s.lane.faultBeams := by
  simp only [pay]
  repeat' split
  all_goals simp

@[simp] theorem freeCrossing_lane (s : State) :
    (freeCrossing s).lane.cmd = s.lane.cmd ∧ (freeCrossing s).lane.eff = s.lane.eff ∧
    (freeCrossing s).lane.emergency = s.lane.emergency ∧
    (freeCrossing s).lane.emergencyFilter = s.lane.emergencyFilter ∧ (freeCrossing s).lane.jam = s.lane.jam ∧
    (freeCrossing s).lane.faultBeams = s.lane.faultBeams := by
  simp [freeCrossing]

@[simp] theorem judgeCrossing_lane (d : Direction) (long : Bool) (s : State) :
    (judgeCrossing d long s).lane.cmd = s.lane.cmd ∧ (judgeCrossing d long s).lane.eff = s.lane.eff ∧
    (judgeCrossing d long s).lane.emergency = s.lane.emergency ∧
    (judgeCrossing d long s).lane.emergencyFilter = s.lane.emergencyFilter ∧
    (judgeCrossing d long s).lane.jam = s.lane.jam ∧ (judgeCrossing d long s).lane.faultBeams = s.lane.faultBeams := by
  simp only [judgeCrossing]
  repeat' split
  all_goals simp

@[simp] theorem crossing_lane (d : Direction) (long : Bool) (s : State) :
    (crossing d long s).lane.cmd = s.lane.cmd ∧ (crossing d long s).lane.eff = s.lane.eff ∧
    (crossing d long s).lane.emergency = s.lane.emergency ∧
    (crossing d long s).lane.emergencyFilter = s.lane.emergencyFilter ∧ (crossing d long s).lane.jam = s.lane.jam ∧
    (crossing d long s).lane.faultBeams = s.lane.faultBeams := by
  simp [crossing]

@[simp] theorem startDialog_lane (p : Port) (c : Nat) (s : State) :
    (startDialog p c s).lane.cmd = s.lane.cmd ∧ (startDialog p c s).lane.eff = s.lane.eff ∧
    (startDialog p c s).lane.emergency = s.lane.emergency ∧
    (startDialog p c s).lane.emergencyFilter = s.lane.emergencyFilter ∧ (startDialog p c s).lane.jam = s.lane.jam ∧
    (startDialog p c s).lane.faultBeams = s.lane.faultBeams := by
  simp [startDialog]

@[simp] theorem dropCreditRes_lane (p : Port) (s : State) :
    (dropCreditRes p s).lane.cmd = s.lane.cmd ∧ (dropCreditRes p s).lane.eff = s.lane.eff ∧
    (dropCreditRes p s).lane.emergency = s.lane.emergency ∧
    (dropCreditRes p s).lane.emergencyFilter = s.lane.emergencyFilter ∧ (dropCreditRes p s).lane.jam = s.lane.jam ∧
    (dropCreditRes p s).lane.faultBeams = s.lane.faultBeams := by
  simp only [dropCreditRes]
  repeat' split
  all_goals simp

@[simp] theorem refuse_lane (p : Port) (code : RefusalCode) (mark : Bool) (amount : Option Nat) (s : State) :
    (refuse p code mark amount s).lane.cmd = s.lane.cmd ∧ (refuse p code mark amount s).lane.eff = s.lane.eff ∧
    (refuse p code mark amount s).lane.emergency = s.lane.emergency ∧
    (refuse p code mark amount s).lane.emergencyFilter = s.lane.emergencyFilter ∧
    (refuse p code mark amount s).lane.jam = s.lane.jam ∧
    (refuse p code mark amount s).lane.faultBeams = s.lane.faultBeams := by
  simp only [refuse]
  repeat' split
  all_goals simp

@[simp] theorem takeCreditRes_lane (p : Port) (s : State) :
    (takeCreditRes p s).lane.cmd = s.lane.cmd ∧ (takeCreditRes p s).lane.eff = s.lane.eff ∧
    (takeCreditRes p s).lane.emergency = s.lane.emergency ∧
    (takeCreditRes p s).lane.emergencyFilter = s.lane.emergencyFilter ∧ (takeCreditRes p s).lane.jam = s.lane.jam ∧
    (takeCreditRes p s).lane.faultBeams = s.lane.faultBeams := by
  simp [takeCreditRes]

@[simp] theorem keepIntended_lane (p : Port) (i : Intended) (s : State) :
    (keepIntended p i s).lane.cmd = s.lane.cmd ∧ (keepIntended p i s).lane.eff = s.lane.eff ∧
    (keepIntended p i s).lane.emergency = s.lane.emergency ∧
    (keepIntended p i s).lane.emergencyFilter = s.lane.emergencyFilter ∧ (keepIntended p i s).lane.jam = s.lane.jam ∧
    (keepIntended p i s).lane.faultBeams = s.lane.faultBeams := by
  simp only [keepIntended]
  repeat' split
  all_goals simp

@[simp] theorem enterReckoning_lane (p : Port) (s : State) :
    (enterReckoning p s).lane.cmd = s.lane.cmd ∧ (enterReckoning p s).lane.eff = s.lane.eff ∧
    (enterReckoning p s).lane.emergency = s.lane.emergency ∧
    (enterReckoning p s).lane.emergencyFilter = s.lane.emergencyFilter ∧ (enterReckoning p s).lane.jam = s.lane.jam ∧
    (enterReckoning p s).lane.faultBeams = s.lane.faultBeams := by
  simp only [enterReckoning]
  repeat' split
  all_goals simp

@[simp] theorem readyToReckon_lane (p : Port) (s : State) :
    (readyToReckon p s).lane.cmd = s.lane.cmd ∧ (readyToReckon p s).lane.eff = s.lane.eff ∧
    (readyToReckon p s).lane.emergency = s.lane.emergency ∧
    (readyToReckon p s).lane.emergencyFilter = s.lane.emergencyFilter ∧ (readyToReckon p s).lane.jam = s.lane.jam ∧
    (readyToReckon p s).lane.faultBeams = s.lane.faultBeams := by
  simp only [readyToReckon]
  repeat' split
  all_goals simp

@[simp] theorem releaseHeldContext_lane (p : Port) (s : State) :
    (releaseHeldContext p s).lane.cmd = s.lane.cmd ∧ (releaseHeldContext p s).lane.eff = s.lane.eff ∧
    (releaseHeldContext p s).lane.emergency = s.lane.emergency ∧
    (releaseHeldContext p s).lane.emergencyFilter = s.lane.emergencyFilter ∧
    (releaseHeldContext p s).lane.jam = s.lane.jam ∧ (releaseHeldContext p s).lane.faultBeams = s.lane.faultBeams := by
  simp only [releaseHeldContext]
  repeat' split
  all_goals simp

@[simp] theorem releaseHeldContexts_lane (s : State) :
    (releaseHeldContexts s).lane.cmd = s.lane.cmd ∧ (releaseHeldContexts s).lane.eff = s.lane.eff ∧
    (releaseHeldContexts s).lane.emergency = s.lane.emergency ∧
    (releaseHeldContexts s).lane.emergencyFilter = s.lane.emergencyFilter ∧
    (releaseHeldContexts s).lane.jam = s.lane.jam ∧ (releaseHeldContexts s).lane.faultBeams = s.lane.faultBeams := by
  simp [releaseHeldContexts]

@[simp] theorem spendCreditRes_lane (p : Port) (k : CreditKind) (c : Nat) (s : State) :
    (spendCreditRes p k c s).lane.cmd = s.lane.cmd ∧ (spendCreditRes p k c s).lane.eff = s.lane.eff ∧
    (spendCreditRes p k c s).lane.emergency = s.lane.emergency ∧
    (spendCreditRes p k c s).lane.emergencyFilter = s.lane.emergencyFilter ∧
    (spendCreditRes p k c s).lane.jam = s.lane.jam ∧ (spendCreditRes p k c s).lane.faultBeams = s.lane.faultBeams := by
  simp [spendCreditRes]

@[simp] theorem concludeWrite_lane (p : Port) (s : State) :
    (concludeWrite p s).lane.cmd = s.lane.cmd ∧ (concludeWrite p s).lane.eff = s.lane.eff ∧
    (concludeWrite p s).lane.emergency = s.lane.emergency ∧
    (concludeWrite p s).lane.emergencyFilter = s.lane.emergencyFilter ∧ (concludeWrite p s).lane.jam = s.lane.jam ∧
    (concludeWrite p s).lane.faultBeams = s.lane.faultBeams := by
  simp only [concludeWrite]
  repeat' split
  all_goals simp

@[simp] theorem concludeRegrant_lane (p : Port) (i : Image) (r : Sighting) (s : State) :
    (concludeRegrant p i r s).lane.cmd = s.lane.cmd ∧ (concludeRegrant p i r s).lane.eff = s.lane.eff ∧
    (concludeRegrant p i r s).lane.emergency = s.lane.emergency ∧
    (concludeRegrant p i r s).lane.emergencyFilter = s.lane.emergencyFilter ∧
    (concludeRegrant p i r s).lane.jam = s.lane.jam ∧ (concludeRegrant p i r s).lane.faultBeams = s.lane.faultBeams := by
  simp [concludeRegrant]

@[simp] theorem concludeRecovered_lane (p : Port) (i : Image) (e : RecoveryEntry) (s : State) :
    (concludeRecovered p i e s).lane.cmd = s.lane.cmd ∧ (concludeRecovered p i e s).lane.eff = s.lane.eff ∧
    (concludeRecovered p i e s).lane.emergency = s.lane.emergency ∧
    (concludeRecovered p i e s).lane.emergencyFilter = s.lane.emergencyFilter ∧
    (concludeRecovered p i e s).lane.jam = s.lane.jam ∧
    (concludeRecovered p i e s).lane.faultBeams = s.lane.faultBeams := by
  simp [concludeRecovered]

@[simp] theorem refuseClone_lane (p : Port) (c : Nat) (r : CloneReason) (n : Nat) (b : Int) (s : State) :
    (refuseClone p c r n b s).lane.cmd = s.lane.cmd ∧ (refuseClone p c r n b s).lane.eff = s.lane.eff ∧
    (refuseClone p c r n b s).lane.emergency = s.lane.emergency ∧
    (refuseClone p c r n b s).lane.emergencyFilter = s.lane.emergencyFilter ∧
    (refuseClone p c r n b s).lane.jam = s.lane.jam ∧ (refuseClone p c r n b s).lane.faultBeams = s.lane.faultBeams := by
  simp [refuseClone]

@[simp] theorem refuseDenied_lane (p : Port) (e : DenyEntry) (s : State) :
    (refuseDenied p e s).lane.cmd = s.lane.cmd ∧ (refuseDenied p e s).lane.eff = s.lane.eff ∧
    (refuseDenied p e s).lane.emergency = s.lane.emergency ∧
    (refuseDenied p e s).lane.emergencyFilter = s.lane.emergencyFilter ∧ (refuseDenied p e s).lane.jam = s.lane.jam ∧
    (refuseDenied p e s).lane.faultBeams = s.lane.faultBeams := by
  simp [refuseDenied]

@[simp] theorem verdictProceed_lane (p : Port) (s : State) :
    (verdictProceed p s).lane.cmd = s.lane.cmd ∧ (verdictProceed p s).lane.eff = s.lane.eff ∧
    (verdictProceed p s).lane.emergency = s.lane.emergency ∧
    (verdictProceed p s).lane.emergencyFilter = s.lane.emergencyFilter ∧ (verdictProceed p s).lane.jam = s.lane.jam ∧
    (verdictProceed p s).lane.faultBeams = s.lane.faultBeams := by
  simp only [verdictProceed]
  repeat' split
  all_goals simp

@[simp] theorem verdictRegrant_lane (p : Port) (i : Image) (r : Sighting) (s : State) :
    (verdictRegrant p i r s).lane.cmd = s.lane.cmd ∧ (verdictRegrant p i r s).lane.eff = s.lane.eff ∧
    (verdictRegrant p i r s).lane.emergency = s.lane.emergency ∧
    (verdictRegrant p i r s).lane.emergencyFilter = s.lane.emergencyFilter ∧
    (verdictRegrant p i r s).lane.jam = s.lane.jam ∧ (verdictRegrant p i r s).lane.faultBeams = s.lane.faultBeams := by
  simp only [verdictRegrant]
  repeat' split
  all_goals simp

@[simp] theorem verdictSighting_lane (p : Port) (i : Image) (s : State) :
    (verdictSighting p i s).lane.cmd = s.lane.cmd ∧ (verdictSighting p i s).lane.eff = s.lane.eff ∧
    (verdictSighting p i s).lane.emergency = s.lane.emergency ∧
    (verdictSighting p i s).lane.emergencyFilter = s.lane.emergencyFilter ∧
    (verdictSighting p i s).lane.jam = s.lane.jam ∧ (verdictSighting p i s).lane.faultBeams = s.lane.faultBeams := by
  simp only [verdictSighting]
  repeat' split
  all_goals simp

@[simp] theorem verdictRecovered_lane (p : Port) (i : Image) (e : RecoveryEntry) (s : State) :
    (verdictRecovered p i e s).lane.cmd = s.lane.cmd ∧ (verdictRecovered p i e s).lane.eff = s.lane.eff ∧
    (verdictRecovered p i e s).lane.emergency = s.lane.emergency ∧
    (verdictRecovered p i e s).lane.emergencyFilter = s.lane.emergencyFilter ∧
    (verdictRecovered p i e s).lane.jam = s.lane.jam ∧ (verdictRecovered p i e s).lane.faultBeams = s.lane.faultBeams := by
  simp only [verdictRecovered]
  repeat' split
  all_goals simp

@[simp] theorem verdictRecovery_lane (p : Port) (i : Image) (s : State) :
    (verdictRecovery p i s).lane.cmd = s.lane.cmd ∧ (verdictRecovery p i s).lane.eff = s.lane.eff ∧
    (verdictRecovery p i s).lane.emergency = s.lane.emergency ∧
    (verdictRecovery p i s).lane.emergencyFilter = s.lane.emergencyFilter ∧
    (verdictRecovery p i s).lane.jam = s.lane.jam ∧ (verdictRecovery p i s).lane.faultBeams = s.lane.faultBeams := by
  simp only [verdictRecovery]
  repeat' split
  all_goals simp

@[simp] theorem verdictInFlight_lane (p : Port) (i : Image) (s : State) :
    (verdictInFlight p i s).lane.cmd = s.lane.cmd ∧ (verdictInFlight p i s).lane.eff = s.lane.eff ∧
    (verdictInFlight p i s).lane.emergency = s.lane.emergency ∧
    (verdictInFlight p i s).lane.emergencyFilter = s.lane.emergencyFilter ∧
    (verdictInFlight p i s).lane.jam = s.lane.jam ∧ (verdictInFlight p i s).lane.faultBeams = s.lane.faultBeams := by
  simp only [verdictInFlight]
  repeat' split
  all_goals simp

@[simp] theorem judge_lane (p : Port) (i : Image) (o : ProofOutcome) (s : State) :
    (judge p i o s).lane.cmd = s.lane.cmd ∧ (judge p i o s).lane.eff = s.lane.eff ∧
    (judge p i o s).lane.emergency = s.lane.emergency ∧ (judge p i o s).lane.emergencyFilter = s.lane.emergencyFilter ∧
    (judge p i o s).lane.jam = s.lane.jam ∧ (judge p i o s).lane.faultBeams = s.lane.faultBeams := by
  simp only [judge]
  repeat' split
  all_goals simp

@[simp] theorem recheck_lane (p : Port) (i : Image) (s : State) :
    (recheck p i s).lane.cmd = s.lane.cmd ∧ (recheck p i s).lane.eff = s.lane.eff ∧
    (recheck p i s).lane.emergency = s.lane.emergency ∧ (recheck p i s).lane.emergencyFilter = s.lane.emergencyFilter ∧
    (recheck p i s).lane.jam = s.lane.jam ∧ (recheck p i s).lane.faultBeams = s.lane.faultBeams := by
  simp only [recheck]
  repeat' split
  all_goals simp

@[simp] theorem recordTorn_lane (p : Port) (s : State) :
    (recordTorn p s).lane.cmd = s.lane.cmd ∧ (recordTorn p s).lane.eff = s.lane.eff ∧
    (recordTorn p s).lane.emergency = s.lane.emergency ∧
    (recordTorn p s).lane.emergencyFilter = s.lane.emergencyFilter ∧ (recordTorn p s).lane.jam = s.lane.jam ∧
    (recordTorn p s).lane.faultBeams = s.lane.faultBeams := by
  simp only [recordTorn]
  repeat' split
  all_goals simp

@[simp] theorem torn_lane (p : Port) (s : State) :
    (torn p s).lane.cmd = s.lane.cmd ∧ (torn p s).lane.eff = s.lane.eff ∧
    (torn p s).lane.emergency = s.lane.emergency ∧ (torn p s).lane.emergencyFilter = s.lane.emergencyFilter ∧
    (torn p s).lane.jam = s.lane.jam ∧ (torn p s).lane.faultBeams = s.lane.faultBeams := by
  simp [torn]

@[simp] theorem tornClone_lane (p : Port) (i : Image) (s : State) :
    (tornClone p i s).lane.cmd = s.lane.cmd ∧ (tornClone p i s).lane.eff = s.lane.eff ∧
    (tornClone p i s).lane.emergency = s.lane.emergency ∧
    (tornClone p i s).lane.emergencyFilter = s.lane.emergencyFilter ∧ (tornClone p i s).lane.jam = s.lane.jam ∧
    (tornClone p i s).lane.faultBeams = s.lane.faultBeams := by
  simp [tornClone]

@[simp] theorem confirmAgain_lane (p : Port) (s : State) :
    (confirmAgain p s).lane.cmd = s.lane.cmd ∧ (confirmAgain p s).lane.eff = s.lane.eff ∧
    (confirmAgain p s).lane.emergency = s.lane.emergency ∧
    (confirmAgain p s).lane.emergencyFilter = s.lane.emergencyFilter ∧ (confirmAgain p s).lane.jam = s.lane.jam ∧
    (confirmAgain p s).lane.faultBeams = s.lane.faultBeams := by
  simp only [confirmAgain]
  repeat' split
  all_goals simp

@[simp] theorem judgeConfirming_lane (p : Port) (i : Image) (s : State) :
    (judgeConfirming p i s).lane.cmd = s.lane.cmd ∧ (judgeConfirming p i s).lane.eff = s.lane.eff ∧
    (judgeConfirming p i s).lane.emergency = s.lane.emergency ∧
    (judgeConfirming p i s).lane.emergencyFilter = s.lane.emergencyFilter ∧
    (judgeConfirming p i s).lane.jam = s.lane.jam ∧ (judgeConfirming p i s).lane.faultBeams = s.lane.faultBeams := by
  simp only [judgeConfirming]
  repeat' split
  all_goals simp

@[simp] theorem proofKnown_lane (p : Port) (o : ProofOutcome) (s : State) :
    (proofKnown p o s).lane.cmd = s.lane.cmd ∧ (proofKnown p o s).lane.eff = s.lane.eff ∧
    (proofKnown p o s).lane.emergency = s.lane.emergency ∧
    (proofKnown p o s).lane.emergencyFilter = s.lane.emergencyFilter ∧ (proofKnown p o s).lane.jam = s.lane.jam ∧
    (proofKnown p o s).lane.faultBeams = s.lane.faultBeams := by
  simp only [proofKnown]
  repeat' split
  all_goals simp

@[simp] theorem checkEnds_lane (r : ProofRequest) (o : Option ProofOutcome) (s : State) :
    (checkEnds r o s).lane.cmd = s.lane.cmd ∧ (checkEnds r o s).lane.eff = s.lane.eff ∧
    (checkEnds r o s).lane.emergency = s.lane.emergency ∧
    (checkEnds r o s).lane.emergencyFilter = s.lane.emergencyFilter ∧ (checkEnds r o s).lane.jam = s.lane.jam ∧
    (checkEnds r o s).lane.faultBeams = s.lane.faultBeams := by
  simp only [checkEnds]
  repeat' split
  all_goals simp

@[simp] theorem refuseByMode_lane (m : Mode) (p : Port) (s : State) :
    (refuseByMode m p s).lane.cmd = s.lane.cmd ∧ (refuseByMode m p s).lane.eff = s.lane.eff ∧
    (refuseByMode m p s).lane.emergency = s.lane.emergency ∧
    (refuseByMode m p s).lane.emergencyFilter = s.lane.emergencyFilter ∧ (refuseByMode m p s).lane.jam = s.lane.jam ∧
    (refuseByMode m p s).lane.faultBeams = s.lane.faultBeams := by
  simp only [refuseByMode]
  repeat' split
  all_goals simp

@[simp] theorem dialogsTold_lane (m : Mode) (s : State) :
    (dialogsTold m s).lane.cmd = s.lane.cmd ∧ (dialogsTold m s).lane.eff = s.lane.eff ∧
    (dialogsTold m s).lane.emergency = s.lane.emergency ∧
    (dialogsTold m s).lane.emergencyFilter = s.lane.emergencyFilter ∧ (dialogsTold m s).lane.jam = s.lane.jam ∧
    (dialogsTold m s).lane.faultBeams = s.lane.faultBeams := by
  simp [dialogsTold]

@[simp] theorem followBrisk_lane (s : State) :
    (followBrisk s).lane.cmd = s.lane.cmd ∧ (followBrisk s).lane.eff = s.lane.eff ∧
    (followBrisk s).lane.emergency = s.lane.emergency ∧ (followBrisk s).lane.emergencyFilter = s.lane.emergencyFilter ∧
    (followBrisk s).lane.jam = s.lane.jam ∧ (followBrisk s).lane.faultBeams = s.lane.faultBeams := by
  simp only [followBrisk]
  repeat' split
  all_goals simp

@[simp] theorem followDormant_lane (s : State) :
    (followDormant s).lane.cmd = s.lane.cmd ∧ (followDormant s).lane.eff = s.lane.eff ∧
    (followDormant s).lane.emergency = s.lane.emergency ∧
    (followDormant s).lane.emergencyFilter = s.lane.emergencyFilter ∧ (followDormant s).lane.jam = s.lane.jam ∧
    (followDormant s).lane.faultBeams = s.lane.faultBeams := by
  simp only [followDormant]
  repeat' split
  all_goals simp

@[simp] theorem follow_lane (s : State) :
    (follow s).lane.cmd = s.lane.cmd ∧ (follow s).lane.eff = s.lane.eff ∧
    (follow s).lane.emergency = s.lane.emergency ∧ (follow s).lane.emergencyFilter = s.lane.emergencyFilter ∧
    (follow s).lane.jam = s.lane.jam ∧ (follow s).lane.faultBeams = s.lane.faultBeams := by
  simp [follow]

end Sys2Proof.Machine
end

