-- ==== Sys2Proof/Laws/LineFrames.lean ====
section
/-! SUPPORT. What the operations that only send leave unchanged of the line: everything but the local queues, the held entries and
the HOLD outputs. -/

namespace Sys2Proof.Machine

open Sys2Proof

@[simp] theorem LineIf.setHold_keeps (l : LineIf) :
    l.setHold.address = l.address ∧ l.setHold.link = l.link ∧ l.setHold.linkFilter = l.linkFilter ∧
    l.setHold.receiving = l.receiving ∧ l.setHold.relayQ = l.relayQ ∧ l.setHold.localQ = l.localQ ∧
    l.setHold.held = l.held ∧ l.setHold.tx = l.tx ∧ l.setHold.turn = l.turn ∧ l.setHold.connected = l.connected ∧
    l.setHold.silenceTimer = l.silenceTimer := by
  simp [LineIf.setHold]

@[simp] theorem LineIf.convertHead_keeps (l : LineIf) :
    l.convertHead.address = l.address ∧ l.convertHead.link = l.link ∧ l.convertHead.linkFilter = l.linkFilter ∧
    l.convertHead.receiving = l.receiving ∧ l.convertHead.relayQ = l.relayQ ∧ l.convertHead.tx = l.tx ∧
    l.convertHead.turn = l.turn ∧ l.convertHead.connected = l.connected ∧
    l.convertHead.silenceTimer = l.silenceTimer := by
  unfold LineIf.convertHead; split <;> simp

@[simp] theorem convertOne_line (s : State) :
    (convertOne s).line.address = s.line.address ∧ (convertOne s).line.link = s.line.link ∧
    (convertOne s).line.linkFilter = s.line.linkFilter ∧ (convertOne s).line.receiving = s.line.receiving ∧
    (convertOne s).line.relayQ = s.line.relayQ ∧ (convertOne s).line.tx = s.line.tx ∧
    (convertOne s).line.turn = s.line.turn ∧ (convertOne s).line.connected = s.line.connected ∧
    (convertOne s).line.silenceTimer = s.line.silenceTimer := by
  simp only [convertOne]
  repeat' split
  all_goals simp

@[simp] theorem convertWaiting_line (s : State) :
    (convertWaiting s).line.address = s.line.address ∧ (convertWaiting s).line.link = s.line.link ∧
    (convertWaiting s).line.linkFilter = s.line.linkFilter ∧ (convertWaiting s).line.receiving = s.line.receiving ∧
    (convertWaiting s).line.relayQ = s.line.relayQ ∧ (convertWaiting s).line.tx = s.line.tx ∧
    (convertWaiting s).line.turn = s.line.turn ∧ (convertWaiting s).line.connected = s.line.connected ∧
    (convertWaiting s).line.silenceTimer = s.line.silenceTimer := by
  simp [convertWaiting]

@[simp] theorem sendCopy_line (p : LinePort) (f : Frame) (s : State) :
    (sendCopy p f s).line.address = s.line.address ∧ (sendCopy p f s).line.link = s.line.link ∧
    (sendCopy p f s).line.linkFilter = s.line.linkFilter ∧ (sendCopy p f s).line.receiving = s.line.receiving ∧
    (sendCopy p f s).line.relayQ = s.line.relayQ ∧ (sendCopy p f s).line.tx = s.line.tx ∧
    (sendCopy p f s).line.turn = s.line.turn ∧ (sendCopy p f s).line.connected = s.line.connected ∧
    (sendCopy p f s).line.silenceTimer = s.line.silenceTimer := by
  simp only [sendCopy]
  repeat' split
  all_goals simp

@[simp] theorem broadcast_line (kind : Byte) (payload : List Byte) (s : State) :
    (broadcast kind payload s).line.address = s.line.address ∧ (broadcast kind payload s).line.link = s.line.link ∧
    (broadcast kind payload s).line.linkFilter = s.line.linkFilter ∧
    (broadcast kind payload s).line.receiving = s.line.receiving ∧
    (broadcast kind payload s).line.relayQ = s.line.relayQ ∧ (broadcast kind payload s).line.tx = s.line.tx ∧
    (broadcast kind payload s).line.turn = s.line.turn ∧ (broadcast kind payload s).line.connected = s.line.connected ∧
    (broadcast kind payload s).line.silenceTimer = s.line.silenceTimer := by
  simp [broadcast]

@[simp] theorem event_line (e : Event) (s : State) :
    (event e s).line.address = s.line.address ∧ (event e s).line.link = s.line.link ∧
    (event e s).line.linkFilter = s.line.linkFilter ∧ (event e s).line.receiving = s.line.receiving ∧
    (event e s).line.relayQ = s.line.relayQ ∧ (event e s).line.tx = s.line.tx ∧ (event e s).line.turn = s.line.turn ∧
    (event e s).line.connected = s.line.connected ∧ (event e s).line.silenceTimer = s.line.silenceTimer := by
  simp only [event]
  repeat' split
  all_goals simp

@[simp] theorem broadcastSight_line (r : Sighting) (s : State) :
    (broadcastSight r s).line.address = s.line.address ∧ (broadcastSight r s).line.link = s.line.link ∧
    (broadcastSight r s).line.linkFilter = s.line.linkFilter ∧ (broadcastSight r s).line.receiving = s.line.receiving ∧
    (broadcastSight r s).line.relayQ = s.line.relayQ ∧ (broadcastSight r s).line.tx = s.line.tx ∧
    (broadcastSight r s).line.turn = s.line.turn ∧ (broadcastSight r s).line.connected = s.line.connected ∧
    (broadcastSight r s).line.silenceTimer = s.line.silenceTimer := by
  simp [broadcastSight]

@[simp] theorem broadcastSuspect_line (c : Nat) (s : State) :
    (broadcastSuspect c s).line.address = s.line.address ∧ (broadcastSuspect c s).line.link = s.line.link ∧
    (broadcastSuspect c s).line.linkFilter = s.line.linkFilter ∧
    (broadcastSuspect c s).line.receiving = s.line.receiving ∧ (broadcastSuspect c s).line.relayQ = s.line.relayQ ∧
    (broadcastSuspect c s).line.tx = s.line.tx ∧ (broadcastSuspect c s).line.turn = s.line.turn ∧
    (broadcastSuspect c s).line.connected = s.line.connected ∧
    (broadcastSuspect c s).line.silenceTimer = s.line.silenceTimer := by
  simp [broadcastSuspect]

@[simp] theorem fullEvent_line (n : Nat) (s : State) :
    (fullEvent n s).line.address = s.line.address ∧ (fullEvent n s).line.link = s.line.link ∧
    (fullEvent n s).line.linkFilter = s.line.linkFilter ∧ (fullEvent n s).line.receiving = s.line.receiving ∧
    (fullEvent n s).line.relayQ = s.line.relayQ ∧ (fullEvent n s).line.tx = s.line.tx ∧
    (fullEvent n s).line.turn = s.line.turn ∧ (fullEvent n s).line.connected = s.line.connected ∧
    (fullEvent n s).line.silenceTimer = s.line.silenceTimer := by
  simp only [fullEvent]
  repeat' split
  all_goals simp

@[simp] theorem appendRecord_line (take : Journal → Journal) (c : Content) (s : State) :
    (appendRecord take c s).line.address = s.line.address ∧ (appendRecord take c s).line.link = s.line.link ∧
    (appendRecord take c s).line.linkFilter = s.line.linkFilter ∧
    (appendRecord take c s).line.receiving = s.line.receiving ∧ (appendRecord take c s).line.relayQ = s.line.relayQ ∧
    (appendRecord take c s).line.tx = s.line.tx ∧ (appendRecord take c s).line.turn = s.line.turn ∧
    (appendRecord take c s).line.connected = s.line.connected ∧
    (appendRecord take c s).line.silenceTimer = s.line.silenceTimer := by
  simp only [appendRecord]
  repeat' split
  all_goals simp

@[simp] theorem appendReserved_line (c : Content) (s : State) :
    (appendReserved c s).line.address = s.line.address ∧ (appendReserved c s).line.link = s.line.link ∧
    (appendReserved c s).line.linkFilter = s.line.linkFilter ∧ (appendReserved c s).line.receiving = s.line.receiving ∧
    (appendReserved c s).line.relayQ = s.line.relayQ ∧ (appendReserved c s).line.tx = s.line.tx ∧
    (appendReserved c s).line.turn = s.line.turn ∧ (appendReserved c s).line.connected = s.line.connected ∧
    (appendReserved c s).line.silenceTimer = s.line.silenceTimer := by
  simp [appendReserved]

@[simp] theorem appendHeld_line (c : Content) (s : State) :
    (appendHeld c s).line.address = s.line.address ∧ (appendHeld c s).line.link = s.line.link ∧
    (appendHeld c s).line.linkFilter = s.line.linkFilter ∧ (appendHeld c s).line.receiving = s.line.receiving ∧
    (appendHeld c s).line.relayQ = s.line.relayQ ∧ (appendHeld c s).line.tx = s.line.tx ∧
    (appendHeld c s).line.turn = s.line.turn ∧ (appendHeld c s).line.connected = s.line.connected ∧
    (appendHeld c s).line.silenceTimer = s.line.silenceTimer := by
  simp [appendHeld]

@[simp] theorem appendOpenRefusal_line (c : Content) (s : State) :
    (appendOpenRefusal c s).line.address = s.line.address ∧ (appendOpenRefusal c s).line.link = s.line.link ∧
    (appendOpenRefusal c s).line.linkFilter = s.line.linkFilter ∧
    (appendOpenRefusal c s).line.receiving = s.line.receiving ∧ (appendOpenRefusal c s).line.relayQ = s.line.relayQ ∧
    (appendOpenRefusal c s).line.tx = s.line.tx ∧ (appendOpenRefusal c s).line.turn = s.line.turn ∧
    (appendOpenRefusal c s).line.connected = s.line.connected ∧
    (appendOpenRefusal c s).line.silenceTimer = s.line.silenceTimer := by
  simp only [appendOpenRefusal]
  repeat' split
  all_goals simp

@[simp] theorem appendReserve_line (c : Content) (s : State) :
    (appendReserve c s).line.address = s.line.address ∧ (appendReserve c s).line.link = s.line.link ∧
    (appendReserve c s).line.linkFilter = s.line.linkFilter ∧ (appendReserve c s).line.receiving = s.line.receiving ∧
    (appendReserve c s).line.relayQ = s.line.relayQ ∧ (appendReserve c s).line.tx = s.line.tx ∧
    (appendReserve c s).line.turn = s.line.turn ∧ (appendReserve c s).line.connected = s.line.connected ∧
    (appendReserve c s).line.silenceTimer = s.line.silenceTimer := by
  simp only [appendReserve]
  repeat' split
  all_goals simp

@[simp] theorem reserveJournal_line (s : State) :
    (reserveJournal s).line.address = s.line.address ∧ (reserveJournal s).line.link = s.line.link ∧
    (reserveJournal s).line.linkFilter = s.line.linkFilter ∧ (reserveJournal s).line.receiving = s.line.receiving ∧
    (reserveJournal s).line.relayQ = s.line.relayQ ∧ (reserveJournal s).line.tx = s.line.tx ∧
    (reserveJournal s).line.turn = s.line.turn ∧ (reserveJournal s).line.connected = s.line.connected ∧
    (reserveJournal s).line.silenceTimer = s.line.silenceTimer := by
  simp [reserveJournal]

@[simp] theorem writeAndBroadcast_line (r : Sighting) (s : State) :
    (writeAndBroadcast r s).line.address = s.line.address ∧ (writeAndBroadcast r s).line.link = s.line.link ∧
    (writeAndBroadcast r s).line.linkFilter = s.line.linkFilter ∧
    (writeAndBroadcast r s).line.receiving = s.line.receiving ∧ (writeAndBroadcast r s).line.relayQ = s.line.relayQ ∧
    (writeAndBroadcast r s).line.tx = s.line.tx ∧ (writeAndBroadcast r s).line.turn = s.line.turn ∧
    (writeAndBroadcast r s).line.connected = s.line.connected ∧
    (writeAndBroadcast r s).line.silenceTimer = s.line.silenceTimer := by
  simp [writeAndBroadcast]

@[simp] theorem sightConflict_line (r : Sighting) (s : State) :
    (sightConflict r s).line.address = s.line.address ∧ (sightConflict r s).line.link = s.line.link ∧
    (sightConflict r s).line.linkFilter = s.line.linkFilter ∧ (sightConflict r s).line.receiving = s.line.receiving ∧
    (sightConflict r s).line.relayQ = s.line.relayQ ∧ (sightConflict r s).line.tx = s.line.tx ∧
    (sightConflict r s).line.turn = s.line.turn ∧ (sightConflict r s).line.connected = s.line.connected ∧
    (sightConflict r s).line.silenceTimer = s.line.silenceTimer := by
  simp [sightConflict]

@[simp] theorem mergeSighting_line (r : Sighting) (s : State) :
    (mergeSighting r s).line.address = s.line.address ∧ (mergeSighting r s).line.link = s.line.link ∧
    (mergeSighting r s).line.linkFilter = s.line.linkFilter ∧ (mergeSighting r s).line.receiving = s.line.receiving ∧
    (mergeSighting r s).line.relayQ = s.line.relayQ ∧ (mergeSighting r s).line.tx = s.line.tx ∧
    (mergeSighting r s).line.turn = s.line.turn ∧ (mergeSighting r s).line.connected = s.line.connected ∧
    (mergeSighting r s).line.silenceTimer = s.line.silenceTimer := by
  simp only [mergeSighting]
  repeat' split
  all_goals simp

@[simp] theorem takeSight_line (x : SightPayload) (s : State) :
    (takeSight x s).line.address = s.line.address ∧ (takeSight x s).line.link = s.line.link ∧
    (takeSight x s).line.linkFilter = s.line.linkFilter ∧ (takeSight x s).line.receiving = s.line.receiving ∧
    (takeSight x s).line.relayQ = s.line.relayQ ∧ (takeSight x s).line.tx = s.line.tx ∧
    (takeSight x s).line.turn = s.line.turn ∧ (takeSight x s).line.connected = s.line.connected ∧
    (takeSight x s).line.silenceTimer = s.line.silenceTimer := by
  simp only [takeSight]
  repeat' split
  all_goals simp

@[simp] theorem appendClone_line (p : Port) (c : Content) (s : State) :
    (appendClone p c s).line.address = s.line.address ∧ (appendClone p c s).line.link = s.line.link ∧
    (appendClone p c s).line.linkFilter = s.line.linkFilter ∧ (appendClone p c s).line.receiving = s.line.receiving ∧
    (appendClone p c s).line.relayQ = s.line.relayQ ∧ (appendClone p c s).line.tx = s.line.tx ∧
    (appendClone p c s).line.turn = s.line.turn ∧ (appendClone p c s).line.connected = s.line.connected ∧
    (appendClone p c s).line.silenceTimer = s.line.silenceTimer := by
  simp only [appendClone]
  repeat' split
  all_goals simp

@[simp] theorem cloneFinding_line (p : Port) (c : Nat) (r : CloneReason) (n : Nat) (b : Int) (s : State) :
    (cloneFinding p c r n b s).line.address = s.line.address ∧ (cloneFinding p c r n b s).line.link = s.line.link ∧
    (cloneFinding p c r n b s).line.linkFilter = s.line.linkFilter ∧
    (cloneFinding p c r n b s).line.receiving = s.line.receiving ∧
    (cloneFinding p c r n b s).line.relayQ = s.line.relayQ ∧ (cloneFinding p c r n b s).line.tx = s.line.tx ∧
    (cloneFinding p c r n b s).line.turn = s.line.turn ∧ (cloneFinding p c r n b s).line.connected = s.line.connected ∧
    (cloneFinding p c r n b s).line.silenceTimer = s.line.silenceTimer := by
  simp [cloneFinding]

@[simp] theorem resolveUnresolved_line (e : RecoveryEntry) (r : UnresolvedReason) (s : State) :
    (resolveUnresolved e r s).line.address = s.line.address ∧ (resolveUnresolved e r s).line.link = s.line.link ∧
    (resolveUnresolved e r s).line.linkFilter = s.line.linkFilter ∧
    (resolveUnresolved e r s).line.receiving = s.line.receiving ∧
    (resolveUnresolved e r s).line.relayQ = s.line.relayQ ∧ (resolveUnresolved e r s).line.tx = s.line.tx ∧
    (resolveUnresolved e r s).line.turn = s.line.turn ∧ (resolveUnresolved e r s).line.connected = s.line.connected ∧
    (resolveUnresolved e r s).line.silenceTimer = s.line.silenceTimer := by
  simp [resolveUnresolved]

@[simp] theorem resolveRecovered_line (e : RecoveryEntry) (s : State) :
    (resolveRecovered e s).line.address = s.line.address ∧ (resolveRecovered e s).line.link = s.line.link ∧
    (resolveRecovered e s).line.linkFilter = s.line.linkFilter ∧
    (resolveRecovered e s).line.receiving = s.line.receiving ∧ (resolveRecovered e s).line.relayQ = s.line.relayQ ∧
    (resolveRecovered e s).line.tx = s.line.tx ∧ (resolveRecovered e s).line.turn = s.line.turn ∧
    (resolveRecovered e s).line.connected = s.line.connected ∧
    (resolveRecovered e s).line.silenceTimer = s.line.silenceTimer := by
  simp [resolveRecovered]

@[simp] theorem displace_line (s : State) :
    (displace s).line.address = s.line.address ∧ (displace s).line.link = s.line.link ∧
    (displace s).line.linkFilter = s.line.linkFilter ∧ (displace s).line.receiving = s.line.receiving ∧
    (displace s).line.relayQ = s.line.relayQ ∧ (displace s).line.tx = s.line.tx ∧
    (displace s).line.turn = s.line.turn ∧ (displace s).line.connected = s.line.connected ∧
    (displace s).line.silenceTimer = s.line.silenceTimer := by
  simp only [displace]
  repeat' split
  all_goals simp

@[simp] theorem createRecovery_line (e : RecoveryEntry) (s : State) :
    (createRecovery e s).line.address = s.line.address ∧ (createRecovery e s).line.link = s.line.link ∧
    (createRecovery e s).line.linkFilter = s.line.linkFilter ∧ (createRecovery e s).line.receiving = s.line.receiving ∧
    (createRecovery e s).line.relayQ = s.line.relayQ ∧ (createRecovery e s).line.tx = s.line.tx ∧
    (createRecovery e s).line.turn = s.line.turn ∧ (createRecovery e s).line.connected = s.line.connected ∧
    (createRecovery e s).line.silenceTimer = s.line.silenceTimer := by
  simp [createRecovery]

@[simp] theorem lapse_line (d : Direction) (c : Credit) (r : LapseReason) (s : State) :
    (lapse d c r s).line.address = s.line.address ∧ (lapse d c r s).line.link = s.line.link ∧
    (lapse d c r s).line.linkFilter = s.line.linkFilter ∧ (lapse d c r s).line.receiving = s.line.receiving ∧
    (lapse d c r s).line.relayQ = s.line.relayQ ∧ (lapse d c r s).line.tx = s.line.tx ∧
    (lapse d c r s).line.turn = s.line.turn ∧ (lapse d c r s).line.connected = s.line.connected ∧
    (lapse d c r s).line.silenceTimer = s.line.silenceTimer := by
  simp [lapse]

@[simp] theorem flush_line (d : Direction) (s : State) :
    (flush d s).line.address = s.line.address ∧ (flush d s).line.link = s.line.link ∧
    (flush d s).line.linkFilter = s.line.linkFilter ∧ (flush d s).line.receiving = s.line.receiving ∧
    (flush d s).line.relayQ = s.line.relayQ ∧ (flush d s).line.tx = s.line.tx ∧ (flush d s).line.turn = s.line.turn ∧
    (flush d s).line.connected = s.line.connected ∧ (flush d s).line.silenceTimer = s.line.silenceTimer := by
  have h := foldl_frame (fun s : State => (s.line.address, s.line.link, s.line.linkFilter, s.line.receiving, s.line.relayQ, s.line.tx, s.line.turn,
    s.line.connected, s.line.silenceTimer))
    (fun t c => lapse d c .flush t) (by simp) (s.lane.credits.get d) s
  unfold flush
  simpa only [Prod.mk.injEq] using h

@[simp] theorem joinCredit_line (d : Direction) (k : CreditKind) (c : Nat) (s : State) :
    (joinCredit d k c s).line.address = s.line.address ∧ (joinCredit d k c s).line.link = s.line.link ∧
    (joinCredit d k c s).line.linkFilter = s.line.linkFilter ∧ (joinCredit d k c s).line.receiving = s.line.receiving ∧
    (joinCredit d k c s).line.relayQ = s.line.relayQ ∧ (joinCredit d k c s).line.tx = s.line.tx ∧
    (joinCredit d k c s).line.turn = s.line.turn ∧ (joinCredit d k c s).line.connected = s.line.connected ∧
    (joinCredit d k c s).line.silenceTimer = s.line.silenceTimer := by
  simp only [joinCredit]
  repeat' split
  all_goals simp

@[simp] theorem intrusion_line (d : Option Direction) (r : IntrusionReason) (s : State) :
    (intrusion d r s).line.address = s.line.address ∧ (intrusion d r s).line.link = s.line.link ∧
    (intrusion d r s).line.linkFilter = s.line.linkFilter ∧ (intrusion d r s).line.receiving = s.line.receiving ∧
    (intrusion d r s).line.relayQ = s.line.relayQ ∧ (intrusion d r s).line.tx = s.line.tx ∧
    (intrusion d r s).line.turn = s.line.turn ∧ (intrusion d r s).line.connected = s.line.connected ∧
    (intrusion d r s).line.silenceTimer = s.line.silenceTimer := by
  simp [intrusion]

@[simp] theorem tailgate_line (d : Direction) (c : Nat) (s : State) :
    (tailgate d c s).line.address = s.line.address ∧ (tailgate d c s).line.link = s.line.link ∧
    (tailgate d c s).line.linkFilter = s.line.linkFilter ∧ (tailgate d c s).line.receiving = s.line.receiving ∧
    (tailgate d c s).line.relayQ = s.line.relayQ ∧ (tailgate d c s).line.tx = s.line.tx ∧
    (tailgate d c s).line.turn = s.line.turn ∧ (tailgate d c s).line.connected = s.line.connected ∧
    (tailgate d c s).line.silenceTimer = s.line.silenceTimer := by
  simp [tailgate]

@[simp] theorem pay_line (d : Direction) (long : Bool) (c : Credit) (rest : List Credit) (s : State) :
    (pay d long c rest s).line.address = s.line.address ∧ (pay d long c rest s).line.link = s.line.link ∧
    (pay d long c rest s).line.linkFilter = s.line.linkFilter ∧
    (pay d long c rest s).line.receiving = s.line.receiving ∧ (pay d long c rest s).line.relayQ = s.line.relayQ ∧
    (pay d long c rest s).line.tx = s.line.tx ∧ (pay d long c rest s).line.turn = s.line.turn ∧
    (pay d long c rest s).line.connected = s.line.connected ∧
    (pay d long c rest s).line.silenceTimer = s.line.silenceTimer := by
  simp only [pay]
  repeat' split
  all_goals simp

@[simp] theorem judgeCrossing_line (d : Direction) (long : Bool) (s : State) :
    (judgeCrossing d long s).line.address = s.line.address ∧ (judgeCrossing d long s).line.link = s.line.link ∧
    (judgeCrossing d long s).line.linkFilter = s.line.linkFilter ∧
    (judgeCrossing d long s).line.receiving = s.line.receiving ∧ (judgeCrossing d long s).line.relayQ = s.line.relayQ ∧
    (judgeCrossing d long s).line.tx = s.line.tx ∧ (judgeCrossing d long s).line.turn = s.line.turn ∧
    (judgeCrossing d long s).line.connected = s.line.connected ∧
    (judgeCrossing d long s).line.silenceTimer = s.line.silenceTimer := by
  simp only [judgeCrossing]
  repeat' split
  all_goals simp

@[simp] theorem crossing_line (d : Direction) (long : Bool) (s : State) :
    (crossing d long s).line.address = s.line.address ∧ (crossing d long s).line.link = s.line.link ∧
    (crossing d long s).line.linkFilter = s.line.linkFilter ∧ (crossing d long s).line.receiving = s.line.receiving ∧
    (crossing d long s).line.relayQ = s.line.relayQ ∧ (crossing d long s).line.tx = s.line.tx ∧
    (crossing d long s).line.turn = s.line.turn ∧ (crossing d long s).line.connected = s.line.connected ∧
    (crossing d long s).line.silenceTimer = s.line.silenceTimer := by
  simp [crossing]

@[simp] theorem refusalRecord_line (p : Port) (code : RefusalCode) (s : State) :
    (refusalRecord p code s).line.address = s.line.address ∧ (refusalRecord p code s).line.link = s.line.link ∧
    (refusalRecord p code s).line.linkFilter = s.line.linkFilter ∧
    (refusalRecord p code s).line.receiving = s.line.receiving ∧ (refusalRecord p code s).line.relayQ = s.line.relayQ ∧
    (refusalRecord p code s).line.tx = s.line.tx ∧ (refusalRecord p code s).line.turn = s.line.turn ∧
    (refusalRecord p code s).line.connected = s.line.connected ∧
    (refusalRecord p code s).line.silenceTimer = s.line.silenceTimer := by
  simp only [refusalRecord]
  repeat' split
  all_goals simp

@[simp] theorem refuse_line (p : Port) (code : RefusalCode) (mark : Bool) (amount : Option Nat) (s : State) :
    (refuse p code mark amount s).line.address = s.line.address ∧
    (refuse p code mark amount s).line.link = s.line.link ∧
    (refuse p code mark amount s).line.linkFilter = s.line.linkFilter ∧
    (refuse p code mark amount s).line.receiving = s.line.receiving ∧
    (refuse p code mark amount s).line.relayQ = s.line.relayQ ∧ (refuse p code mark amount s).line.tx = s.line.tx ∧
    (refuse p code mark amount s).line.turn = s.line.turn ∧
    (refuse p code mark amount s).line.connected = s.line.connected ∧
    (refuse p code mark amount s).line.silenceTimer = s.line.silenceTimer := by
  simp only [refuse]
  repeat' split
  all_goals simp

@[simp] theorem takeJournalRes_line (p : Port) (s : State) :
    (takeJournalRes p s).line.address = s.line.address ∧ (takeJournalRes p s).line.link = s.line.link ∧
    (takeJournalRes p s).line.linkFilter = s.line.linkFilter ∧ (takeJournalRes p s).line.receiving = s.line.receiving ∧
    (takeJournalRes p s).line.relayQ = s.line.relayQ ∧ (takeJournalRes p s).line.tx = s.line.tx ∧
    (takeJournalRes p s).line.turn = s.line.turn ∧ (takeJournalRes p s).line.connected = s.line.connected ∧
    (takeJournalRes p s).line.silenceTimer = s.line.silenceTimer := by
  simp [takeJournalRes]

@[simp] theorem keepIntended_line (p : Port) (i : Intended) (s : State) :
    (keepIntended p i s).line.address = s.line.address ∧ (keepIntended p i s).line.link = s.line.link ∧
    (keepIntended p i s).line.linkFilter = s.line.linkFilter ∧ (keepIntended p i s).line.receiving = s.line.receiving ∧
    (keepIntended p i s).line.relayQ = s.line.relayQ ∧ (keepIntended p i s).line.tx = s.line.tx ∧
    (keepIntended p i s).line.turn = s.line.turn ∧ (keepIntended p i s).line.connected = s.line.connected ∧
    (keepIntended p i s).line.silenceTimer = s.line.silenceTimer := by
  simp only [keepIntended]
  repeat' split
  all_goals simp

@[simp] theorem enterReckoning_line (p : Port) (s : State) :
    (enterReckoning p s).line.address = s.line.address ∧ (enterReckoning p s).line.link = s.line.link ∧
    (enterReckoning p s).line.linkFilter = s.line.linkFilter ∧ (enterReckoning p s).line.receiving = s.line.receiving ∧
    (enterReckoning p s).line.relayQ = s.line.relayQ ∧ (enterReckoning p s).line.tx = s.line.tx ∧
    (enterReckoning p s).line.turn = s.line.turn ∧ (enterReckoning p s).line.connected = s.line.connected ∧
    (enterReckoning p s).line.silenceTimer = s.line.silenceTimer := by
  simp only [enterReckoning]
  repeat' split
  all_goals simp

@[simp] theorem readyToReckon_line (p : Port) (s : State) :
    (readyToReckon p s).line.address = s.line.address ∧ (readyToReckon p s).line.link = s.line.link ∧
    (readyToReckon p s).line.linkFilter = s.line.linkFilter ∧ (readyToReckon p s).line.receiving = s.line.receiving ∧
    (readyToReckon p s).line.relayQ = s.line.relayQ ∧ (readyToReckon p s).line.tx = s.line.tx ∧
    (readyToReckon p s).line.turn = s.line.turn ∧ (readyToReckon p s).line.connected = s.line.connected ∧
    (readyToReckon p s).line.silenceTimer = s.line.silenceTimer := by
  simp only [readyToReckon]
  repeat' split
  all_goals simp

@[simp] theorem releaseHeldContext_line (p : Port) (s : State) :
    (releaseHeldContext p s).line.address = s.line.address ∧ (releaseHeldContext p s).line.link = s.line.link ∧
    (releaseHeldContext p s).line.linkFilter = s.line.linkFilter ∧
    (releaseHeldContext p s).line.receiving = s.line.receiving ∧ (releaseHeldContext p s).line.relayQ = s.line.relayQ ∧
    (releaseHeldContext p s).line.tx = s.line.tx ∧ (releaseHeldContext p s).line.turn = s.line.turn ∧
    (releaseHeldContext p s).line.connected = s.line.connected ∧
    (releaseHeldContext p s).line.silenceTimer = s.line.silenceTimer := by
  simp only [releaseHeldContext]
  repeat' split
  all_goals simp

@[simp] theorem releaseHeldContexts_line (s : State) :
    (releaseHeldContexts s).line.address = s.line.address ∧ (releaseHeldContexts s).line.link = s.line.link ∧
    (releaseHeldContexts s).line.linkFilter = s.line.linkFilter ∧
    (releaseHeldContexts s).line.receiving = s.line.receiving ∧ (releaseHeldContexts s).line.relayQ = s.line.relayQ ∧
    (releaseHeldContexts s).line.tx = s.line.tx ∧ (releaseHeldContexts s).line.turn = s.line.turn ∧
    (releaseHeldContexts s).line.connected = s.line.connected ∧
    (releaseHeldContexts s).line.silenceTimer = s.line.silenceTimer := by
  simp [releaseHeldContexts]

@[simp] theorem appendWritten_line (n : Nat) (b : Int) (cs : List Content) (s : State) :
    (appendWritten n b cs s).line.address = s.line.address ∧ (appendWritten n b cs s).line.link = s.line.link ∧
    (appendWritten n b cs s).line.linkFilter = s.line.linkFilter ∧
    (appendWritten n b cs s).line.receiving = s.line.receiving ∧ (appendWritten n b cs s).line.relayQ = s.line.relayQ ∧
    (appendWritten n b cs s).line.tx = s.line.tx ∧ (appendWritten n b cs s).line.turn = s.line.turn ∧
    (appendWritten n b cs s).line.connected = s.line.connected ∧
    (appendWritten n b cs s).line.silenceTimer = s.line.silenceTimer := by
  have h := foldl_frame (fun s : State => (s.line.address, s.line.link, s.line.linkFilter, s.line.receiving, s.line.relayQ, s.line.tx, s.line.turn,
    s.line.connected, s.line.silenceTimer))
    (fun t c => appendReserved (c.written n b) t) (by simp) cs s
  unfold appendWritten
  simpa only [Prod.mk.injEq] using h

@[simp] theorem spendCreditRes_line (p : Port) (k : CreditKind) (c : Nat) (s : State) :
    (spendCreditRes p k c s).line.address = s.line.address ∧ (spendCreditRes p k c s).line.link = s.line.link ∧
    (spendCreditRes p k c s).line.linkFilter = s.line.linkFilter ∧
    (spendCreditRes p k c s).line.receiving = s.line.receiving ∧ (spendCreditRes p k c s).line.relayQ = s.line.relayQ ∧
    (spendCreditRes p k c s).line.tx = s.line.tx ∧ (spendCreditRes p k c s).line.turn = s.line.turn ∧
    (spendCreditRes p k c s).line.connected = s.line.connected ∧
    (spendCreditRes p k c s).line.silenceTimer = s.line.silenceTimer := by
  simp [spendCreditRes]

@[simp] theorem concludeWrite_line (p : Port) (s : State) :
    (concludeWrite p s).line.address = s.line.address ∧ (concludeWrite p s).line.link = s.line.link ∧
    (concludeWrite p s).line.linkFilter = s.line.linkFilter ∧ (concludeWrite p s).line.receiving = s.line.receiving ∧
    (concludeWrite p s).line.relayQ = s.line.relayQ ∧ (concludeWrite p s).line.tx = s.line.tx ∧
    (concludeWrite p s).line.turn = s.line.turn ∧ (concludeWrite p s).line.connected = s.line.connected ∧
    (concludeWrite p s).line.silenceTimer = s.line.silenceTimer := by
  simp only [concludeWrite]
  repeat' split
  all_goals simp

@[simp] theorem concludeRegrant_line (p : Port) (i : Image) (r : Sighting) (s : State) :
    (concludeRegrant p i r s).line.address = s.line.address ∧ (concludeRegrant p i r s).line.link = s.line.link ∧
    (concludeRegrant p i r s).line.linkFilter = s.line.linkFilter ∧
    (concludeRegrant p i r s).line.receiving = s.line.receiving ∧
    (concludeRegrant p i r s).line.relayQ = s.line.relayQ ∧ (concludeRegrant p i r s).line.tx = s.line.tx ∧
    (concludeRegrant p i r s).line.turn = s.line.turn ∧ (concludeRegrant p i r s).line.connected = s.line.connected ∧
    (concludeRegrant p i r s).line.silenceTimer = s.line.silenceTimer := by
  simp [concludeRegrant]

@[simp] theorem concludeRecovered_line (p : Port) (i : Image) (e : RecoveryEntry) (s : State) :
    (concludeRecovered p i e s).line.address = s.line.address ∧ (concludeRecovered p i e s).line.link = s.line.link ∧
    (concludeRecovered p i e s).line.linkFilter = s.line.linkFilter ∧
    (concludeRecovered p i e s).line.receiving = s.line.receiving ∧
    (concludeRecovered p i e s).line.relayQ = s.line.relayQ ∧ (concludeRecovered p i e s).line.tx = s.line.tx ∧
    (concludeRecovered p i e s).line.turn = s.line.turn ∧
    (concludeRecovered p i e s).line.connected = s.line.connected ∧
    (concludeRecovered p i e s).line.silenceTimer = s.line.silenceTimer := by
  simp [concludeRecovered]

@[simp] theorem refuseClone_line (p : Port) (c : Nat) (r : CloneReason) (n : Nat) (b : Int) (s : State) :
    (refuseClone p c r n b s).line.address = s.line.address ∧ (refuseClone p c r n b s).line.link = s.line.link ∧
    (refuseClone p c r n b s).line.linkFilter = s.line.linkFilter ∧
    (refuseClone p c r n b s).line.receiving = s.line.receiving ∧
    (refuseClone p c r n b s).line.relayQ = s.line.relayQ ∧ (refuseClone p c r n b s).line.tx = s.line.tx ∧
    (refuseClone p c r n b s).line.turn = s.line.turn ∧ (refuseClone p c r n b s).line.connected = s.line.connected ∧
    (refuseClone p c r n b s).line.silenceTimer = s.line.silenceTimer := by
  simp [refuseClone]

@[simp] theorem refuseDenied_line (p : Port) (e : DenyEntry) (s : State) :
    (refuseDenied p e s).line.address = s.line.address ∧ (refuseDenied p e s).line.link = s.line.link ∧
    (refuseDenied p e s).line.linkFilter = s.line.linkFilter ∧ (refuseDenied p e s).line.receiving = s.line.receiving ∧
    (refuseDenied p e s).line.relayQ = s.line.relayQ ∧ (refuseDenied p e s).line.tx = s.line.tx ∧
    (refuseDenied p e s).line.turn = s.line.turn ∧ (refuseDenied p e s).line.connected = s.line.connected ∧
    (refuseDenied p e s).line.silenceTimer = s.line.silenceTimer := by
  simp [refuseDenied]

@[simp] theorem verdictProceed_line (p : Port) (s : State) :
    (verdictProceed p s).line.address = s.line.address ∧ (verdictProceed p s).line.link = s.line.link ∧
    (verdictProceed p s).line.linkFilter = s.line.linkFilter ∧ (verdictProceed p s).line.receiving = s.line.receiving ∧
    (verdictProceed p s).line.relayQ = s.line.relayQ ∧ (verdictProceed p s).line.tx = s.line.tx ∧
    (verdictProceed p s).line.turn = s.line.turn ∧ (verdictProceed p s).line.connected = s.line.connected ∧
    (verdictProceed p s).line.silenceTimer = s.line.silenceTimer := by
  simp only [verdictProceed]
  repeat' split
  all_goals simp

@[simp] theorem verdictRegrant_line (p : Port) (i : Image) (r : Sighting) (s : State) :
    (verdictRegrant p i r s).line.address = s.line.address ∧ (verdictRegrant p i r s).line.link = s.line.link ∧
    (verdictRegrant p i r s).line.linkFilter = s.line.linkFilter ∧
    (verdictRegrant p i r s).line.receiving = s.line.receiving ∧ (verdictRegrant p i r s).line.relayQ = s.line.relayQ ∧
    (verdictRegrant p i r s).line.tx = s.line.tx ∧ (verdictRegrant p i r s).line.turn = s.line.turn ∧
    (verdictRegrant p i r s).line.connected = s.line.connected ∧
    (verdictRegrant p i r s).line.silenceTimer = s.line.silenceTimer := by
  simp only [verdictRegrant]
  repeat' split
  all_goals simp

@[simp] theorem verdictSighting_line (p : Port) (i : Image) (s : State) :
    (verdictSighting p i s).line.address = s.line.address ∧ (verdictSighting p i s).line.link = s.line.link ∧
    (verdictSighting p i s).line.linkFilter = s.line.linkFilter ∧
    (verdictSighting p i s).line.receiving = s.line.receiving ∧ (verdictSighting p i s).line.relayQ = s.line.relayQ ∧
    (verdictSighting p i s).line.tx = s.line.tx ∧ (verdictSighting p i s).line.turn = s.line.turn ∧
    (verdictSighting p i s).line.connected = s.line.connected ∧
    (verdictSighting p i s).line.silenceTimer = s.line.silenceTimer := by
  simp only [verdictSighting]
  repeat' split
  all_goals simp

@[simp] theorem verdictRecovered_line (p : Port) (i : Image) (e : RecoveryEntry) (s : State) :
    (verdictRecovered p i e s).line.address = s.line.address ∧ (verdictRecovered p i e s).line.link = s.line.link ∧
    (verdictRecovered p i e s).line.linkFilter = s.line.linkFilter ∧
    (verdictRecovered p i e s).line.receiving = s.line.receiving ∧
    (verdictRecovered p i e s).line.relayQ = s.line.relayQ ∧ (verdictRecovered p i e s).line.tx = s.line.tx ∧
    (verdictRecovered p i e s).line.turn = s.line.turn ∧ (verdictRecovered p i e s).line.connected = s.line.connected ∧
    (verdictRecovered p i e s).line.silenceTimer = s.line.silenceTimer := by
  simp only [verdictRecovered]
  repeat' split
  all_goals simp

@[simp] theorem verdictRecovery_line (p : Port) (i : Image) (s : State) :
    (verdictRecovery p i s).line.address = s.line.address ∧ (verdictRecovery p i s).line.link = s.line.link ∧
    (verdictRecovery p i s).line.linkFilter = s.line.linkFilter ∧
    (verdictRecovery p i s).line.receiving = s.line.receiving ∧ (verdictRecovery p i s).line.relayQ = s.line.relayQ ∧
    (verdictRecovery p i s).line.tx = s.line.tx ∧ (verdictRecovery p i s).line.turn = s.line.turn ∧
    (verdictRecovery p i s).line.connected = s.line.connected ∧
    (verdictRecovery p i s).line.silenceTimer = s.line.silenceTimer := by
  simp only [verdictRecovery]
  repeat' split
  all_goals simp

@[simp] theorem verdictInFlight_line (p : Port) (i : Image) (s : State) :
    (verdictInFlight p i s).line.address = s.line.address ∧ (verdictInFlight p i s).line.link = s.line.link ∧
    (verdictInFlight p i s).line.linkFilter = s.line.linkFilter ∧
    (verdictInFlight p i s).line.receiving = s.line.receiving ∧ (verdictInFlight p i s).line.relayQ = s.line.relayQ ∧
    (verdictInFlight p i s).line.tx = s.line.tx ∧ (verdictInFlight p i s).line.turn = s.line.turn ∧
    (verdictInFlight p i s).line.connected = s.line.connected ∧
    (verdictInFlight p i s).line.silenceTimer = s.line.silenceTimer := by
  simp only [verdictInFlight]
  repeat' split
  all_goals simp

@[simp] theorem judge_line (p : Port) (i : Image) (o : ProofOutcome) (s : State) :
    (judge p i o s).line.address = s.line.address ∧ (judge p i o s).line.link = s.line.link ∧
    (judge p i o s).line.linkFilter = s.line.linkFilter ∧ (judge p i o s).line.receiving = s.line.receiving ∧
    (judge p i o s).line.relayQ = s.line.relayQ ∧ (judge p i o s).line.tx = s.line.tx ∧
    (judge p i o s).line.turn = s.line.turn ∧ (judge p i o s).line.connected = s.line.connected ∧
    (judge p i o s).line.silenceTimer = s.line.silenceTimer := by
  simp only [judge]
  repeat' split
  all_goals simp

@[simp] theorem recheck_line (p : Port) (i : Image) (s : State) :
    (recheck p i s).line.address = s.line.address ∧ (recheck p i s).line.link = s.line.link ∧
    (recheck p i s).line.linkFilter = s.line.linkFilter ∧ (recheck p i s).line.receiving = s.line.receiving ∧
    (recheck p i s).line.relayQ = s.line.relayQ ∧ (recheck p i s).line.tx = s.line.tx ∧
    (recheck p i s).line.turn = s.line.turn ∧ (recheck p i s).line.connected = s.line.connected ∧
    (recheck p i s).line.silenceTimer = s.line.silenceTimer := by
  simp only [recheck]
  repeat' split
  all_goals simp

@[simp] theorem recordTorn_line (p : Port) (s : State) :
    (recordTorn p s).line.address = s.line.address ∧ (recordTorn p s).line.link = s.line.link ∧
    (recordTorn p s).line.linkFilter = s.line.linkFilter ∧ (recordTorn p s).line.receiving = s.line.receiving ∧
    (recordTorn p s).line.relayQ = s.line.relayQ ∧ (recordTorn p s).line.tx = s.line.tx ∧
    (recordTorn p s).line.turn = s.line.turn ∧ (recordTorn p s).line.connected = s.line.connected ∧
    (recordTorn p s).line.silenceTimer = s.line.silenceTimer := by
  simp only [recordTorn]
  repeat' split
  all_goals simp

@[simp] theorem broadcastTorn_line (p : Port) (s : State) :
    (broadcastTorn p s).line.address = s.line.address ∧ (broadcastTorn p s).line.link = s.line.link ∧
    (broadcastTorn p s).line.linkFilter = s.line.linkFilter ∧ (broadcastTorn p s).line.receiving = s.line.receiving ∧
    (broadcastTorn p s).line.relayQ = s.line.relayQ ∧ (broadcastTorn p s).line.tx = s.line.tx ∧
    (broadcastTorn p s).line.turn = s.line.turn ∧ (broadcastTorn p s).line.connected = s.line.connected ∧
    (broadcastTorn p s).line.silenceTimer = s.line.silenceTimer := by
  simp only [broadcastTorn]
  repeat' split
  all_goals simp

@[simp] theorem torn_line (p : Port) (s : State) :
    (torn p s).line.address = s.line.address ∧ (torn p s).line.link = s.line.link ∧
    (torn p s).line.linkFilter = s.line.linkFilter ∧ (torn p s).line.receiving = s.line.receiving ∧
    (torn p s).line.relayQ = s.line.relayQ ∧ (torn p s).line.tx = s.line.tx ∧ (torn p s).line.turn = s.line.turn ∧
    (torn p s).line.connected = s.line.connected ∧ (torn p s).line.silenceTimer = s.line.silenceTimer := by
  simp [torn]

@[simp] theorem tornClone_line (p : Port) (i : Image) (s : State) :
    (tornClone p i s).line.address = s.line.address ∧ (tornClone p i s).line.link = s.line.link ∧
    (tornClone p i s).line.linkFilter = s.line.linkFilter ∧ (tornClone p i s).line.receiving = s.line.receiving ∧
    (tornClone p i s).line.relayQ = s.line.relayQ ∧ (tornClone p i s).line.tx = s.line.tx ∧
    (tornClone p i s).line.turn = s.line.turn ∧ (tornClone p i s).line.connected = s.line.connected ∧
    (tornClone p i s).line.silenceTimer = s.line.silenceTimer := by
  simp [tornClone]

@[simp] theorem confirmAgain_line (p : Port) (s : State) :
    (confirmAgain p s).line.address = s.line.address ∧ (confirmAgain p s).line.link = s.line.link ∧
    (confirmAgain p s).line.linkFilter = s.line.linkFilter ∧ (confirmAgain p s).line.receiving = s.line.receiving ∧
    (confirmAgain p s).line.relayQ = s.line.relayQ ∧ (confirmAgain p s).line.tx = s.line.tx ∧
    (confirmAgain p s).line.turn = s.line.turn ∧ (confirmAgain p s).line.connected = s.line.connected ∧
    (confirmAgain p s).line.silenceTimer = s.line.silenceTimer := by
  simp only [confirmAgain]
  repeat' split
  all_goals simp

@[simp] theorem judgeConfirming_line (p : Port) (i : Image) (s : State) :
    (judgeConfirming p i s).line.address = s.line.address ∧ (judgeConfirming p i s).line.link = s.line.link ∧
    (judgeConfirming p i s).line.linkFilter = s.line.linkFilter ∧
    (judgeConfirming p i s).line.receiving = s.line.receiving ∧ (judgeConfirming p i s).line.relayQ = s.line.relayQ ∧
    (judgeConfirming p i s).line.tx = s.line.tx ∧ (judgeConfirming p i s).line.turn = s.line.turn ∧
    (judgeConfirming p i s).line.connected = s.line.connected ∧
    (judgeConfirming p i s).line.silenceTimer = s.line.silenceTimer := by
  simp only [judgeConfirming]
  repeat' split
  all_goals simp

@[simp] theorem proofKnown_line (p : Port) (o : ProofOutcome) (s : State) :
    (proofKnown p o s).line.address = s.line.address ∧ (proofKnown p o s).line.link = s.line.link ∧
    (proofKnown p o s).line.linkFilter = s.line.linkFilter ∧ (proofKnown p o s).line.receiving = s.line.receiving ∧
    (proofKnown p o s).line.relayQ = s.line.relayQ ∧ (proofKnown p o s).line.tx = s.line.tx ∧
    (proofKnown p o s).line.turn = s.line.turn ∧ (proofKnown p o s).line.connected = s.line.connected ∧
    (proofKnown p o s).line.silenceTimer = s.line.silenceTimer := by
  simp only [proofKnown]
  repeat' split
  all_goals simp

@[simp] theorem checkEnds_line (r : ProofRequest) (o : Option ProofOutcome) (s : State) :
    (checkEnds r o s).line.address = s.line.address ∧ (checkEnds r o s).line.link = s.line.link ∧
    (checkEnds r o s).line.linkFilter = s.line.linkFilter ∧ (checkEnds r o s).line.receiving = s.line.receiving ∧
    (checkEnds r o s).line.relayQ = s.line.relayQ ∧ (checkEnds r o s).line.tx = s.line.tx ∧
    (checkEnds r o s).line.turn = s.line.turn ∧ (checkEnds r o s).line.connected = s.line.connected ∧
    (checkEnds r o s).line.silenceTimer = s.line.silenceTimer := by
  simp only [checkEnds]
  repeat' split
  all_goals simp

@[simp] theorem refuseByMode_line (m : Mode) (p : Port) (s : State) :
    (refuseByMode m p s).line.address = s.line.address ∧ (refuseByMode m p s).line.link = s.line.link ∧
    (refuseByMode m p s).line.linkFilter = s.line.linkFilter ∧ (refuseByMode m p s).line.receiving = s.line.receiving ∧
    (refuseByMode m p s).line.relayQ = s.line.relayQ ∧ (refuseByMode m p s).line.tx = s.line.tx ∧
    (refuseByMode m p s).line.turn = s.line.turn ∧ (refuseByMode m p s).line.connected = s.line.connected ∧
    (refuseByMode m p s).line.silenceTimer = s.line.silenceTimer := by
  simp only [refuseByMode]
  repeat' split
  all_goals simp

@[simp] theorem dialogsTold_line (m : Mode) (s : State) :
    (dialogsTold m s).line.address = s.line.address ∧ (dialogsTold m s).line.link = s.line.link ∧
    (dialogsTold m s).line.linkFilter = s.line.linkFilter ∧ (dialogsTold m s).line.receiving = s.line.receiving ∧
    (dialogsTold m s).line.relayQ = s.line.relayQ ∧ (dialogsTold m s).line.tx = s.line.tx ∧
    (dialogsTold m s).line.turn = s.line.turn ∧ (dialogsTold m s).line.connected = s.line.connected ∧
    (dialogsTold m s).line.silenceTimer = s.line.silenceTimer := by
  simp [dialogsTold]

@[simp] theorem flushOnLeaving_line (a b : Mode) (s : State) :
    (flushOnLeaving a b s).line.address = s.line.address ∧ (flushOnLeaving a b s).line.link = s.line.link ∧
    (flushOnLeaving a b s).line.linkFilter = s.line.linkFilter ∧
    (flushOnLeaving a b s).line.receiving = s.line.receiving ∧ (flushOnLeaving a b s).line.relayQ = s.line.relayQ ∧
    (flushOnLeaving a b s).line.tx = s.line.tx ∧ (flushOnLeaving a b s).line.turn = s.line.turn ∧
    (flushOnLeaving a b s).line.connected = s.line.connected ∧
    (flushOnLeaving a b s).line.silenceTimer = s.line.silenceTimer := by
  simp only [flushOnLeaving]
  repeat' split
  all_goals simp

@[simp] theorem reportMode_line (m : Mode) (s : State) :
    (reportMode m s).line.address = s.line.address ∧ (reportMode m s).line.link = s.line.link ∧
    (reportMode m s).line.linkFilter = s.line.linkFilter ∧ (reportMode m s).line.receiving = s.line.receiving ∧
    (reportMode m s).line.relayQ = s.line.relayQ ∧ (reportMode m s).line.tx = s.line.tx ∧
    (reportMode m s).line.turn = s.line.turn ∧ (reportMode m s).line.connected = s.line.connected ∧
    (reportMode m s).line.silenceTimer = s.line.silenceTimer := by
  simp [reportMode]

@[simp] theorem changeMode_line (m : Mode) (s : State) :
    (changeMode m s).line.address = s.line.address ∧ (changeMode m s).line.link = s.line.link ∧
    (changeMode m s).line.linkFilter = s.line.linkFilter ∧ (changeMode m s).line.receiving = s.line.receiving ∧
    (changeMode m s).line.relayQ = s.line.relayQ ∧ (changeMode m s).line.tx = s.line.tx ∧
    (changeMode m s).line.turn = s.line.turn ∧ (changeMode m s).line.connected = s.line.connected ∧
    (changeMode m s).line.silenceTimer = s.line.silenceTimer := by
  simp [changeMode]

@[simp] theorem deriveMode_line (s : State) :
    (deriveMode s).line.address = s.line.address ∧ (deriveMode s).line.link = s.line.link ∧
    (deriveMode s).line.linkFilter = s.line.linkFilter ∧ (deriveMode s).line.receiving = s.line.receiving ∧
    (deriveMode s).line.relayQ = s.line.relayQ ∧ (deriveMode s).line.tx = s.line.tx ∧
    (deriveMode s).line.turn = s.line.turn ∧ (deriveMode s).line.connected = s.line.connected ∧
    (deriveMode s).line.silenceTimer = s.line.silenceTimer := by
  simp only [deriveMode]
  repeat' split
  all_goals simp

@[simp] theorem faultReport_line (n : Nat) (s : State) :
    (faultReport n s).line.address = s.line.address ∧ (faultReport n s).line.link = s.line.link ∧
    (faultReport n s).line.linkFilter = s.line.linkFilter ∧ (faultReport n s).line.receiving = s.line.receiving ∧
    (faultReport n s).line.relayQ = s.line.relayQ ∧ (faultReport n s).line.tx = s.line.tx ∧
    (faultReport n s).line.turn = s.line.turn ∧ (faultReport n s).line.connected = s.line.connected ∧
    (faultReport n s).line.silenceTimer = s.line.silenceTimer := by
  simp [faultReport]

@[simp] theorem takeEmergency_line (b : Bool) (s : State) :
    (takeEmergency b s).line.address = s.line.address ∧ (takeEmergency b s).line.link = s.line.link ∧
    (takeEmergency b s).line.linkFilter = s.line.linkFilter ∧ (takeEmergency b s).line.receiving = s.line.receiving ∧
    (takeEmergency b s).line.relayQ = s.line.relayQ ∧ (takeEmergency b s).line.tx = s.line.tx ∧
    (takeEmergency b s).line.turn = s.line.turn ∧ (takeEmergency b s).line.connected = s.line.connected ∧
    (takeEmergency b s).line.silenceTimer = s.line.silenceTimer := by
  simp only [takeEmergency]
  repeat' split
  all_goals simp

@[simp] theorem clearJam_line (s : State) :
    (clearJam s).line.address = s.line.address ∧ (clearJam s).line.link = s.line.link ∧
    (clearJam s).line.linkFilter = s.line.linkFilter ∧ (clearJam s).line.receiving = s.line.receiving ∧
    (clearJam s).line.relayQ = s.line.relayQ ∧ (clearJam s).line.tx = s.line.tx ∧
    (clearJam s).line.turn = s.line.turn ∧ (clearJam s).line.connected = s.line.connected ∧
    (clearJam s).line.silenceTimer = s.line.silenceTimer := by
  simp only [clearJam]
  repeat' split
  all_goals simp

@[simp] theorem reachOpen_line (s : State) :
    (reachOpen s).line.address = s.line.address ∧ (reachOpen s).line.link = s.line.link ∧
    (reachOpen s).line.linkFilter = s.line.linkFilter ∧ (reachOpen s).line.receiving = s.line.receiving ∧
    (reachOpen s).line.relayQ = s.line.relayQ ∧ (reachOpen s).line.tx = s.line.tx ∧
    (reachOpen s).line.turn = s.line.turn ∧ (reachOpen s).line.connected = s.line.connected ∧
    (reachOpen s).line.silenceTimer = s.line.silenceTimer := by
  simp [reachOpen]

@[simp] theorem reachClosed_line (s : State) :
    (reachClosed s).line.address = s.line.address ∧ (reachClosed s).line.link = s.line.link ∧
    (reachClosed s).line.linkFilter = s.line.linkFilter ∧ (reachClosed s).line.receiving = s.line.receiving ∧
    (reachClosed s).line.relayQ = s.line.relayQ ∧ (reachClosed s).line.tx = s.line.tx ∧
    (reachClosed s).line.turn = s.line.turn ∧ (reachClosed s).line.connected = s.line.connected ∧
    (reachClosed s).line.silenceTimer = s.line.silenceTimer := by
  simp [reachClosed]

@[simp] theorem readLimits_line (o c : Bool) (s : State) :
    (readLimits o c s).line.address = s.line.address ∧ (readLimits o c s).line.link = s.line.link ∧
    (readLimits o c s).line.linkFilter = s.line.linkFilter ∧ (readLimits o c s).line.receiving = s.line.receiving ∧
    (readLimits o c s).line.relayQ = s.line.relayQ ∧ (readLimits o c s).line.tx = s.line.tx ∧
    (readLimits o c s).line.turn = s.line.turn ∧ (readLimits o c s).line.connected = s.line.connected ∧
    (readLimits o c s).line.silenceTimer = s.line.silenceTimer := by
  simp only [readLimits]
  repeat' split
  all_goals simp

@[simp] theorem jamMotion_line (m : Motion) (s : State) :
    (jamMotion m s).line.address = s.line.address ∧ (jamMotion m s).line.link = s.line.link ∧
    (jamMotion m s).line.linkFilter = s.line.linkFilter ∧ (jamMotion m s).line.receiving = s.line.receiving ∧
    (jamMotion m s).line.relayQ = s.line.relayQ ∧ (jamMotion m s).line.tx = s.line.tx ∧
    (jamMotion m s).line.turn = s.line.turn ∧ (jamMotion m s).line.connected = s.line.connected ∧
    (jamMotion m s).line.silenceTimer = s.line.silenceTimer := by
  simp [jamMotion]

@[simp] theorem commandMode_line (m : Mode) (s : State) :
    (commandMode m s).line.address = s.line.address ∧ (commandMode m s).line.link = s.line.link ∧
    (commandMode m s).line.linkFilter = s.line.linkFilter ∧ (commandMode m s).line.receiving = s.line.receiving ∧
    (commandMode m s).line.relayQ = s.line.relayQ ∧ (commandMode m s).line.tx = s.line.tx ∧
    (commandMode m s).line.turn = s.line.turn ∧ (commandMode m s).line.connected = s.line.connected ∧
    (commandMode m s).line.silenceTimer = s.line.silenceTimer := by
  simp only [commandMode]
  repeat' split
  all_goals simp

@[simp] theorem replaceStage_line (g : Stage) (s : State) :
    (replaceStage g s).line.address = s.line.address ∧ (replaceStage g s).line.link = s.line.link ∧
    (replaceStage g s).line.linkFilter = s.line.linkFilter ∧ (replaceStage g s).line.receiving = s.line.receiving ∧
    (replaceStage g s).line.relayQ = s.line.relayQ ∧ (replaceStage g s).line.tx = s.line.tx ∧
    (replaceStage g s).line.turn = s.line.turn ∧ (replaceStage g s).line.connected = s.line.connected ∧
    (replaceStage g s).line.silenceTimer = s.line.silenceTimer := by
  simp [replaceStage]

@[simp] theorem stageDiscarded_line (s : State) :
    (stageDiscarded s).line.address = s.line.address ∧ (stageDiscarded s).line.link = s.line.link ∧
    (stageDiscarded s).line.linkFilter = s.line.linkFilter ∧ (stageDiscarded s).line.receiving = s.line.receiving ∧
    (stageDiscarded s).line.relayQ = s.line.relayQ ∧ (stageDiscarded s).line.tx = s.line.tx ∧
    (stageDiscarded s).line.turn = s.line.turn ∧ (stageDiscarded s).line.connected = s.line.connected ∧
    (stageDiscarded s).line.silenceTimer = s.line.silenceTimer := by
  simp only [stageDiscarded]
  repeat' split
  all_goals simp

@[simp] theorem applySwitch_line (b : Bank) (s : State) :
    (applySwitch b s).line.address = s.line.address ∧ (applySwitch b s).line.link = s.line.link ∧
    (applySwitch b s).line.linkFilter = s.line.linkFilter ∧ (applySwitch b s).line.receiving = s.line.receiving ∧
    (applySwitch b s).line.relayQ = s.line.relayQ ∧ (applySwitch b s).line.tx = s.line.tx ∧
    (applySwitch b s).line.turn = s.line.turn ∧ (applySwitch b s).line.connected = s.line.connected ∧
    (applySwitch b s).line.silenceTimer = s.line.silenceTimer := by
  simp [applySwitch]

@[simp] theorem trimFault_line (i : Nat) (s : State) :
    (trimFault i s).line.address = s.line.address ∧ (trimFault i s).line.link = s.line.link ∧
    (trimFault i s).line.linkFilter = s.line.linkFilter ∧ (trimFault i s).line.receiving = s.line.receiving ∧
    (trimFault i s).line.relayQ = s.line.relayQ ∧ (trimFault i s).line.tx = s.line.tx ∧
    (trimFault i s).line.turn = s.line.turn ∧ (trimFault i s).line.connected = s.line.connected ∧
    (trimFault i s).line.silenceTimer = s.line.silenceTimer := by
  simp [trimFault]

@[simp] theorem trimFails_line (i : Nat) (s : State) :
    (trimFails i s).line.address = s.line.address ∧ (trimFails i s).line.link = s.line.link ∧
    (trimFails i s).line.linkFilter = s.line.linkFilter ∧ (trimFails i s).line.receiving = s.line.receiving ∧
    (trimFails i s).line.relayQ = s.line.relayQ ∧ (trimFails i s).line.tx = s.line.tx ∧
    (trimFails i s).line.turn = s.line.turn ∧ (trimFails i s).line.connected = s.line.connected ∧
    (trimFails i s).line.silenceTimer = s.line.silenceTimer := by
  simp only [trimFails]
  repeat' split
  all_goals simp

@[simp] theorem judgeTrim_line (i : Nat) (s : State) :
    (judgeTrim i s).line.address = s.line.address ∧ (judgeTrim i s).line.link = s.line.link ∧
    (judgeTrim i s).line.linkFilter = s.line.linkFilter ∧ (judgeTrim i s).line.receiving = s.line.receiving ∧
    (judgeTrim i s).line.relayQ = s.line.relayQ ∧ (judgeTrim i s).line.tx = s.line.tx ∧
    (judgeTrim i s).line.turn = s.line.turn ∧ (judgeTrim i s).line.connected = s.line.connected ∧
    (judgeTrim i s).line.silenceTimer = s.line.silenceTimer := by
  simp only [judgeTrim]
  repeat' split
  all_goals simp

@[simp] theorem settleTrim_line (i : Nat) (s : State) :
    (settleTrim i s).line.address = s.line.address ∧ (settleTrim i s).line.link = s.line.link ∧
    (settleTrim i s).line.linkFilter = s.line.linkFilter ∧ (settleTrim i s).line.receiving = s.line.receiving ∧
    (settleTrim i s).line.relayQ = s.line.relayQ ∧ (settleTrim i s).line.tx = s.line.tx ∧
    (settleTrim i s).line.turn = s.line.turn ∧ (settleTrim i s).line.connected = s.line.connected ∧
    (settleTrim i s).line.silenceTimer = s.line.silenceTimer := by
  simp only [settleTrim]
  repeat' split
  all_goals simp

@[simp] theorem advanceTrim_line (s : State) :
    (advanceTrim s).line.address = s.line.address ∧ (advanceTrim s).line.link = s.line.link ∧
    (advanceTrim s).line.linkFilter = s.line.linkFilter ∧ (advanceTrim s).line.receiving = s.line.receiving ∧
    (advanceTrim s).line.relayQ = s.line.relayQ ∧ (advanceTrim s).line.tx = s.line.tx ∧
    (advanceTrim s).line.turn = s.line.turn ∧ (advanceTrim s).line.connected = s.line.connected ∧
    (advanceTrim s).line.silenceTimer = s.line.silenceTimer := by
  simp only [advanceTrim]
  split <;> simp

@[simp] theorem beginTrim_line (i : Nat) (s : State) :
    (beginTrim i s).line.address = s.line.address ∧ (beginTrim i s).line.link = s.line.link ∧
    (beginTrim i s).line.linkFilter = s.line.linkFilter ∧ (beginTrim i s).line.receiving = s.line.receiving ∧
    (beginTrim i s).line.relayQ = s.line.relayQ ∧ (beginTrim i s).line.tx = s.line.tx ∧
    (beginTrim i s).line.turn = s.line.turn ∧ (beginTrim i s).line.connected = s.line.connected ∧
    (beginTrim i s).line.silenceTimer = s.line.silenceTimer := by
  simp [beginTrim]

@[simp] theorem seekTrim_line (s : State) :
    (seekTrim s).line.address = s.line.address ∧ (seekTrim s).line.link = s.line.link ∧
    (seekTrim s).line.linkFilter = s.line.linkFilter ∧ (seekTrim s).line.receiving = s.line.receiving ∧
    (seekTrim s).line.relayQ = s.line.relayQ ∧ (seekTrim s).line.tx = s.line.tx ∧
    (seekTrim s).line.turn = s.line.turn ∧ (seekTrim s).line.connected = s.line.connected ∧
    (seekTrim s).line.silenceTimer = s.line.silenceTimer := by
  simp only [seekTrim]
  repeat' split
  all_goals simp

@[simp] theorem takeView_line (s : State) :
    (takeView s).line.address = s.line.address ∧ (takeView s).line.link = s.line.link ∧
    (takeView s).line.linkFilter = s.line.linkFilter ∧ (takeView s).line.receiving = s.line.receiving ∧
    (takeView s).line.relayQ = s.line.relayQ ∧ (takeView s).line.tx = s.line.tx ∧
    (takeView s).line.turn = s.line.turn ∧ (takeView s).line.connected = s.line.connected ∧
    (takeView s).line.silenceTimer = s.line.silenceTimer := by
  have h := fun l u => foldl_frame (fun s : State => (s.line.address, s.line.link, s.line.linkFilter, s.line.receiving, s.line.relayQ, s.line.tx, s.line.turn,
    s.line.connected, s.line.silenceTimer))
    takeReport (by rintro s (_ | _ | _ | _ | _) <;> simp [takeReport]) l u
  unfold takeView
  simpa [Prod.mk.injEq] using h _ (s.onBeam _)

@[simp] theorem fallSilent_line (s : State) :
    (fallSilent s).line.address = s.line.address ∧ (fallSilent s).line.link = s.line.link ∧
    (fallSilent s).line.linkFilter = s.line.linkFilter ∧ (fallSilent s).line.receiving = s.line.receiving ∧
    (fallSilent s).line.relayQ = s.line.relayQ ∧ (fallSilent s).line.tx = s.line.tx ∧
    (fallSilent s).line.turn = s.line.turn ∧ (fallSilent s).line.connected = s.line.connected ∧
    (fallSilent s).line.silenceTimer = s.line.silenceTimer := by
  simp only [fallSilent]
  repeat' split
  all_goals simp

@[simp] theorem missPeriod_line (s : State) :
    (missPeriod s).line.address = s.line.address ∧ (missPeriod s).line.link = s.line.link ∧
    (missPeriod s).line.linkFilter = s.line.linkFilter ∧ (missPeriod s).line.receiving = s.line.receiving ∧
    (missPeriod s).line.relayQ = s.line.relayQ ∧ (missPeriod s).line.tx = s.line.tx ∧
    (missPeriod s).line.turn = s.line.turn ∧ (missPeriod s).line.connected = s.line.connected ∧
    (missPeriod s).line.silenceTimer = s.line.silenceTimer := by
  simp only [missPeriod]
  repeat' split
  all_goals simp

@[simp] theorem processSample_line (l : Six Nat) (s : State) :
    (processSample l s).line.address = s.line.address ∧ (processSample l s).line.link = s.line.link ∧
    (processSample l s).line.linkFilter = s.line.linkFilter ∧ (processSample l s).line.receiving = s.line.receiving ∧
    (processSample l s).line.relayQ = s.line.relayQ ∧ (processSample l s).line.tx = s.line.tx ∧
    (processSample l s).line.turn = s.line.turn ∧ (processSample l s).line.connected = s.line.connected ∧
    (processSample l s).line.silenceTimer = s.line.silenceTimer := by
  simp [processSample]

end Sys2Proof.Machine
end

