-- ==== Sys2Proof/Laws/LineCounts.lean ====
section
/-! SUPPORT. The quota counts (R172): what each movement of a buffer does to them, and the HOLD outputs that follow (R173). -/

namespace Sys2Proof.Machine

open Sys2Proof

@[simp] theorem LineIf.count_setHold (l : LineIf) (q : Quota) : l.setHold.count q = l.count q := rfl
@[simp] theorem LineIf.free_setHold (l : LineIf) : l.setHold.free = l.free := rfl

/-- R173: setting the HOLD outputs twice is setting them once. -/
@[simp] theorem LineIf.setHold_setHold (l : LineIf) : l.setHold.setHold = l.setHold := by
  have h : ∀ n b, holdLevel n (holdLevel n b) = holdLevel n b := by
    intro n b
    unfold holdLevel
    split
    · rfl
    · split <;> rfl
  have e1 := h (l.count (.port .up)) l.holdOut.up
  have e2 := h (l.count (.port .down)) l.holdOut.down
  unfold LineIf.setHold
  exact congrArg (fun x => { l with holdOut := x }) (congrArg₂ ByLine.mk e1 e2)

/-- R165: a reception that begins adds one to its port's count, and to no other. -/
theorem LineIf.count_receive (p : LinePort) (q : Quota) (l : LineIf) (h : l.receiving.get p = false) :
    ({ l with receiving := l.receiving.put p true } : LineIf).count q = l.count q + (if q = .port p then 1 else 0) := by
  rcases hr : l.receiving with ⟨u, d⟩
  cases p <;> rcases q with (q | q) | q <;> cases u <;> cases d <;>
    simp_all [LineIf.count, LineIf.arrived, LineIf.buffered, ByLine.put, ByLine.get] <;> omega

/-- R166: a reception that ends frees one buffer of its port's count. -/
theorem LineIf.count_endReception (p : LinePort) (q : Quota) (l : LineIf) (h : l.receiving.get p = true) :
    ({ l with receiving := l.receiving.put p false } : LineIf).count q + (if q = .port p then 1 else 0) = l.count q := by
  rcases hr : l.receiving with ⟨u, d⟩
  cases p <;> rcases q with (q | q) | q <;> cases u <;> cases d <;>
    simp_all [LineIf.count, LineIf.arrived, LineIf.buffered, ByLine.put, ByLine.get] <;> omega

/-- R172: a buffer that joins the relay queue of a port counts as its quota says. -/
theorem LineIf.count_joinRelay (p : LinePort) (b : Buffered) (q : Quota) (l : LineIf) :
    ({ l with relayQ := l.relayQ.put p (l.relayQ.get p ++ [b]) } : LineIf).count q
      = l.count q + (if b.quota = q then 1 else 0) := by
  cases p <;> by_cases h : b.quota = q <;>
    simp [LineIf.count, LineIf.arrived, LineIf.buffered, ByLine.put, ByLine.get, List.countP_append, h] <;>
    cases q <;> simp <;> omega

/-- R172: a buffer that joins the local queue of a port counts as its quota says. -/
theorem LineIf.count_joinLocal (p : LinePort) (b : Buffered) (q : Quota) (l : LineIf) :
    ({ l with localQ := l.localQ.put p (l.localQ.get p ++ [b]) } : LineIf).count q
      = l.count q + (if b.quota = q then 1 else 0) := by
  cases p <;> by_cases h : b.quota = q <;>
    simp [LineIf.count, LineIf.arrived, LineIf.buffered, ByLine.put, ByLine.get, List.countP_append, h] <;>
    cases q <;> simp <;> omega

/-- R172: an entry that joins the held entries counts against the port its buffer came from. -/
theorem LineIf.count_joinHeld (h : HeldEntry) (q : Quota) (l : LineIf) :
    ({ l with held := l.held ++ [h] } : LineIf).count q = l.count q + (if q = .port h.source then 1 else 0) := by
  rcases q with (q | q) | q <;> cases hs : h.source <;>
    simp [LineIf.count, LineIf.arrived, LineIf.buffered, List.countP_append, hs] <;> omega

/-- R176: a conversion moves a buffer from its port's quota to the local quota. -/
theorem LineIf.count_convertHead (h : HeldEntry) (rest : List HeldEntry) (q : Quota) (l : LineIf)
    (hh : l.held = h :: rest) :
    l.convertHead.count q + (if q = .port h.source then 1 else 0) = l.count q + (if q = .own then 1 else 0) := by
  rcases hr : l.receiving with ⟨u, d⟩
  rcases q with (q | q) | q <;> cases hs : h.source <;> cases hb : h.bound <;> cases u <;> cases d <;>
    simp [hr, LineIf.count, LineIf.arrived, LineIf.buffered, LineIf.convertHead, ByLine.put, ByLine.get, hh, hs, hb] <;> omega

/-- R175: a transmission that ends frees one buffer of its quota. -/
theorem LineIf.count_endTransmission (p : LinePort) (b : Buffered) (q : Quota) (l : LineIf) (h : l.tx.get p = some b) :
    ({ l with tx := l.tx.put p none } : LineIf).count q + (if b.quota = q then 1 else 0) = l.count q := by
  cases p <;> by_cases e : b.quota = q <;>
    simp_all [LineIf.count, LineIf.arrived, LineIf.buffered, ByLine.put, ByLine.get, List.countP_append] <;>
    cases q <;> simp_all <;> omega

/-- R175: the arbiter moves a buffer from a queue into transmission: no count changes. -/
theorem LineIf.count_pick (p : LinePort) (q : Quota) (l : LineIf) (h : l.tx.get p = none) :
    (l.pick p).count q = l.count q := by
  have ha : (l.pick p).arrived q = l.arrived q := by
    unfold LineIf.pick
    repeat' split
    all_goals rfl
  have hb : (l.pick p).buffered.countP (fun b => b.quota == q) = l.buffered.countP (fun b => b.quota == q) := by
    unfold LineIf.pick
    cases p <;> simp only [ByLine.get] at * <;> repeat' split
    all_goals
      simp_all [LineIf.buffered, LineIf.pickRelay, LineIf.pickLocal, ByLine.put, List.countP_append, List.countP_cons]
    all_goals omega
  rw [LineIf.count, ha, hb, ← LineIf.count]

end Sys2Proof.Machine
end

