-- ==== Sys2Proof/Laws/Lists.lean ====
section
/-! SUPPORT. The lists kept in ascending order of a key (R28; the sighting table by log 48): what is found after an item is put in its place or removed, and
that the order and the capacity are kept. -/

namespace Sys2Proof.Machine

open Sys2Proof

variable {α : Type} (key : α → Nat)

theorem findBy_cons (k : Nat) (y : α) (ys : List α) :
    findBy key k (y :: ys) = if key y = k then some y else findBy key k ys := by
  unfold findBy
  by_cases h : key y = k
  · simp [h]
  · rw [List.find?_cons_of_neg (by simpa using h), if_neg h]

/-- After `putBy`, its item is found under its key, and every other key finds what it found before. -/
theorem findBy_putBy (x : α) (k : Nat) (l : List α) :
    findBy key k (putBy key x l) = if k = key x then some x else findBy key k l := by
  induction l with
  | nil =>
    rw [putBy, findBy_cons]
    by_cases h : k = key x
    · rw [if_pos h, if_pos h.symm]
    · rw [if_neg h, if_neg (fun e => h e.symm)]
  | cons y ys ih =>
    unfold putBy
    by_cases h : k = key x
    · rw [if_pos h] at ih ⊢
      split
      · rw [findBy_cons, if_pos h.symm]
      · split
        · rw [findBy_cons, if_pos h.symm]
        · rw [findBy_cons, if_neg (by omega), ih]
    · rw [if_neg h] at ih ⊢
      split
      · rw [findBy_cons, if_neg (fun e => h e.symm)]
      · split
        · rw [findBy_cons, if_neg (fun e => h e.symm), findBy_cons, if_neg (by omega)]
        · rw [findBy_cons, findBy_cons, ih]

/-- After `dropBy` its key finds nothing, and every other key finds what it found before. -/
theorem findBy_dropBy (k j : Nat) (l : List α) :
    findBy key j (dropBy key k l) = if j = k then none else findBy key j l := by
  unfold findBy dropBy
  rw [List.find?_filter]
  by_cases h : j = k
  · subst h
    simp only [if_true, List.find?_eq_none]
    intro x _
    simp
  · simp only [if_neg h]
    congr 1
    funext x
    by_cases hx : key x = j
    · simp [hx, h]
    · simp [hx]

theorem mem_putBy {x y : α} {l : List α} (h : y ∈ putBy key x l) : y = x ∨ y ∈ l := by
  induction l with
  | nil => exact .inl (by simpa [putBy] using h)
  | cons z zs ih =>
    unfold putBy at h
    split at h
    · simpa using h
    · split at h
      · rcases List.mem_cons.1 h with h | h
        · exact .inl h
        · exact .inr (List.mem_cons_of_mem _ h)
      · rcases List.mem_cons.1 h with h | h
        · exact .inr (h ▸ List.mem_cons_self)
        · exact (ih h).imp_right (List.mem_cons_of_mem _)

/-- `putBy` keeps the order. -/
theorem ascending_putBy (x : α) {l : List α} (h : ascending key l) : ascending key (putBy key x l) := by
  unfold ascending at *
  induction l with
  | nil => simp [putBy]
  | cons y ys ih =>
    obtain ⟨hy, hys⟩ := List.pairwise_cons.1 h
    unfold putBy
    split
    · rename_i hlt
      refine List.pairwise_cons.2 ⟨fun z hz => ?_, h⟩
      rcases List.mem_cons.1 hz with rfl | hz
      · exact hlt
      · exact lt_trans hlt (hy z hz)
    · split
      · rename_i heq
        exact List.pairwise_cons.2 ⟨fun z hz => heq ▸ hy z hz, hys⟩
      · refine List.pairwise_cons.2 ⟨fun z hz => ?_, ih hys⟩
        rcases mem_putBy key hz with rfl | hz
        · omega
        · exact hy z hz

/-- `dropBy` keeps the order. -/
theorem ascending_dropBy (k : Nat) {l : List α} (h : ascending key l) : ascending key (dropBy key k l) :=
  List.Pairwise.filter _ h

theorem length_putBy_le (x : α) (l : List α) : (putBy key x l).length ≤ l.length + 1 := by
  induction l with
  | nil => simp [putBy]
  | cons y ys ih =>
    unfold putBy
    split
    · simp
    · split <;> simp [ih]

/-- An item put in the place of the item of its key leaves the length as it is. -/
theorem length_putBy_of_found (x : α) {l : List α} (h : ascending key l) (hf : (findBy key (key x) l).isSome = true) :
    (putBy key x l).length = l.length := by
  induction l with
  | nil => simp [findBy] at hf
  | cons y ys ih =>
    obtain ⟨hy, hys⟩ := List.pairwise_cons.1 h
    unfold putBy
    by_cases e : key y = key x
    · simp [e]
    · have hf' : (findBy key (key x) ys).isSome = true := by
        rwa [findBy_cons, if_neg e] at hf
      split
      · rename_i hlt
        obtain ⟨z, hz⟩ := Option.isSome_iff_exists.1 hf'
        have h1 := List.mem_of_find?_eq_some hz
        have h2 : key z = key x := by simpa using List.find?_some hz
        have h3 := hy z h1
        omega
      · rw [if_neg (fun e2 => e e2.symm)]
        simpa using ih hys hf'

theorem length_dropBy_le (k : Nat) (l : List α) : (dropBy key k l).length ≤ l.length := List.length_filter_le _ _

/-- An item removed leaves the list one shorter at least. -/
theorem length_dropBy_lt {x : α} {l : List α} (h : x ∈ l) : (dropBy key (key x) l).length < l.length := by
  refine List.length_filter_lt_length_iff_exists.2 ⟨x, h, by simp⟩

end Sys2Proof.Machine
end

