-- ==== Sys2Proof/Laws/PerInstr.lean ====
section
/-! SUPPORT. For every command: when it is well formed, the payload of the frame that carries it, where a frame does, is at most
240 bytes (R165, section 11.2), so that the frame can be received. -/

namespace Sys2Proof.Laws

open Sys2Proof Sys2Proof.Machine

/-- The payload of the frame that carries a command, for the commands a frame carries. -/
def framePayload (i : Instr) : Option (List Byte) :=
  match i with
  | .unknownKind _ _ payload => some payload
  | .sight _ x => some (SightPayload.bytes x)
  | .suspect _ x => some (SuspectPayload.bytes x)
  | .enumerate n => some [n]
  | i => (asLineCommand i).map fun c => c.2.1 :: c.2.2.fields

/-- The payload of a well-formed command fits in a frame. -/
def PayloadFits.Statement (i : Instr) : Prop :=
  i.wf = true → ∀ payload, framePayload i = some payload → payload.length ≤ 240

/-- The bytes of SET's entries: five for each. -/
theorem length_setEntries (l : List (Byte × Int)) : (l.flatMap fun e => e.1 :: beSigned 4 e.2).length = 5 * l.length := by
  induction l with
  | nil => rfl
  | cons e l ih => simp [List.flatMap_cons, ih]; omega

theorem PayloadFits.coldReset (cause : ResetCause) : PayloadFits.Statement (.coldReset cause) := by
  intro _ payload e
  simp [framePayload, asLineCommand] at e

theorem PayloadFits.warmReset : PayloadFits.Statement (.warmReset) := by
  intro _ payload e
  simp [framePayload, asLineCommand] at e

theorem PayloadFits.emergencyPinChange (asserted : Bool) : PayloadFits.Statement (.emergencyPinChange asserted) := by
  intro _ payload e
  simp [framePayload, asLineCommand] at e

theorem PayloadFits.emergencyTaken : PayloadFits.Statement (.emergencyTaken) := by
  intro _ payload e
  simp [framePayload, asLineCommand] at e

theorem PayloadFits.linkPinChange (port : LinePort) (up : Bool) :
    PayloadFits.Statement (.linkPinChange port up) := by
  intro _ payload e
  simp [framePayload, asLineCommand] at e

theorem PayloadFits.linkTaken (port : LinePort) : PayloadFits.Statement (.linkTaken port) := by
  intro _ payload e
  simp [framePayload, asLineCommand] at e

theorem PayloadFits.holdInputChange (port : LinePort) (asserted : Bool) :
    PayloadFits.Statement (.holdInputChange port asserted) := by
  intro _ payload e
  simp [framePayload, asLineCommand] at e

theorem PayloadFits.frameStart (port : LinePort) : PayloadFits.Statement (.frameStart port) := by
  intro _ payload e
  simp [framePayload, asLineCommand] at e

theorem PayloadFits.frameEnd (port : LinePort) (bytes : List Byte) (endMark : Bool) :
    PayloadFits.Statement (.frameEnd port bytes endMark) := by
  intro _ payload e
  simp [framePayload, asLineCommand] at e

theorem PayloadFits.transmissionBegin (port : LinePort) : PayloadFits.Statement (.transmissionBegin port) := by
  intro _ payload e
  simp [framePayload, asLineCommand] at e

theorem PayloadFits.transmissionEnd (port : LinePort) : PayloadFits.Statement (.transmissionEnd port) := by
  intro _ payload e
  simp [framePayload, asLineCommand] at e

theorem PayloadFits.heldConversion : PayloadFits.Statement (.heldConversion) := by
  intro _ payload e
  simp [framePayload, asLineCommand] at e

theorem PayloadFits.silenceTimerExpiry : PayloadFits.Statement (.silenceTimerExpiry) := by
  intro _ payload e
  simp [framePayload, asLineCommand] at e

theorem PayloadFits.enumerate (n : Byte) : PayloadFits.Statement (.enumerate n) := by
  intro _ payload e
  simp only [framePayload, Option.some.injEq] at e
  subst e
  simp

theorem PayloadFits.time (arrival : Arrival) (tag : Byte) (date secs : Nat) :
    PayloadFits.Statement (.time arrival tag date secs) := by
  intro _ payload e
  simp only [framePayload, asLineCommand, Option.map_some, Option.some.injEq] at e
  subst e
  simp [LineCommand.fields]

theorem PayloadFits.set (arrival : Arrival) (tag : Byte) (entries : List (Byte × Int)) :
    PayloadFits.Statement (.set arrival tag entries) := by
  intro h payload e
  simp only [Instr.wf, Bool.and_eq_true, decide_eq_true_eq] at h
  simp only [framePayload, asLineCommand, Option.map_some, Option.some.injEq, LineCommand.fields] at e
  subst e
  simp only [List.length_cons, length_setEntries]
  omega

theorem PayloadFits.query (arrival : Arrival) (tag : Byte) : PayloadFits.Statement (.query arrival tag) := by
  intro _ payload e
  simp only [framePayload, asLineCommand, Option.map_some, Option.some.injEq] at e
  subst e
  simp [LineCommand.fields]

theorem PayloadFits.stageOpen (arrival : Arrival) (tag : Byte) (bankTag : Nat) :
    PayloadFits.Statement (.stageOpen arrival tag bankTag) := by
  intro _ payload e
  simp only [framePayload, asLineCommand, Option.map_some, Option.some.injEq] at e
  subst e
  simp [LineCommand.fields]

theorem PayloadFits.stageLoad (arrival : Arrival) (tag : Byte) (bankTag : Nat) (segment part : Byte) (values : List Byte) :
    PayloadFits.Statement (.stageLoad arrival tag bankTag segment part values) := by
  intro h payload e
  simp only [Instr.wf, Bool.and_eq_true, decide_eq_true_eq] at h
  simp only [framePayload, asLineCommand, Option.map_some, Option.some.injEq, LineCommand.fields] at e
  subst e
  simp only [List.length_cons, List.length_append, length_be, List.length_nil]
  omega

theorem PayloadFits.stageSwitch (arrival : Arrival) (tag : Byte) (effective : Option (Nat × Nat)) :
    PayloadFits.Statement (.stageSwitch arrival tag effective) := by
  intro _ payload e
  simp only [framePayload, asLineCommand, Option.map_some, Option.some.injEq] at e
  subst e
  rcases effective with _ | ⟨date, secs⟩ <;> simp [LineCommand.fields]

theorem PayloadFits.stageDiscard (arrival : Arrival) (tag : Byte) :
    PayloadFits.Statement (.stageDiscard arrival tag) := by
  intro _ payload e
  simp only [framePayload, asLineCommand, Option.map_some, Option.some.injEq] at e
  subst e
  simp [LineCommand.fields]

theorem PayloadFits.denyAdd (arrival : Arrival) (tag : Byte) (cardId : Nat) (reason action : Byte) :
    PayloadFits.Statement (.denyAdd arrival tag cardId reason action) := by
  intro _ payload e
  simp only [framePayload, asLineCommand, Option.map_some, Option.some.injEq] at e
  subst e
  simp [LineCommand.fields]

theorem PayloadFits.denyDrop (arrival : Arrival) (tag : Byte) (cardId : Nat) :
    PayloadFits.Statement (.denyDrop arrival tag cardId) := by
  intro _ payload e
  simp only [framePayload, asLineCommand, Option.map_some, Option.some.injEq] at e
  subst e
  simp [LineCommand.fields]

theorem PayloadFits.collect (arrival : Arrival) (tag : Byte) (k : Byte) :
    PayloadFits.Statement (.collect arrival tag k) := by
  intro _ payload e
  simp only [framePayload, asLineCommand, Option.map_some, Option.some.injEq] at e
  subst e
  simp [LineCommand.fields]

theorem PayloadFits.trim (arrival : Arrival) (tag : Byte) (firstSeq n : Nat) :
    PayloadFits.Statement (.trim arrival tag firstSeq n) := by
  intro _ payload e
  simp only [framePayload, asLineCommand, Option.map_some, Option.some.injEq] at e
  subst e
  simp [LineCommand.fields]

theorem PayloadFits.laneMode (arrival : Arrival) (tag : Byte) (mode : Byte) :
    PayloadFits.Statement (.laneMode arrival tag mode) := by
  intro _ payload e
  simp only [framePayload, asLineCommand, Option.map_some, Option.some.injEq] at e
  subst e
  simp [LineCommand.fields]

theorem PayloadFits.ackStart (arrival : Arrival) (tag : Byte) : PayloadFits.Statement (.ackStart arrival tag) := by
  intro _ payload e
  simp only [framePayload, asLineCommand, Option.map_some, Option.some.injEq] at e
  subst e
  simp [LineCommand.fields]

theorem PayloadFits.restart (arrival : Arrival) (tag : Byte) : PayloadFits.Statement (.restart arrival tag) := by
  intro _ payload e
  simp only [framePayload, asLineCommand, Option.map_some, Option.some.injEq] at e
  subst e
  simp [LineCommand.fields]

theorem PayloadFits.unknownKind (arrival : Arrival) (kind : Byte) (payload : List Byte) :
    PayloadFits.Statement (.unknownKind arrival kind payload) := by
  intro h payload' e
  simp only [Instr.wf, Bool.and_eq_true, decide_eq_true_eq] at h
  simp only [framePayload, Option.some.injEq] at e
  subst e
  exact h.2

theorem PayloadFits.sight (arrival : Arrival) (payload : SightPayload) :
    PayloadFits.Statement (.sight arrival payload) := by
  intro _ bytes e
  simp only [framePayload, Option.some.injEq] at e
  subst e
  simp [SightPayload.bytes]

theorem PayloadFits.suspect (arrival : Arrival) (payload : SuspectPayload) :
    PayloadFits.Statement (.suspect arrival payload) := by
  intro _ bytes e
  simp only [framePayload, Option.some.injEq] at e
  subst e
  simp [SuspectPayload.bytes]

theorem PayloadFits.clockAdvance : PayloadFits.Statement (.clockAdvance) := by
  intro _ payload e
  simp [framePayload, asLineCommand] at e

theorem PayloadFits.timeAgeExpiry : PayloadFits.Statement (.timeAgeExpiry) := by
  intro _ payload e
  simp [framePayload, asLineCommand] at e

theorem PayloadFits.switchApplication : PayloadFits.Statement (.switchApplication) := by
  intro _ payload e
  simp [framePayload, asLineCommand] at e

theorem PayloadFits.recoveryExpiry (cardId : Nat) : PayloadFits.Statement (.recoveryExpiry cardId) := by
  intro _ payload e
  simp [framePayload, asLineCommand] at e

theorem PayloadFits.pollTimerExpiry (port : Port) : PayloadFits.Statement (.pollTimerExpiry port) := by
  intro _ payload e
  simp [framePayload, asLineCommand] at e

theorem PayloadFits.senseAnswer (port : Port) (message : List Byte) :
    PayloadFits.Statement (.senseAnswer port message) := by
  intro _ payload e
  simp [framePayload, asLineCommand] at e

theorem PayloadFits.readAnswer (port : Port) (message : List Byte) :
    PayloadFits.Statement (.readAnswer port message) := by
  intro _ payload e
  simp [framePayload, asLineCommand] at e

theorem PayloadFits.proveAnswer (port : Port) (message : List Byte) :
    PayloadFits.Statement (.proveAnswer port message) := by
  intro _ payload e
  simp [framePayload, asLineCommand] at e

theorem PayloadFits.checkAnswer (message : List Byte) : PayloadFits.Statement (.checkAnswer message) := by
  intro _ payload e
  simp [framePayload, asLineCommand] at e

theorem PayloadFits.proofTimeoutExpiry : PayloadFits.Statement (.proofTimeoutExpiry) := by
  intro _ payload e
  simp [framePayload, asLineCommand] at e

theorem PayloadFits.verbDeadlineExpiry (port : Port) : PayloadFits.Statement (.verbDeadlineExpiry port) := by
  intro _ payload e
  simp [framePayload, asLineCommand] at e

theorem PayloadFits.recheckBeforeCommit (port : Port) : PayloadFits.Statement (.recheckBeforeCommit port) := by
  intro _ payload e
  simp [framePayload, asLineCommand] at e

theorem PayloadFits.markAnswer (port : Port) (message : List Byte) :
    PayloadFits.Statement (.markAnswer port message) := by
  intro _ payload e
  simp [framePayload, asLineCommand] at e

theorem PayloadFits.commitAnswer (port : Port) (message : List Byte) :
    PayloadFits.Statement (.commitAnswer port message) := by
  intro _ payload e
  simp [framePayload, asLineCommand] at e

theorem PayloadFits.confirmingReadAnswer (port : Port) (message : List Byte) :
    PayloadFits.Statement (.confirmingReadAnswer port message) := by
  intro _ payload e
  simp [framePayload, asLineCommand] at e

theorem PayloadFits.reissuedCommitAnswer (port : Port) (message : List Byte) :
    PayloadFits.Statement (.reissuedCommitAnswer port message) := by
  intro _ payload e
  simp [framePayload, asLineCommand] at e

theorem PayloadFits.sampleTimerExpiry : PayloadFits.Statement (.sampleTimerExpiry) := by
  intro _ payload e
  simp [framePayload, asLineCommand] at e

theorem PayloadFits.sampleSet (message : List Byte) : PayloadFits.Statement (.sampleSet message) := by
  intro _ payload e
  simp [framePayload, asLineCommand] at e

theorem PayloadFits.anomaly : PayloadFits.Statement (.anomaly) := by
  intro _ payload e
  simp [framePayload, asLineCommand] at e

theorem PayloadFits.creditLifeExpiry : PayloadFits.Statement (.creditLifeExpiry) := by
  intro _ payload e
  simp [framePayload, asLineCommand] at e

theorem PayloadFits.waitLimitExpiry (direction : Direction) :
    PayloadFits.Statement (.waitLimitExpiry direction) := by
  intro _ payload e
  simp [framePayload, asLineCommand] at e

theorem PayloadFits.limitAsserted (atOpen atClosed : Bool) :
    PayloadFits.Statement (.limitAsserted atOpen atClosed) := by
  intro _ payload e
  simp [framePayload, asLineCommand] at e

theorem PayloadFits.closeDelayExpiry : PayloadFits.Statement (.closeDelayExpiry) := by
  intro _ payload e
  simp [framePayload, asLineCommand] at e

theorem PayloadFits.motionTimerExpiry : PayloadFits.Statement (.motionTimerExpiry) := by
  intro _ payload e
  simp [framePayload, asLineCommand] at e

theorem PayloadFits.briskTimerExpiry : PayloadFits.Statement (.briskTimerExpiry) := by
  intro _ payload e
  simp [framePayload, asLineCommand] at e

theorem PayloadFits.dormantTimerExpiry : PayloadFits.Statement (.dormantTimerExpiry) := by
  intro _ payload e
  simp [framePayload, asLineCommand] at e

theorem PayloadFits.tallyGapExpiry : PayloadFits.Statement (.tallyGapExpiry) := by
  intro _ payload e
  simp [framePayload, asLineCommand] at e

end Sys2Proof.Laws
end

