-- ==== Sys2Proof/Tests/Slice0.lean ====
section
/-! SUPPORT. Tests: the well-formedness checks, the manual's worked cases and tables, and for every statement with hypotheses a
state and operands that meet them. Expected results come from the manual, as each comment names them. -/

namespace Sys2Proof.Tests

open Sys2Proof Sys2Proof.Machine

set_option maxRecDepth 8000
-- Many small evaluations: one thread at a time keeps their stacks within the memory limit.
set_option Elab.async false

/-! ### Well-formedness: an ill-formed term for each check -/

/-- An arrival by the up port, addressed to this gate, with Hops 0. -/
def plain : Arrival := ⟨.up, false, 0, 0⟩
/-- A broadcast by the up port with Hops 2. -/
def wide : Arrival := ⟨.up, true, 0, 2⟩

theorem test_wf_hops : (Instr.query ⟨.up, true, 0, 63⟩ 0).wf = false ∧ (Instr.query ⟨.up, true, 0, 62⟩ 0).wf = true := by decide
theorem test_wf_frameEnd_longer_than_256 : (Instr.frameEnd .up (List.replicate 257 0) true).wf = false := by decide
theorem test_wf_frameEnd_cut_off_early : (Instr.frameEnd .up [0] false).wf = false := by decide
theorem test_wf_time_date : (Instr.time plain 0 65536 0).wf = false ∧ (Instr.time plain 0 65535 0).wf = true := by decide
theorem test_wf_time_secs : (Instr.time plain 0 0 16777216).wf = false ∧ (Instr.time plain 0 0 90000).wf = true := by decide
theorem test_wf_set_entries : (Instr.set plain 0 (List.replicate 48 (1, 10))).wf = false := by decide
theorem test_wf_set_value : (Instr.set plain 0 [(1, 2147483648)]).wf = false ∧ (Instr.set plain 0 [(1, -2147483648)]).wf = true := by
  decide
theorem test_wf_stageOpen : (Instr.stageOpen plain 0 4294967296).wf = false := by decide
theorem test_wf_stageLoad_tag : (Instr.stageLoad plain 0 4294967296 0 0 []).wf = false := by decide
theorem test_wf_stageLoad_length : (Instr.stageLoad plain 0 1 0 0 (List.replicate 234 0)).wf = false := by decide
theorem test_wf_stageSwitch : (Instr.stageSwitch plain 0 (some (65536, 0))).wf = false ∧ (Instr.stageSwitch plain 0 none).wf = true := by
  decide
theorem test_wf_denyAdd : (Instr.denyAdd plain 0 (256 ^ 5) 0 0).wf = false := by decide
theorem test_wf_denyDrop : (Instr.denyDrop plain 0 (256 ^ 5)).wf = false := by decide
theorem test_wf_trim_seq : (Instr.trim plain 0 4294967296 1).wf = false := by decide
theorem test_wf_trim_count : (Instr.trim plain 0 1 65536).wf = false := by decide
theorem test_wf_unknownKind_known : (Instr.unknownKind plain 19 []).wf = false ∧ (Instr.unknownKind plain 20 []).wf = true := by decide
theorem test_wf_unknownKind_length : (Instr.unknownKind plain 20 (List.replicate 241 0)).wf = false := by decide
theorem test_wf_sight_counter : (Instr.sight wide ⟨1, 65536, 0, 0, 0, 0, 0⟩).wf = false := by decide
theorem test_wf_sight_balance : (Instr.sight wide ⟨1, 0, 8388608, 0, 0, 0, 0⟩).wf = false := by decide
theorem test_wf_suspect : (Instr.suspect wide ⟨1, 0, 0, 0, 16777216⟩).wf = false := by decide
theorem test_wf_recoveryExpiry : (Instr.recoveryExpiry (256 ^ 5)).wf = false := by decide

/-! ### The host's two functions -/

/-- The table gives no row any bits. -/
theorem test_no_word_spells_a_command : decodeTableWord 16 0 = none ∧ State.reset.withFetchWord 16 0 = State.reset := ⟨rfl, rfl⟩

/-! ### Worked cases of the manual -/

/-- R200: the check of the nine ASCII digits is 10,673 (29B1H). -/
theorem test_check_of_nine_digits : crc16 [49, 50, 51, 52, 53, 54, 55, 56, 57] = 10673 := by decide +kernel

/-- The bank of the worked cases of chapter 3, with the bands of the example under R55. -/
def bank : Bank where
  tag := 7041
  station := ⟨1120, 9⟩
  matrix := List.replicate 137 200 ++ [270] ++ List.replicate 886 200
  bands := ⟨[⟨18000, 1000⟩, ⟨25200, 1250⟩, ⟨34200, 1000⟩, ⟨68400, 800⟩], 0⟩
  classes := [⟨1000, 0⟩, ⟨1000, 0⟩, ⟨500, 600⟩, ⟨1000, 0⟩, ⟨1000, 0⟩, ⟨1000, 0⟩, ⟨1000, 0⟩, ⟨0, 0⟩]
  rules := ⟨1800, 50, 200, 500, 900, 400, 150, 600, 7200, 5⟩
  check := 0

/-- The clock of the worked cases. -/
def goodClock (secs : Nat) : Clock := ⟨⟨9500, secs⟩, .good⟩

/-- The card of case 1. -/
def child : Image where
  cardId := 40112
  keyGen := 1
  cls := 2
  classExpiry := 0
  status := .active
  balance := 1050
  counter := 311
  entry := some ⟨1004, 4, 9500, 29700, 1⟩
  lastExit := some ⟨9500, 28800⟩
  dailyDate := 9500
  dailySpent := 520

/-- What a reckoning takes: amount, balance, Daily.Spent and the number of records. -/
def taken (r : Reckoning) : Option (Nat × Int × Nat × Nat) :=
  match r with
  | .taken k => some (k.amount, k.balance, k.dailySpent, k.contents.length)
  | .insufficient _ => none

/-- R55: the bands of the example. -/
theorem test_bands : [30000, 34200, 70000, 3600].map bank.bands.inEffect = [1, 2, 3, 3] := by decide
/-- Case 1: a capped child fare with a transfer. -/
theorem test_fare_case_1 : taken (reckon .outbound bank child (goodClock 31000)) = some (80, 970, 600, 1) := by decide +kernel
/-- Case 1, the card out last on Date 9,499 at Secs 86,000, without a cap: no discount, 170. -/
theorem test_fare_case_1_no_transfer :
    steppedFare bank { child with lastExit := some ⟨9499, 86000⟩ } ⟨1004, 4, 9500, 29700, 1⟩ 2 = 170 := by decide +kernel
/-- Case 2: the step stage stops at 65,530. -/
theorem test_fare_case_2 : stepStage 65535 10 = 65530 ∧ bandStage 60000 2000 = 65535 := by decide
/-- Case 3: an unverified exit, and the same with a balance of 300. -/
theorem test_fare_case_3 :
    taken (reckon .outbound bank { child with entry := none, balance := 700, dailySpent := 600 } (goodClock 31000)) = some (900, -200, 600, 1)
    ∧ reckon .outbound bank { child with entry := none, balance := 300, dailySpent := 600 } (goodClock 31000) = .insufficient 900 := by
  decide +kernel
/-- Case 4: an entry over an unclosed trip, and the same with a balance of 550. -/
theorem test_fare_case_4 :
    taken (reckon .inbound bank { child with cls := 0, balance := 900, entry := some ⟨1004, 4, 9497, 0, 1⟩ } (goodClock 30200))
      = some (400, 500, 520, 2)
    ∧ reckon .inbound bank { child with cls := 0, balance := 550, entry := some ⟨1004, 4, 9497, 0, 1⟩ } (goodClock 30200)
      = .insufficient 400 := by decide +kernel

/-- R90: the table of tracked references, from Ref 3,000 at the cold values; a level of 2,300 counts and moves none. -/
theorem test_tracking_table :
    [2990, 2500, 3150, 3300, 2300].map (fun l => (sampleBeam {} {} l).ref) = [2999, 2993, 3002, 3037, 3000] := by decide

/-- A view from the blocked beams. -/
def viewOf (blocked : List Nat) : List Run := runsOf ([1, 2, 3, 4, 5, 6].map fun i => blocked.contains i)

/-- The body list after views, and the crossings each view found. -/
def views : List (List Nat) → List Body → List Body × List (List (Direction × Option Nat))
  | [], l => (l, [])
  | v :: vs, l =>
    let m := matchView 0 l (viewOf v)
    let r := views vs (m.bodies.map Prod.snd)
    (r.1, m.crossings :: r.2)

/-- Chapter 5, two passengers as one body: the views cross once, at B4 of the third; the two bodies at the fifth view. -/
theorem test_two_passengers_cross_once :
    (views [[1], [1, 2, 3], [1, 2, 3, 4], [2, 4, 5], [2, 3, 5, 6], [3, 4], [4, 5], [5, 6], []] []) =
      ([], [[], [], [(.inbound, some 0)], [], [], [], [], [], []]) := by decide +kernel
theorem test_two_passengers_spans :
    (views [[1], [1, 2, 3], [1, 2, 3, 4], [2, 4, 5], [2, 3, 5, 6]] []).1.map
        (fun b => (b.first, b.last, b.reach, b.long, b.crossed)) =
      [(5, 6, some 6, true, true), (2, 3, some 3, false, true)] := by decide +kernel

/-- The state a command leads to. -/
def after (c : Instr) (s : State) : State :=
  match exec c s with
  | .next t => t
  | .fault _ => s
  | .refused _ => s

/-- A working part: address 5, a GOOD clock, the bank above, the lane NORMAL. -/
def lively : State :=
  { State.reset with
    mgmt := { clock := goodClock 31000, freshStart := false, timeAge := some 600000 }
    tariff := { active := some bank }
    lane := { cmd := .normal, eff := .normal }
    line := { address := 5, connected := true, silenceTimer := some 5000 } }

/-- `lively` with port A's context. -/
def withContext (c : Context) : State := { lively with dialog := { lively.dialog with ctx := ⟨c, .started 150⟩ } }

/-- `lively` with port A's context and a verb outstanding on the port with Tag 2. -/
def waiting (u : Purpose) (deadline : Nat) (c : Context) : State :=
  { withContext c with
    dialog := { (withContext c).dialog with port := ⟨{ tag := 2, outstanding := some ⟨u, 2, deadline, none, false⟩ }, {}⟩ } }

/-- The message of an answer with Tag 2. -/
def answer (code : Byte) (ending : Byte) (contents : List Byte) : List Byte := withCheck ([code, 2, ending] ++ contents)

/-! ### The machine and the resets: states that meet the statements' hypotheses -/

theorem wit_StepTakesTheFrontCommand :
    ({ lively with pending := [.heldConversion, .clockAdvance] } : State).pending = .heldConversion :: [.clockAdvance] := rfl
theorem wit_ResetPinHoldsThePart_release : ({ lively with pins := { reset := true } } : State).pins.reset = true := rfl
theorem wit_ResetPinHoldsThePart_released : lively.pins.reset = false := rfl
theorem wit_ResetPinHoldsThePart_holds :
    (Instr.ackStart plain 0).wf = true ∧ (∀ cause, Instr.ackStart plain 0 ≠ .coldReset cause)
      ∧ ({ lively with pins := { reset := true } } : State).pins.reset = true := ⟨rfl, fun _ h => Instr.noConfusion h, rfl⟩
theorem wit_Idle_ownStep : ({ lively with second := 0 } : State).pending = [] ∧ lively.pins.reset = false
    ∧ ({ lively with second := 0 } : State).ownStep = some .clockAdvance := by decide +kernel
theorem wit_Idle_tick : lively.pending = [] ∧ lively.pins.reset = false ∧ lively.ownStep = none := by decide +kernel
theorem wit_ColdResetLeavesTheColdValues : lively.pins.reset = false := rfl
theorem wit_ColdResetEmptiesTheLine : lively.pins.reset = false ∧ ResetCause.powerOn ≠ .pinReleased
    ∧ ({ lively with line := { tx := ⟨some ⟨⟨16, 0, 5, 0, []⟩, .own, false⟩, none⟩ } } : State).line.tx.get .up
      = some ⟨⟨16, 0, 5, 0, []⟩, .own, false⟩ := by decide
theorem wit_ResetStateIsCold : State.reset.pins = {} ∧ State.reset.line.tx = ⟨none, none⟩ := ⟨rfl, rfl⟩

/-- A warm reset is due. -/
def restarting : State := { lively with mgmt := { lively.mgmt with restartPending := true, restartReplyGone := true } }

theorem wit_WarmResetKeepsWhatTheRulesName :
    restarting.pins.reset = false ∧ restarting.mgmt.restartPending = true ∧ restarting.mgmt.restartReplyGone = true
      ∧ ∀ p, (restarting.ctx p).state ≠ .committing ∧ (restarting.ctx p).state ≠ .confirming :=
  ⟨rfl, rfl, rfl, fun p => by cases p <;> decide⟩

/-- R87, R85, R131: with AT_CLOSED asserted the lane comes up CLOSED, the DRIVEs go out (B6's last: log 55) and SAMPLE with the next
tag. -/
theorem test_warm_reset_starts_work :
    let t := after .warmReset restarting
    t.lane.flap = .closed ∧ t.beam.senseTag = 3 ∧ t.sent.take 2 = [.sample 3, .drive 6 32] ∧ t.lane.dormantTimer = some 60000 := by
  decide +kernel
/-- The Intended records of the exit of the manual's torn write. -/
def intended : Intended :=
  ⟨2140, none, some ⟨9500, 29645⟩, 9500, 320, 320, .regular, 0,
    [{ kind := .exit, direction := some .inbound, cardId := some 40112, fare := some 320 }], 7041⟩

/-- A context whose write is outstanding: the torn write of chapter 1. -/
def writing : Context :=
  { state := .committing, cardId := some 40112, image := some child, preCounter := some 311, preBalance := some 2460
    proof := some .pass, inFlight := true, creditRes := true, journalRes := 1, intended := some intended }

/-- `restarting` with a write outstanding at port A. -/
def restartingInWrite : State := { restarting with dialog := { restarting.dialog with ctx := ⟨writing, .started 150⟩ } }

theorem wit_WarmResetRecordsAWriteAsTorn :
    restartingInWrite.pins.reset = false ∧ restartingInWrite.mgmt.restartPending = true
      ∧ restartingInWrite.mgmt.restartReplyGone = true ∧ (restartingInWrite.ctx .a).state = .committing
      ∧ (restartingInWrite.ctx .b).state = .idle ∧ (restartingInWrite.ctx .a).intended = some intended
      ∧ (restartingInWrite.ctx .a).cardId = some 40112 ∧ (restartingInWrite.ctx .a).preCounter = some 311
      ∧ (restartingInWrite.ctx .a).preBalance = some 2460 ∧ restartingInWrite.standing.recovery.length < 16
      ∧ (after .warmReset restartingInWrite).standing.recovery.length = 1
      ∧ (after .warmReset restartingInWrite).journal.held = 1 := by decide +kernel

/-! ### Pins and links -/

theorem wit_PinAndLinkLevels_emergency : lively.pins.reset = false ∧ lively.pins.emergency ≠ true := by decide
theorem wit_PinAndLinkLevels_link : lively.pins.reset = false ∧ lively.pins.link.get .down ≠ false := by decide

/-- EMERGENCY asserted for 50 ms, with a credit queued and granted. -/
def evacuating : State :=
  { lively with
    pins := { lively.pins with emergency := true }
    lane := { lively.lane with
      emergencyFilter := some 0, grant := some .inbound, counts := ⟨{ granted := 1 }, {}⟩
      credits := ⟨[⟨311, .inbound, .fare, 501, ⟨9500, 0⟩, 8000, 0⟩], []⟩ } }

theorem wit_EmergencyTaken_asserted : evacuating.pins.reset = false ∧ evacuating.lane.emergencyFilter = some 0
    ∧ evacuating.lane.queuesServed ∧ evacuating.pins.emergency = true
    ∧ (after .emergencyTaken evacuating).lane.eff = .freeExit ∧ (after .emergencyTaken evacuating).lane.credits = ⟨[], []⟩ := by
  refine ⟨rfl, rfl, ?_, rfl, ?_, ?_⟩
  · intro h
    rcases h with h | h <;> exact absurd h (by decide)
  · decide +kernel
  · decide +kernel
theorem wit_EmergencyTaken_released :
    let s := { lively with lane := { lively.lane with emergency := true, eff := .freeExit, emergencyFilter := some 0 } }
    s.lane.queuesServed ∧ s.pins.emergency = false ∧ s.lane.jam = none ∧ s.lane.faultBeams < 2
      ∧ (after .emergencyTaken s).lane.eff = .normal := by
  refine ⟨fun _ => ⟨rfl, rfl⟩, rfl, rfl, by decide, by decide +kernel⟩
theorem wit_EmergencyTaken_fault :
    let s := { lively with
      lane := { lively.lane with emergency := true, eff := .freeExit, emergencyFilter := some 0, faultBeams := 2 } }
    s.lane.queuesServed ∧ s.pins.emergency = false ∧ 2 ≤ s.lane.faultBeams ∧ (after .emergencyTaken s).lane.eff = .fault := by
  refine ⟨fun _ => ⟨rfl, rfl⟩, rfl, by decide, by decide +kernel⟩
/-- R133, R136: FREE_EXIT left after three free crossings: the EMERGENCY_OFF event, and the MODE record with Count 3. -/
theorem wit_EmergencyTaken_record :
    let s := { lively with
      lane := { lively.lane with emergency := true, eff := .freeExit, emergencyFilter := some 0, freeCount := 3 } }
    let t := after .emergencyTaken s
    t.journal.records.map Record.content = [modeContent .normal 3]
      ∧ t.line.localQ.up.head?.map Buffered.frame = some (s.eventFrame .emergencyOff)
      ∧ 1 ≤ s.journal.free ∧ s.params.eventMask.getLsbD 11 = true ∧ s.line.held = [] ∧ s.line.count .own = 0 := by decide +kernel
theorem wit_PinAndLinkLevels_takenUp :
    ({ lively with line := { lively.line with linkFilter := ⟨some 0, none⟩ } } : State).line.linkFilter.get .up = some 0
      ∧ lively.pins.link.get .up = true := by decide
theorem wit_PinAndLinkLevels_takenDown :
    let s := { lively with
      pins := { lively.pins with link := ⟨true, false⟩ }, line := { lively.line with linkFilter := ⟨none, some 0⟩ } }
    s.line.linkFilter.get .down = some 0 ∧ s.pins.link.get .down = false := by decide

/-! ### Frames -/

theorem wit_canReceive : lively.canReceive .up ∧ lively.canReceive .down :=
  ⟨⟨rfl, rfl, rfl, by decide +kernel⟩, ⟨rfl, rfl, rfl, by decide +kernel⟩⟩
theorem wit_canAnswer : lively.canAnswer plain := ⟨wit_canReceive.1, rfl, by decide, by decide, rfl⟩
theorem wit_canTake : lively.canTake wide ∧ lively.canTake plain := 
  ⟨⟨wit_canReceive.1, fun h => by cases h⟩, ⟨wit_canReceive.1, fun _ => by decide⟩⟩
/-- Nine frames held from the up port: one more is received, and then none. -/
def crowded (n : Nat) : State :=
  { lively with
    line := { lively.line with held := List.replicate n ⟨.up, .up, .reply ⟨2, 0, .done, .nothing⟩, false⟩, holdOut := ⟨true, false⟩ } }
/-- `lively` with `n` frames of its own in the up port's local queue. -/
def speaking (n : Nat) : State :=
  { lively with line := { lively.line with localQ := ⟨List.replicate n ⟨⟨17, 0, 5, 0, []⟩, .own, false⟩, []⟩ } }
/-- R177: of one free place the up copy of a broadcast takes it; with none every copy is dropped, and an event takes its number alone. -/
theorem wit_Copies :
    (speaking 3).line.link = ⟨true, true⟩ ∧ (speaking 3).line.held = [] ∧ (speaking 3).line.count .own = 3
      ∧ (broadcast 18 [] (speaking 3)).line.localQ.up.length = 4 ∧ (broadcast 18 [] (speaking 3)).line.localQ.down = []
      ∧ (broadcast 18 [] (speaking 3)).mgmt.flags.sendDrop = true
      ∧ (broadcast 18 [] (speaking 2)).line.localQ.down.length = 1 ∧ (broadcast 18 [] (speaking 2)).mgmt.flags.sendDrop = false
      ∧ (speaking 4).line.count .own = 4 ∧ (event (.bankActive 1) (speaking 4)).line = (speaking 4).line
      ∧ (event (.bankActive 1) (speaking 4)).mgmt.flags.sendDrop = true
      ∧ (event (.bankActive 1) (speaking 4)).mgmt.eventNo = (speaking 4).mgmt.eventNo + 1 := by decide +kernel
theorem wit_Copies_none : ({ lively with line := { lively.line with link := ⟨false, true⟩ } } : State).line.link.get .up = false
    ∧ ({ lively with params := { eventMask := 0 } } : State).params.eventMask.getLsbD 9 = false
    ∧ (crowded 1).line.held ≠ [] ∧ (crowded 1).line.count .own < 4 := by decide +kernel
theorem wit_FrameIsReceived_taken : (crowded 9).line.link.get .up = true ∧ (crowded 9).line.receiving.get .up = false
    ∧ 1 ≤ (crowded 9).line.free ∧ (crowded 9).line.count (.port .up) < 10 := by decide +kernel
theorem wit_FrameIsReceived_overrun : (crowded 10).line.receiving.get .up = false
    ∧ ¬(1 ≤ (crowded 10).line.free ∧ (crowded 10).line.count (.port .up) < 10) := by decide +kernel
/-- A frame in reception on the up port. -/
def receiving : State := { lively with line := { lively.line with receiving := ⟨true, false⟩ } }
theorem wit_FrameIsReceived_noMark : (Instr.frameEnd .up (List.replicate 256 0) false).wf = true ∧ receiving.line.receiving.get .up = true := by
  decide
theorem wit_FrameIsReceived_check : (Instr.frameEnd .up [1, 2, 3] true).wf = true ∧ checked [1, 2, 3] = none := by decide +kernel
theorem wit_FrameIsReceived_short : checked (withCheck [4, 5, 0, 0]) = some [4, 5, 0, 0]
    ∧ (after (.frameEnd .up (withCheck [4, 5, 0, 0]) true) receiving).line.silenceTimer = receiving.line.silenceTimer := by
  decide +kernel
theorem wit_FrameIsReceived_hops : checked (withCheck [4, 5, 0, 63, 0]) = some [4, 5, 0, 63, 0] := by decide +kernel
theorem wit_GoodFrame_relayed :
    receiving.line.receiving.get .up = true ∧ (⟨2, 6, 0, 0, [0, 1, 2, 3, 4, 5]⟩ : Frame).dest.toNat ≤ 62
      ∧ ((⟨2, 6, 0, 0, [0, 1, 2, 3, 4, 5]⟩ : Frame).dest.toNat = receiving.line.address → receiving.line.address = 0) := by decide
theorem wit_GoodFrame_forTheHead : ({ lively with line := { lively.line with receiving := ⟨false, true⟩ } } : State).line.receiving.get .down
    = true ∧ (⟨16, 0, 9, 0, [2, 0, 0]⟩ : Frame).dest.toNat = 0 := by decide

theorem wit_GoodFrame_taken : (Instr.query plain 3).wf = true ∧ asFrame (.query plain 3) = some (plain, 4, [3])
    ∧ receiving.line.receiving.get plain.port = true ∧ 1 ≤ receiving.line.address ∧ receiving.line.address ≤ 62
    ∧ (after (.frameEnd .up (⟨4, 5, 0, 0, [3]⟩ : Frame).bytes true) receiving).line.held.length = 1 := by decide +kernel
theorem wit_GoodFrame_inert : receiving.line.address = (⟨16, 5, 9, 0, [2, 0, 0]⟩ : Frame).dest.toNat
    ∧ (⟨0, 63, 0, 0, [4]⟩ : Frame).kind = 0 ∧ (⟨4, 0, 0, 0, [3]⟩ : Frame).dest = 0 ∧ 63 < (⟨4, 64, 0, 0, [3]⟩ : Frame).dest.toNat
    ∧ (after (.frameEnd .up (⟨4, 64, 0, 0, [3]⟩ : Frame).bytes true) receiving).line.receiving = ⟨false, false⟩ := by decide +kernel

/-- A REPLY in a buffer of the part's own. -/
def buffered : Buffered := ⟨⟨16, 0, 5, 0, [2, 0, 0]⟩, .own, false⟩

theorem wit_Arbiter_relay :
    let s := { lively with line := { lively.line with relayQ := ⟨[buffered], []⟩, localQ := ⟨[buffered], []⟩ } }
    s.line.tx.get .up = none ∧ s.pins.hold.get .up = false ∧ s.line.relayQ.get .up = [buffered] ∧ s.line.turn.get .up = .own := by
  decide
theorem wit_Arbiter_local :
    let s := { lively with
      line := { lively.line with relayQ := ⟨[buffered], []⟩, localQ := ⟨[buffered], []⟩, turn := ⟨.relay, .own⟩ } }
    s.line.localQ.get .up = [buffered] ∧ s.line.turn.get .up = .relay := by decide
theorem wit_SentAndHeld_sent : ({ lively with line := { lively.line with tx := ⟨some buffered, none⟩ } } : State).line.tx.get .up
    = some buffered := rfl
theorem wit_SentAndHeld_converted : (crowded 1).line.held = ⟨.up, .up, .reply ⟨2, 0, .done, .nothing⟩, false⟩ :: []
    ∧ (crowded 1).line.count .own < 4 := by decide +kernel
theorem test_enumerate_62_and_63 :
    (after (.enumerate 62) lively).line.address = 62 ∧ (after (.enumerate 63) lively).line.address = 0
      ∧ (after (.enumerate 0) lively).line.address = 5 := by decide +kernel

/-! ### Line commands -/

theorem wit_LineCommandPayloadsReadBack : (Instr.denyAdd plain 9 501 2 1).wf = true
    ∧ asLineCommand (.denyAdd plain 9 501 2 1) = some (plain, 9, .denyAdd 501 2 1) := by decide
theorem wit_FramesAndCardImagesReadBack : (⟨18, 63, 5, 62, List.replicate 240 0⟩ : Frame).payload.length ≤ 240
    ∧ child.inRange = true := by decide
theorem wit_Broadcast : (Instr.time wide 0 9500 31000).wf = true ∧ lively.canReceive wide.port ∧ wide.broadcast = true :=
  ⟨by decide, wit_canReceive.1, rfl⟩
theorem wit_Time : (Instr.time plain 0 9500 86399).wf = true ∧ (Instr.time plain 0 9500 86400).wf = true := by decide
theorem wit_ClockAdvance : ({ lively with second := 0 } : State).second = 0 ∧ lively.clock.state ≠ .unset := by decide
theorem wit_Set_refused : (Instr.set plain 0 [(41, 1)]).wf = true ∧ (∃ e ∈ [((41 : Byte), (1 : Int))], e.1.toNat = 0 ∨ 40 < e.1.toNat) :=
  ⟨by decide, (41, 1), by decide, by decide⟩
theorem wit_Set_taken : (Instr.set plain 0 [(1, 9), (40, 0)]).wf = true
    ∧ (∀ e ∈ [((1 : Byte), (9 : Int)), (40, 0)], 1 ≤ e.1.toNat ∧ e.1.toNat ≤ 40) ∧ lively.lane.credits = ⟨[], []⟩ := by decide
theorem test_set_clamps : (({} : Params).set [(1, 9)]).2 = true ∧ (({} : Params).set [(1, 9)]).1.verbSense = 10
    ∧ (({} : Params).set [(19, 300)]).1.releaseLevel = 250 := by decide
theorem wit_paramsInRange : ({} : Params).inRange := by
  refine ⟨?_, by decide, by decide⟩
  intro n lo hi h
  unfold paramRange at h
  split at h <;> cases h <;> decide
theorem wit_Query : (Instr.query plain 0).wf = true := by decide
theorem wit_StageOpen : (Instr.stageOpen plain 0 7041).wf = true ∧ (Instr.stageDiscard plain 0).wf = true
    ∧ ∀ p, (lively.ctx p).switchHeld = false := ⟨by decide, by decide, fun p => by cases p <;> rfl⟩

/-- `lively` with a stage opened for BankTag 7,042. -/
def staging : State := { lively with tariff := { lively.tariff with stage := { state := .opened, tag := 7042 } } }

theorem wit_StageLoad_stored : (Instr.stageLoad plain 0 7042 0 0 [4, 96, 9]).wf = true ∧ staging.tariff.stage.state = .opened
    ∧ staging.tariff.stage.tag = 7042 ∧ (staging.tariff.stage.store 0 0 [4, 96, 9]).isSome = true := by decide
theorem wit_StageLoad_refused : staging.tariff.stage.tag ≠ 7041 ∧ lively.tariff.stage.state ≠ .opened
    ∧ staging.tariff.stage.store 13 0 [] = none ∧ staging.tariff.stage.store 0 1 [4, 96, 9] = none := by decide
theorem wit_StageLoad_matrix : (staging.tariff.stage.store 8 1 (List.replicate 128 0)).isSome = true := by decide +kernel

/-- A stage whose every segment is there, of a bank with the given check. -/
def fullStage (check : Nat) : Stage where
  state := .opened
  tag := 7042
  station := some bank.station
  parts := List.replicate 16 (some (List.replicate 64 200))
  bands := some bank.bands
  classes := some bank.classes
  rules := some bank.rules
  check := some check

/-- The check of that bank. -/
def goodCheck : Nat := (((fullStage 0).bank.map Bank.checkSum).getD 0)

/-- `lively` with that stage. -/
def staged (check : Nat) : State := { lively with tariff := { lively.tariff with stage := fullStage check } }

theorem wit_StageSwitch_states : (Instr.stageSwitch plain 0 (some (9500, 86400))).wf = true ∧ lively.tariff.stage.state = .closed
    ∧ staging.tariff.stage.state ≠ .closed ∧ staging.tariff.stage.bank = none := by decide
theorem wit_StageSwitch_accepted : (staged goodCheck).tariff.stage.state = .opened
    ∧ ((staged goodCheck).tariff.stage.bank.any fun b => b.checkSum == b.check) = true
    ∧ ((staged (goodCheck + 1)).tariff.stage.bank.any fun b => b.checkSum != b.check) = true := by decide +kernel
theorem wit_StageSwitch_retimed :
    ({ lively with tariff := { lively.tariff with stage := { fullStage 0 with state := .complete }, switch := .waiting } } : State).tariff.stage.state
      = .complete := rfl

/-- `lively` with one card denied. -/
def denying : State := { lively with standing := { deny := [⟨501, .lost, .head, .refuse⟩] } }

theorem wit_DenyAdd : (Instr.denyAdd plain 0 (2 ^ 40 - 2) 4 1).wf = true ∧ denyReasonOf 4 = some .other
    ∧ denyActionOf 1 = some .refuseAndMark ∧ lively.standing.deny.length < 4096 ∧ 4 < (5 : Byte).toNat := by decide
/-- `lively` with a full deny list. -/
def fullDeny (n : Nat) : State := { lively with standing := { deny := List.replicate n ⟨1, .lost, .head, .refuse⟩ } }
theorem fullDeny_absent (n : Nat) : (fullDeny n).denied 501 = none := by
  simp [fullDeny, State.denied, findBy]
theorem wit_DenyAdd_full : (fullDeny 4096).denied 501 = none ∧ 4096 ≤ (fullDeny 4096).standing.deny.length :=
  ⟨fullDeny_absent 4096, (List.length_replicate ..).ge⟩
theorem wit_DenyDrop : (Instr.denyDrop plain 0 501).wf = true ∧ (denying.denied 501).isSome = true ∧ denying.denied 502 = none := by
  decide

/-- `lively` with one record in the journal. -/
def recorded : State :=
  { lively with
    journal := { records := [⟨1, ⟨9500, 1⟩, false, false, { kind := .entry, direction := some .inbound }⟩], nextSeq := 2 } }

theorem wit_Collect : (Instr.collect plain 0 1).wf = true := by decide
theorem wit_Trim : (Instr.trim plain 0 1 512).wf = true ∧ recorded.journal.records.length = 1 ∧ recorded.journal.oldestSeq = 1
    ∧ lively.journal.records = [] ∧ (after (.trim plain 0 1 512) recorded).journal.records = [] := by decide +kernel
theorem wit_LaneMode : (Instr.laneMode plain 0 4).wf = true ∧ laneModeOf 2 = some .exitOnly ∧ lively.lane.modeDerived
    ∧ (lively.clock.state ≠ .unset ∧ lively.tariff.active.isSome = true ∧ lively.mgmt.freshStart = false) :=
  ⟨by decide, rfl, ⟨rfl, by decide⟩, by decide⟩
theorem wit_LaneMode_refused :
    let s := { lively with mgmt := { lively.mgmt with freshStart := true } }
    (1 : Byte).toNat < 3 ∧ ¬(s.clock.state ≠ .unset ∧ s.tariff.active.isSome = true ∧ s.mgmt.freshStart = false) := by decide
/-- The flaps JAMMED toward closed. -/
def jammed : State :=
  { lively with lane := { lively.lane with cmd := .closed, eff := .fault, flap := .jammed, jam := some .towardClosed } }
theorem wit_LaneModeRetries : jammed.canAnswer plain ∧ jammed.lane.flap = .jammed ∧ jammed.lane.jam = some .towardClosed
    ∧ jammed.lane.modeDerived ∧ jammed.lane.queuesServed ∧ (after (.laneMode plain 0 3) jammed).lane.flap = .closing :=
  ⟨⟨⟨rfl, rfl, rfl, by decide +kernel⟩, rfl, by decide, by decide, rfl⟩, rfl, rfl, ⟨rfl, by decide⟩, fun _ => ⟨rfl, rfl⟩,
    by decide +kernel⟩
theorem wit_AckStart : (Instr.ackStart plain 0).wf = true ∧ restarting.restartDue = true ∧ restarting.pins.reset = false
    ∧ ({ lively with pins := { lively.pins with reset := true } } : State).pins.reset = true := by decide
theorem wit_Restart : (Instr.restart plain 0).wf = true := by decide
/-- `lively` with the up link taken as DOWN. -/
def cutOffAbove : State := { lively with line := { lively.line with link := ⟨false, true⟩ } }
theorem wit_Restart_linkDown : cutOffAbove.canReceive .down ∧ cutOffAbove.line.link.up = false
    ∧ (after (.restart ⟨.down, false, 0, 0⟩ 0) cutOffAbove).mgmt.restartReplyGone = true :=
  ⟨⟨rfl, rfl, rfl, by decide +kernel⟩, rfl, by decide +kernel⟩
/-- The up port about to be torn down, with the REPLY of a RESTART held for it. -/
def losing : State :=
  { restarting with
    mgmt := { restarting.mgmt with restartReplyGone := false }
    pins := { restarting.pins with link := ⟨false, true⟩ }
    line := { restarting.line with
      linkFilter := ⟨some 0, none⟩, held := [⟨.up, .up, .reply ⟨15, 0, .done, .nothing⟩, true⟩] } }
theorem wit_Restart_tornDown : losing.pins.reset = false ∧ losing.line.linkFilter.get .up = some 0 ∧ losing.pins.link.get .up = false
    ∧ (∃ h ∈ losing.line.held, h.bound = .up ∧ h.restart = true)
    ∧ (after (.linkTaken .up) losing).mgmt.restartReplyGone = true
    ∧ (after (.linkTaken .up) { losing with line := { losing.line with held := [] } }).mgmt.restartReplyGone = false := by
  decide +kernel
theorem wit_Restart_due : restarting.pending = [] ∧ restarting.pins.reset = false ∧ restarting.mgmt.restartPending = true
    ∧ restarting.mgmt.restartReplyGone = true := by decide
theorem wit_UnknownKind : (Instr.unknownKind plain 255 []).wf = true ∧ (Instr.unknownKind ⟨.down, true, 0, 0⟩ 20 []).wf = true := by decide

/-! ### Peers, the switch, the recovery list -/

/-- A SIGHT of card 501. -/
def sighted (counter : Nat) (balance : Int) (secs : Nat) : SightPayload := ⟨501, counter, balance, 1, 7, 9500, secs⟩
/-- `lively` with a sighting of card 501 at counter 100 and balance 900. -/
def seen (secs : Nat) : State := { lively with standing := { sightings := [⟨501, 100, 900, .entered, 7, ⟨9500, secs⟩⟩] } }

theorem wit_Sight_tooOld : lively.tooOld ⟨9500, 29199⟩ ∧ ¬lively.tooOld ⟨9500, 29200⟩ := ⟨⟨by decide, by decide⟩, fun h => absurd h.2 (by decide)⟩
theorem wit_Sight_enters : (Instr.sight wide (sighted 0 (-50000) 30000)).wf = true ∧ lively.sighting 501 = none
    ∧ (after (.sight wide (sighted 0 (-50000) 30000)) lively).sighting 501 = some ⟨501, 0, -50000, .exited, 7, ⟨9500, 30000⟩⟩
    ∧ (after (.sight wide (sighted 0 (-50000) 30000)) lively).line.relayQ.down.length = 1 := by decide +kernel
theorem wit_Sight_replacesAgedOut : ∃ y, (seen 29000).sighting 501 = some y ∧ (seen 29000).tooOld y.time
    ∧ (seen 29000).standing.sightings.length ≤ 1024 := ⟨_, rfl, ⟨by decide, by decide⟩, by decide⟩
theorem wit_Sight_stands : (seen 30000).stands 501 ⟨501, 100, 900, .entered, 7, ⟨9500, 30000⟩⟩ := ⟨rfl, fun h => absurd h.2 (by decide)⟩
theorem wit_Sight_counters :
    ((after (.sight plain (sighted 101 5 30000)) (seen 30000)).sighting 501).map Sighting.counter = some 101
    ∧ ((after (.sight plain (sighted 99 5 30000)) (seen 30000)).sighting 501).map Sighting.counter = some 100
    ∧ ((after (.sight plain (sighted 100 900 30500)) (seen 30000)).sighting 501).map Sighting.kind = some .exited
    ∧ ((after (.sight plain (sighted 100 901 30500)) (seen 30000)).denied 501).isSome = true
    ∧ (after (.sight plain (sighted 100 901 30500)) (seen 30000)).journal.records.length = 1 := by decide +kernel
/-- A full sighting table, of cards 1,000 to 2,023, every record seen at the given second. -/
def fullSightings (secs : Nat) : State :=
  { lively with
    standing := { sightings := (List.range 1024).map fun i => ⟨1000 + i, 1, 0, .entered, 7, ⟨9500, secs⟩⟩ } }
theorem wit_Sight_fullTable (secs : Nat) : (fullSightings secs).sighting 501 = none ∧ 1024 ≤ (fullSightings secs).standing.sightings.length
    ∧ ∃ y ∈ (fullSightings secs).standing.sightings, y.time.absolute ≤ 9500 * 86400 + secs := by
  refine ⟨?_, ?_, ⟨1000, 1, 0, .entered, 7, ⟨9500, secs⟩⟩, ?_, Nat.le_refl _⟩
  · simp only [fullSightings, State.sighting, findBy, List.find?_map, Option.map_eq_none_iff, List.find?_eq_none]
    intro i _ h
    simp only [Function.comp, beq_iff_eq] at h
    omega
  · simp only [fullSightings, List.length_map, List.length_range, Nat.le_refl]
  · exact List.mem_map.2 ⟨0, List.mem_range.2 (by omega), rfl⟩
theorem wit_Suspect : (Instr.suspect wide ⟨501, 2, 7, 9500, 31000⟩).wf = true ∧ lively.denied 501 = none
    ∧ (denying.denied 501).isSome = true ∧ (after (.suspect wide ⟨501, 2, 7, 9500, 31000⟩) lively).denied 501
      = some ⟨501, .clone, .peer, .refuse⟩ := by decide +kernel

/-- A DUE switch, with port A's context held for it. -/
def switching (c : Context) : State :=
  { withContext c with tariff := { active := some { bank with tag := 7040 }, stage := fullStage goodCheck, switch := .due } }
/-- A context held for a switch. -/
def heldContext : Context :=
  { state := .judging, cardId := some 40112, image := some { child with entry := none }, creditRes := true, journalRes := 1
    switchHeld := true }

theorem wit_Switch_plain : ((switching {}).tariff.switch = .due ∧ (switching {}).tariff.stage.bank.isSome = true)
    ∧ (∀ p, ((switching {}).ctx p).state ≠ .reckoning ∧ ((switching {}).ctx p).state ≠ .committing
      ∧ ((switching {}).ctx p).state ≠ .confirming)
    ∧ (after .switchApplication (switching {})).tariff.active.map Bank.tag = some 7042
    ∧ (after .switchApplication (switching {})).line.localQ.up.length = 1 := by
  refine ⟨by decide +kernel, fun p => by cases p <;> decide, by decide +kernel, by decide +kernel⟩
/-- R177: the BANK_ACTIVE event finds no local place. -/
theorem wit_Switch_noPlace :
    let s := { switching {} with line := (speaking 4).line }
    s.params.eventMask.getLsbD 9 = true ∧ 4 ≤ s.line.count .own
      ∧ (after .switchApplication s).line.localQ = s.line.localQ
      ∧ (after .switchApplication s).mgmt.flags.sendDrop = true := by decide +kernel
theorem wit_Switch_held : ((switching heldContext).ctx .a).switchHeld = true
    ∧ ((after .switchApplication (switching heldContext)).ctx .a).state = .reckoning
    ∧ ((after .switchApplication (switching heldContext)).ctx .a).intended.map Intended.bankTag = some 7042 := by decide +kernel

theorem wit_Stage_held : (Instr.stageDiscard plain 0).wf = true ∧ (Instr.stageOpen plain 0 7043).wf = true
    ∧ ((switching heldContext).ctx .a).switchHeld = true ∧ ((switching heldContext).ctx .b).switchHeld = false
    ∧ (switching heldContext).tariff.active.map Bank.tag ≠ some 7043 ∧ (switching heldContext).tariff.stage.state ≠ .closed
    ∧ ((after (.stageDiscard plain 0) (switching heldContext)).ctx .a).state = .reckoning
    ∧ ((after (.stageOpen plain 0 7043) (switching heldContext)).ctx .a).intended.map Intended.bankTag = some 7040 := by
  decide +kernel
theorem wit_Stage_heldRefused :
    let s := switching { heldContext with image := some { child with entry := none, balance := -100 } }
    reckon .inbound { bank with tag := 7040 } { child with entry := none, balance := -100 } s.clock = .insufficient 0
    ∧ ((after (.stageDiscard plain 0) s).ctx .a).state = .holding := by decide +kernel
/-- A recovery entry of the torn write of chapter 1, the other way round. -/
def entry (remaining : Nat) : RecoveryEntry :=
  ⟨40112, 310, 1370, 1050, false, 320, .regular, .inbound, ⟨9500, 29645⟩, 7041, remaining⟩
/-- `lively` with that entry, and its held slot. -/
def recovering (remaining : Nat) : State :=
  { lively with standing := { recovery := [entry remaining] }, journal := { held := 1 } }

theorem wit_ExpiredRecovery : (recovering 0).recoveryOf 40112 = some (entry 0) ∧ (entry 0).remaining = 0 ∧ 40112 < 256 ^ 5
    ∧ (after (.recoveryExpiry 40112) (recovering 0)).journal.records.length = 1
    ∧ (after (.recoveryExpiry 40112) (recovering 0)).standing.recovery = [] := by decide +kernel

/-! ### Dialogs -/

theorem wit_Poll : ((withContext { pollTimer := some 0 }).ctx .a).pollTimer = some 0
    ∧ ((withContext { pollTimer := some 0 }).port .a).outstanding = none := by decide

/-- An answer with the Tag of the verb outstanding is taken. -/
theorem answered_of (u : Purpose) (c : Context) (m : List Byte) (e : Ending) (h : parseAnswer m = some (u.code, 2, e)) :
    (waiting u 10 c).answeredBy .a u m e := ⟨⟨u, 2, 10, none, false⟩, rfl, rfl, rfl, h⟩

theorem wit_Sense_fieldLost : (waiting .sense 10 { state := .sensing }).endsFieldLost .a .sense (.senseAnswer .a (answer 0 1 [])) :=
  ⟨_, rfl, answered_of .sense _ _ _ (by decide +kernel)⟩
theorem wit_Sense_noCard :
    (waiting .sense 10 { state := .sensing }).endsAnswered .a .sense (.senseAnswer .a (answer 0 0 [1])) [1] ∧ parseSense [1] = some .noCard :=
  ⟨⟨_, rfl, answered_of .sense _ _ _ (by decide +kernel)⟩, rfl⟩
theorem wit_Sense_card :
    (waiting .sense 10 { state := .holding, cardId := some 501 }).endsAnswered .a .sense
      (.senseAnswer .a (answer 0 0 [0, 0, 0, 0, 1, 245])) [0, 0, 0, 0, 1, 245]
    ∧ parseSense [0, 0, 0, 0, 1, 245] = some (.card 501) := ⟨⟨_, rfl, answered_of .sense _ _ _ (by decide +kernel)⟩, by decide⟩
theorem wit_Sense_clash :
    (waiting .sense 10 { state := .holding }).endsAnswered .a .sense (.senseAnswer .a (answer 0 0 [2])) [2] ∧ parseSense [2] = some .clash :=
  ⟨⟨_, rfl, answered_of .sense _ _ _ (by decide +kernel)⟩, rfl⟩

/-- A context that waits for its image. -/
def reading : Context := { state := .reading, cardId := some 40112, attempts := 1 }

theorem wit_Read : (waiting .read 10 reading).endsAnswered .a .read (.readAnswer .a (answer 1 0 child.bytes)) child.bytes
    ∧ imageCardId child.bytes = some 40112 ∧ parseImage child.bytes = some child ∧ child.counter ≠ 65535 :=
  ⟨⟨_, rfl, answered_of .read _ _ _ (by decide +kernel)⟩, by decide +kernel, by decide +kernel, by decide⟩
theorem wit_Read_malformed :
    imageCardId [0, 0, 0, 156, 176] = some 40112 ∧ parseImage [0, 0, 0, 156, 176] = none
    ∧ ((after (.readAnswer .a (answer 1 0 [0, 0, 0, 156, 176])) (waiting .read 10 reading)).ctx .a).state = .holding := by decide +kernel
theorem wit_Read_exhausted : parseImage { child with counter := 65535 }.bytes = some { child with counter := 65535 } := by decide +kernel
/-- A PROVE outstanding with a challenge. -/
def proving : State :=
  let s := waiting .prove 10 { state := .proving, cardId := some 40112, image := some child }
  { s with dialog := { s.dialog with port := ⟨{ tag := 2, outstanding := some ⟨.prove, 2, 10, some 7, false⟩ }, {}⟩ } }
theorem wit_Prove : proving.endsAnswered .a .prove (.proveAnswer .a (answer 2 0 [0, 0, 0, 0, 0, 0, 0, 9])) [0, 0, 0, 0, 0, 0, 0, 9]
    ∧ (proving.port .a).outstanding = some ⟨.prove, 2, 10, some 7, false⟩ ∧ (proving.ctx .a).image = some child
    ∧ proving.dialog.proofTimer = none ∧ proving.dialog.proofQueue = [] :=
  ⟨⟨_, rfl, ⟨⟨.prove, 2, 10, some 7, false⟩, rfl, rfl, rfl, by decide +kernel⟩⟩, rfl, rfl, rfl, rfl⟩
theorem wit_Prove_behind : ({ proving with dialog := { proving.dialog with proofTimer := some 1 } } : State).dialog.proofTimer.isSome = true := rfl
theorem wit_Read_fieldLost : (waiting .read 10 reading).endsFieldLost .a .read (.readAnswer .a (answer 1 1 [])) :=
  ⟨_, rfl, answered_of .read _ _ _ (by decide +kernel)⟩
theorem wit_Unanswered_deadline : (waiting .read 0 { reading with attempts := 2 }).endsUnanswered .a .read (.verbDeadlineExpiry .a)
    ∧ ((waiting .read 0 { reading with attempts := 2 }).ctx .a).attempts ≤ lively.params.retries :=
  ⟨.inl ⟨rfl, ⟨.read, 2, 0, none, false⟩, rfl, rfl, rfl, rfl⟩, by decide⟩
theorem wit_Unanswered_usedUp : (waiting .sense 10 { state := .sensing, attempts := 3 }).endsUnanswered .a .sense (.senseAnswer .a (answer 0 2 []))
    ∧ lively.params.retries < ((waiting .sense 10 { state := .sensing, attempts := 3 }).ctx .a).attempts :=
  ⟨.inr (.inl ⟨_, rfl, answered_of .sense _ _ _ (by decide +kernel)⟩), by decide⟩
/-- A context that waits for its MARK. -/
def marking : Context := { state := .marking, cardId := some 40112, image := some child, marking := some .denied }
theorem wit_Mark_answered : (waiting .mark 10 marking).endsAnswered .a .mark (.markAnswer .a (answer 4 0 [])) []
    ∧ ((waiting .mark 10 marking).ctx .a).marking = some .denied := ⟨⟨_, rfl, answered_of .mark _ _ _ (by decide +kernel)⟩, rfl⟩
theorem wit_Mark_fieldLost : (waiting .mark 10 marking).endsFieldLost .a .mark (.markAnswer .a (answer 4 1 [])) :=
  ⟨_, rfl, answered_of .mark _ _ _ (by decide +kernel)⟩

/-! ### The verdict -/

/-- A CHECK in service for port A's context. -/
def request : ProofRequest := ⟨.a, 40112, 1, 7, 9, 1, false⟩
/-- A state whose CHECK is in service, for a card with image `i`. -/
def checking (i : Image) (s : State) : State :=
  { s with
    dialog := { s.dialog with
      ctx := ⟨{ state := .checking, cardId := some i.cardId, image := some i }, .started 150⟩
      proofQueue := [request], proofTag := 3, proofTimer := some 0 } }
/-- The key module's answer. -/
def verdict (outcome : Byte) : Instr := .checkAnswer (withCheck [3, outcome])
/-- An adult's card without a trip. -/
def adult : Image := { child with cls := 0, entry := none }

theorem wit_Verdict : (checking adult lively).dialog.proofQueue = [request] ∧ (checking adult lively).dialog.proofTimer = some 0
    ∧ ((checking adult lively).ctx .a).state = .checking ∧ ((checking adult lively).ctx .a).journalRes = 0
    ∧ ((checking adult lively).port .a).outstanding = none ∧ parseCheck (withCheck [3, 0]) = some (3, .pass) := by decide +kernel
theorem wit_Verdict_retry : (after (verdict 3) (checking adult lively)).dialog.proofQueue = [{ request with attempt := 2 }]
    ∧ (after .proofTimeoutExpiry (checking adult lively)).dialog.proofTag = 4 := by decide +kernel
/-- Log 8: an outcome code above 3, and another length, are discarded: the CHECK stays in service. -/
theorem test_check_answers_discarded :
    (after (verdict 4) (checking adult lively)).dialog.proofQueue = [request]
    ∧ (after (.checkAnswer (withCheck [3, 0, 0])) (checking adult lively)).dialog.proofTimer = some 0 := by decide +kernel
/-- The SHOW sent last on port A. -/
def lastShow (s : State) : Option OutcomeCode :=
  match s.sent.head? with
  | some (.display .a _ w) => some w.outcome
  | _ => none
theorem wit_Verdict_refusals :
    [lastShow (after (verdict 0) (checking adult { lively with tariff := {} })),
      lastShow (after (verdict 0) (checking adult { lively with standing := { deny := [⟨40112, .lost, .head, .refuse⟩] } })),
      lastShow (after (verdict 0) (checking { adult with status := .blocked } lively)),
      lastShow (after (verdict 1) (checking adult lively)), lastShow (after (verdict 2) (checking adult lively)),
      lastShow (after (verdict 0) (checking adult { lively with standing := { inFlight := ⟨none, some 40112⟩ } })),
      lastShow (after (verdict 0) (checking adult { lively with lane := {} })),
      lastShow (after (verdict 0) (checking adult { lively with lane := { lively.lane with eff := .exitOnly } })),
      lastShow (after (verdict 0) (checking adult { lively with lane := { lively.lane with reserved := ⟨4, 0⟩ } })),
      lastShow (after (verdict 0) (checking adult { lively with journal := { reserved := 496 } }))]
    = [RefusalCode.noTariff, .denied, .blocked, .proofFail, .proofFail, .clone, .laneClosed, .laneDirection, .laneBusy,
        .journalFull].map fun c => some (.refused c) := by decide +kernel
theorem wit_Verdict_sightings :
    [lastShow (after (verdict 0) (checking adult { lively with standing := { sightings := [⟨40112, 312, 0, .exited, 7, ⟨9500, 30000⟩⟩] } })),
      lastShow (after (verdict 0) (checking adult { lively with standing := { sightings := [⟨40112, 311, 0, .torn, 7, ⟨9500, 30000⟩⟩] } })),
      lastShow (after (verdict 0) (checking adult { lively with standing := { sightings := [⟨40112, 311, 1050, .entered, 7, ⟨9500, 30940⟩⟩] } }))]
    = [some (.refused .clone), some (.refused .clone), some (.refused .alreadyIn)] := by decide +kernel
theorem wit_Verdict_marks :
    ((after (verdict 0) (checking adult { lively with standing := { deny := [⟨40112, .lost, .head, .refuseAndMark⟩] } })).ctx .a).state = .marking := by
  decide +kernel
theorem wit_Verdict_proceeds : ((after (verdict 0) (checking adult lively)).ctx .a).state = .reckoning
    ∧ (after (verdict 0) (checking adult lively)).lane.reserved = ⟨1, 0⟩
    ∧ (after (verdict 0) (checking adult lively)).journal.reserved = 1
    ∧ (after (verdict 0) (checking adult lively)).standing.inFlight = ⟨some 40112, none⟩
    ∧ ((after (verdict 0) (checking adult { lively with tariff := { lively.tariff with switch := .due } })).ctx .a).switchHeld = true := by
  decide +kernel

/-- A state in which the card may be admitted without a write. -/
def admitting (s : State) : State := checking adult s
theorem wit_Admitted_recovered :
    let s := admitting { recovering 9 with standing := { recovery := [{ entry 9 with intendedBalance := 1050 }] } }
    s.tariff.active.isSome = true ∧ s.denied 40112 = none ∧ s.lane.eff = .normal ∧ 16 < s.journal.free
      ∧ s.recoveryOf 40112 = some { entry 9 with intendedBalance := 1050 }
      ∧ (judge .a adult .pass s).journal.held = 0 ∧ (judge .a adult .pass s).journal.records.length = 1
      ∧ (judge .a adult .pass s).lane.credits.inbound.length = 1 ∧ lastShow (judge .a adult .pass s) = some .accepted := by decide +kernel
/-- The card's lapsed admission. -/
def lapsed : Sighting := ⟨40112, 311, 1050, .lapsedIn, 5, ⟨9500, 30880⟩⟩
theorem wit_Admitted_regrant :
    let s := admitting { lively with standing := { sightings := [lapsed] } }
    s.age lapsed.time ≤ s.params.grace ∧ lapsed.kind = lapsedKind .inbound
      ∧ (judge .a adult .pass s).journal.records.length = 1
      ∧ (judge .a adult .pass s).lane.credits.inbound.map Credit.kind = [.regrant]
      ∧ ((judge .a adult .pass s).sighting 40112).map Sighting.kind = some .entered := by decide +kernel
theorem wit_Admitted_stands : (admitting { lively with standing := { sightings := [lapsed] } }).stands 40112 lapsed :=
  ⟨rfl, fun h => absurd h.2 (by decide)⟩

/-- A context at the end of RECKONING. -/
def reckoned : Context := { writing with state := .reckoning }
theorem wit_Recheck : ((withContext reckoned).ctx .a).state = .reckoning ∧ ((withContext reckoned).ctx .a).intended = some intended
    ∧ ((withContext reckoned).port .a).outstanding = none ∧ (withContext reckoned).sighting 40112 = none
    ∧ ((after (.recheckBeforeCommit .a) (withContext reckoned)).ctx .a).state = .committing := by decide +kernel
theorem wit_Recheck_denied :
    let s := { withContext reckoned with standing := { deny := [⟨40112, .lost, .head, .refuse⟩] } }
    s.denied 40112 = some ⟨40112, .lost, .head, .refuse⟩ ∧ lastShow (after (.recheckBeforeCommit .a) s) = some (.refused .denied)
      ∧ (after (.recheckBeforeCommit .a) s).journal.records.length = 1 := by decide +kernel
theorem wit_Recheck_clone :
    let s := { withContext reckoned with standing := { sightings := [⟨40112, 312, 0, .exited, 7, ⟨9500, 30000⟩⟩] } }
    lastShow (after (.recheckBeforeCommit .a) s) = some (.refused .clone) ∧ (after (.recheckBeforeCommit .a) s).standing.deny.length = 1 := by
  decide +kernel
theorem wit_Recheck_agedOut :
    let s := { withContext reckoned with standing := { sightings := [⟨40112, 400, 0, .exited, 7, ⟨9500, 29000⟩⟩] } }
    s.sighting 40112 = some ⟨40112, 400, 0, .exited, 7, ⟨9500, 29000⟩⟩ ∧ s.tooOld ⟨9500, 29000⟩ ∧ s.denied 40112 = none
      ∧ ((after (.recheckBeforeCommit .a) s).ctx .a).state = .committing
      ∧ (after (.recheckBeforeCommit .a) s).standing.sightings = [] :=
  ⟨by decide +kernel, ⟨by decide, by decide⟩, by decide +kernel, by decide +kernel, by decide +kernel⟩

/-- A write outstanding at port A, its credit and journal slots reserved. -/
def writingAt (u : Purpose) (c : Context) : State :=
  let s := waiting u 0 c
  { s with lane := { s.lane with reserved := ⟨1, 0⟩ }, journal := { reserved := 1 }, standing := { inFlight := ⟨some 40112, none⟩ } }
theorem wit_Commit_mismatch : (writingAt .commit writing).endsAnswered .a .commit (.commitAnswer .a (answer 3 0 [1])) [1]
    ∧ parseCommit [1] = some .mismatch :=
  ⟨⟨_, rfl, ⟨⟨.commit, 2, 0, none, false⟩, rfl, rfl, rfl, by decide +kernel⟩⟩, rfl⟩
theorem wit_Write_ok : (writingAt .commit writing).lane.eff.inService = true
    ∧ (after (.commitAnswer .a (answer 3 0 [0])) (writingAt .commit writing)).lane.credits.inbound.length = 1
    ∧ (after (.commitAnswer .a (answer 3 0 [0])) (writingAt .commit writing)).journal.reserved = 0
    ∧ ((after (.commitAnswer .a (answer 3 0 [0])) (writingAt .commit writing)).sighting 40112).map Sighting.counter = some 312
    ∧ lastShow (after (.reissuedCommitAnswer .a (answer 3 0 [0])) (writingAt .reissue { writing with state := .confirming })) = some .accepted := by
  decide +kernel
/-- A context that confirms its write. -/
def confirming (attempts : Nat) (reissued : Bool) : Context :=
  { writing with state := .confirming, attempts := attempts, reissued := reissued }
theorem wit_Write_unknown : ((after (.verbDeadlineExpiry .a) (writingAt .commit writing)).ctx .a).state = .confirming
    ∧ ((after (.verbDeadlineExpiry .a) (writingAt .reissue (confirming 2 true))).ctx .a).attempts = 1 := by decide +kernel
theorem wit_Write_confirmed :
    lastShow (after (.confirmingReadAnswer .a (answer 1 0 { child with counter := 312, balance := 2140 }.bytes))
      (writingAt .confirmRead (confirming 1 false))) = some .accepted := by decide +kernel
theorem wit_Write_unwritten :
    ((after (.confirmingReadAnswer .a (answer 1 0 { child with counter := 311, balance := 2460 }.bytes))
      (writingAt .confirmRead (confirming 1 false))).ctx .a).reissued = true
    ∧ lastShow (after (.confirmingReadAnswer .a (answer 1 0 { child with counter := 311, balance := 2460 }.bytes))
      (writingAt .confirmRead (confirming 1 true))) = some .seeAgent := by decide +kernel
theorem wit_Write_conflict :
    let t := after (.confirmingReadAnswer .a (answer 1 0 { child with counter := 400, balance := 2460 }.bytes))
      (writingAt .confirmRead (confirming 1 false))
    lastShow t = some (.refused .clone) ∧ t.standing.recovery.length = 1 ∧ (t.denied 40112).isSome = true := by decide +kernel
/-- R41, R19: with the mark indication the CardId has left the in-flight set before the MARK ends (log 50). -/
theorem wit_Write_conflictMarked :
    let t := after (.confirmingReadAnswer .a (answer 1 0 { child with counter := 400, balance := 2460 }.bytes))
      { writingAt .confirmRead (confirming 1 false) with params := { markOnClone := true } }
    (t.ctx .a).state = .marking ∧ t.standing.inFlight = ⟨none, none⟩ ∧ t.sent.head? = some (.verb .a 3 (.mark 40112))
      ∧ t.standing.recovery.length = 1 := by decide +kernel
/-- Chapter 1, the torn write: after the second confirming READ, with Retries 2, one entry is held and the TORN sighting stands. -/
theorem wit_Write_torn :
    let t := after (.verbDeadlineExpiry .a) (writingAt .confirmRead (confirming 2 false))
    lastShow t = some .seeAgent ∧ t.standing.recovery.length = 1 ∧ t.journal.held = 1 ∧ t.journal.reserved = 0
      ∧ (t.ctx .a).state = .idle ∧ (t.sighting 40112).map Sighting.kind = some .torn ∧ t.lane.reserved = ⟨0, 0⟩
      ∧ ((after (.verbDeadlineExpiry .a) (writingAt .confirmRead (confirming 1 false))).ctx .a).attempts = 2 := by decide +kernel
/-- R34, R177: the SIGHT of a conclusion goes up and down; with no local place it is dropped. -/
theorem wit_Write_sight :
    let s := writingAt .commit writing
    let c : Instr := .commitAnswer .a (answer 3 0 [0])
    s.line.held = [] ∧ s.line.count .own ≤ 1 ∧ (after c s).line.localQ.up.map (fun b => b.frame.kind) = [18]
      ∧ (after c s).line.localQ.down.map (fun b => b.frame.kind) = [18]
      ∧ (after c { s with line := (speaking 4).line }).line.localQ = (speaking 4).line.localQ
      ∧ (after c { s with line := (speaking 4).line }).mgmt.flags.sendDrop = true := by decide +kernel
/-- A write outstanding while one own frame is queued, and the next record is the one of the high-water mark. -/
def writingBusy : State := { writingAt .commit writing with params := { highWater := 1 }, line := (speaking 1).line }
theorem wit_Write_slotsHold : writingBusy.slotsHold := by
  refine ⟨fun p => ?_, ⟨rfl, rfl, by decide, by decide⟩, ⟨by decide, (fun r h => nomatch h), fun p => ?_, fun r h => nomatch h⟩⟩
  · cases p
    · exact ⟨⟨rfl, by decide⟩, ⟨rfl, by decide, by decide, rfl⟩, ⟨by decide, by decide, by decide, by decide⟩,
        (fun o h => by cases h; exact ⟨rfl, by decide⟩), by decide⟩
    · exact ⟨⟨rfl, by decide⟩, ⟨rfl, rfl⟩, ⟨by decide, by decide, by decide, by decide⟩, (fun o h => nomatch h), by decide⟩
  · cases p <;> decide
/-- R34, R155, R177: at one own frame queued, a JOURNAL_HIGH event of the conclusion leaves a local place for each copy. -/
theorem wit_Write_sightBoundary :
    let t := after (.commitAnswer .a (answer 3 0 [0])) writingBusy
    writingBusy.line.held = [] ∧ writingBusy.line.count .own = 1 ∧ writingBusy.line.link = ⟨true, true⟩
      ∧ t.line.localQ.up.map (fun b => b.frame.kind) = [17, 17, 18] ∧ t.line.localQ.down.map (fun b => b.frame.kind) = [18]
      ∧ t.mgmt.flags.sendDrop = false := by decide +kernel

/-- EMERGENCY about to be taken, with port A's READ outstanding. -/
def refusing : State :=
  let s := waiting .read 10 reading
  { s with pins := { s.pins with emergency := true }, lane := { s.lane with emergencyFilter := some 0 } }
theorem wit_ModeChange_emergency : refusing.pins.reset = false ∧ refusing.lane.emergencyFilter = some 0 ∧ refusing.pins.emergency = true
    ∧ refusing.lane.eff ≠ .freeExit ∧ (refusing.ctx .a).state ∈ [DialogState.reading, .proving, .checking, .judging, .reckoning]
    ∧ ((after .emergencyTaken refusing).ctx .a).state = .holding
    ∧ ((after .emergencyTaken refusing).port .a).pendingShow = some ⟨.refused .laneClosed, none, none⟩
    ∧ ((after .emergencyTaken refusing).journal.records.map fun r => r.content.kind) = [.mode, .refusal] := by decide +kernel
/-- R136, R138: a lane of two faulty beams enters FAULT from NORMAL, and leaves it with the free crossings counted. -/
theorem wit_ModeChange_derived :
    let s := { lively with lane := { lively.lane with faultBeams := 2, freeCount := 5 } }
    let u := { s with lane := { s.lane with faultBeams := 0, eff := .fault } }
    s.lane.derived = .fault ∧ s.lane.queuesServed ∧ (deriveMode s).lane.eff = .fault ∧ (deriveMode s).lane.freeCount = 0
      ∧ (deriveMode s).lane.flap = .opening
      ∧ (deriveMode s).journal.records.map Record.content = [modeContent .fault 0]
      ∧ (deriveMode u).journal.records.map Record.content = [modeContent .normal 5] ∧ (deriveMode u).lane.freeCount = 5
      ∧ s.lane.derived ≠ s.lane.eff ∧ s.params.eventMask.getLsbD 5 = true ∧ s.journal.free = 512
      ∧ (deriveMode s).line.localQ.up.map Buffered.frame = [s.eventFrame (.modeChange .normal .fault 0)]
      ∧ (deriveMode { s with line := (speaking 4).line }).mgmt.flags.sendDrop = true := by
  refine ⟨rfl, fun _ => ⟨rfl, rfl⟩, ?_⟩
  decide +kernel
/-- A context held for a switch at port A, its slots reserved. -/
def heldForSwitch : State :=
  let s := withContext { heldContext with inFlight := true }
  { s with
    lane := { s.lane with reserved := ⟨1, 0⟩ }, journal := { reserved := 1 }, standing := { inFlight := ⟨some 40112, none⟩ } }
theorem wit_ModeChange_lane : heldForSwitch.canAnswer plain ∧ laneModeOf 2 = some .exitOnly
    ∧ heldForSwitch.clock.state ≠ .unset ∧ heldForSwitch.tariff.active.isSome = true ∧ heldForSwitch.mgmt.freshStart = false
    ∧ heldForSwitch.lane.cmd ≠ .exitOnly ∧ heldForSwitch.lane.eff ≠ .exitOnly
    ∧ lastShow (after (.laneMode plain 0 2) heldForSwitch) = some (.refused .laneDirection)
    ∧ (after (.laneMode plain 0 2) heldForSwitch).lane.reserved = ⟨0, 0⟩
    ∧ (after (.laneMode plain 0 2) heldForSwitch).journal.reserved = 0
    ∧ ((after (.laneMode plain 0 2) heldForSwitch).journal.records.map fun r => r.content.kind) = [.mode, .refusal]
    ∧ ((after (.laneMode plain 0 1) heldForSwitch).ctx .a).state = .judging :=
  ⟨⟨⟨rfl, rfl, rfl, by decide +kernel⟩, rfl, by decide, by decide, rfl⟩, rfl, by decide, by decide, by decide, by decide, by decide,
    by decide +kernel, by decide +kernel, by decide +kernel, by decide +kernel, by decide +kernel⟩
/-- Port A's verb answered after its context was refused. -/
def dropped : State :=
  let s := waiting .read 0 { state := .holding, cardId := some 40112 }
  { s with
    dialog := { s.dialog with
      port := ⟨{ tag := 2, outstanding := some ⟨.read, 2, 0, none, true⟩, pendingShow := some ⟨.refused .laneClosed, none, none⟩ }, {}⟩ } }
theorem wit_ModeChange_dropped : (dropped.port .a).outstanding = some ⟨.read, 2, 0, none, true⟩
    ∧ parseAnswer (answer 1 1 []) = some (Purpose.read.code, 2, .fieldLost)
    ∧ lastShow (after (.readAnswer .a (answer 1 1 [])) dropped) = some (.refused .laneClosed)
    ∧ ((after (.verbDeadlineExpiry .a) dropped).ctx .a).pollTimer = some 150 := by decide +kernel
/-- An abandoned CHECK in service, with the other port's request behind it. -/
def abandoned : State :=
  let s := checking adult lively
  { s with dialog := { s.dialog with proofQueue := [{ request with abandoned := true }, { request with port := .b }] } }
theorem wit_ModeChange_abandoned : abandoned.dialog.proofQueue = { request with abandoned := true } :: [{ request with port := .b }]
    ∧ abandoned.dialog.proofTimer = some 0 ∧ parseCheck (withCheck [3, 1]) = some (abandoned.dialog.proofTag, .fail)
    ∧ (after (verdict 1) abandoned).dialog.proofQueue = [{ request with port := .b }]
    ∧ (after .proofTimeoutExpiry abandoned).dialog.proofTag = 4 := by decide +kernel

/-! ### The sensor, the credits, the flaps -/

/-- A sample set with six equal levels. -/
def samples (tag hi lo : Byte) : List Byte := withCheck (tag :: (List.replicate 6 [hi, lo]).flatten)
/-- `lively` with the sensor as given. -/
def sensing (b : Beams) : State := { lively with beam := b }

theorem wit_Sample_answered : (sensing { sampleTimer := some 0, answered := true, missed := 3 }).beam.sampleTimer = some 0 := rfl
theorem wit_Sample_missed : (after .sampleTimerExpiry (sensing { sampleTimer := some 0, missed := 6 })).beam.missed = 7
    ∧ (after .sampleTimerExpiry (sensing { sampleTimer := some 0, missed := 8, silent := true })).beam.missed = 8 := by decide +kernel
theorem wit_Sample_silence : (after .sampleTimerExpiry (sensing { sampleTimer := some 0, missed := 7 })).beam.silent = true
    ∧ (after .sampleTimerExpiry (sensing { sampleTimer := some 0, missed := 7 })).lane.eff = .fault := by decide +kernel
/-- R86, R134: the eighth missed period: Cause SILENT, the FAULT record after the MODE record, the BEAM_FAULT event of the port. -/
theorem wit_Sample_silenceReported :
    let s := { sensing { sampleTimer := some 0, missed := 7 } with params := { eventMask := 8#12 } }
    let t := after .sampleTimerExpiry s
    t.beam.records.toList.map BeamRecord.cause = List.replicate 6 (some .silent) ∧ t.lane.faultBeams = 6 ∧ s.lane.modeDerived
      ∧ t.journal.records.map (fun r => (r.content.kind, r.content.count)) = [(.mode, some 0), (.fault, some 6)]
      ∧ t.line.localQ.up.map Buffered.frame = [s.eventFrame (.beamFault 0)] := by
  refine ⟨by decide +kernel, by decide +kernel, ⟨rfl, rfl⟩, by decide +kernel, by decide +kernel⟩
theorem wit_SampleSet_dropped : parseSample (samples 3 11 184) = some (3, ⟨3000, 3000, 3000, 3000, 3000, 3000⟩)
    ∧ (3 : Nat) ≠ lively.beam.senseTag ∧ parseSample [] = none := by decide +kernel
theorem wit_SampleSet_acquires : parseSample (samples 2 12 0) = some (lively.beam.senseTag, ⟨3072, 3072, 3072, 3072, 3072, 3072⟩)
    ∧ lively.beam.answered = false ∧ lively.beam.acquiring = true
    ∧ (after (.sampleSet (samples 2 12 0)) lively).beam.records.b6.ref = 3072 := by decide +kernel
theorem wit_SampleSet_judges : (sensing { acquiring := false, bodies := [⟨.middle, 3, 3, none, false, false, 0, false⟩] }).laneIdle = false := by
  decide
/-- A sample set that darkens every beam for the third time: a body that covers both ends appears, and the tempo is BRISK. -/
theorem test_third_dark_sample_blocks :
    let r : BeamRecord := { count := 2 }
    let t := after (.sampleSet (samples 2 0 10)) (sensing { acquiring := false, records := ⟨r, r, r, r, r, r⟩ })
    t.beam.bodies.map Body.origin = [.middle] ∧ t.lane.tempo = .brisk ∧ t.lane.flapZone = true := by decide +kernel
theorem wit_Anomaly :
    let b : Body := ⟨.middle, 3, 3, none, false, false, 0, false⟩
    let s := { sensing { bodies := [b] } with now := 2000 }
    s.beam.bodies = [] ++ b :: [] ∧ b.since + 2000 ≤ s.now ∧ (after .anomaly s).journal.records.length = 1
      ∧ (after .anomaly s).beam.bodies.map Body.reported = [true] := by decide +kernel
theorem wit_SampleJudgesABeam :
    (sampleBeam {} { count := 2 } 2400).state = .blocked ∧ (sampleBeam {} { state := .blocked, count := 2 } 2700).state = .clear
      ∧ (sampleBeam {} { count := 2 } 2401).count = 0 ∧ (sampleBeam {} { state := .blocked, count := 2 } 2699).count = 0 := by decide

/-- `lively` with the flaps CLOSED and beam B2 as given, under trim when `trim` says so. -/
def trimming (r : BeamRecord) (trim : Option Nat) : State :=
  sensing { acquiring := false, trimBeam := trim, records := ⟨{}, r, {}, {}, {}, {}⟩ }
/-- R93, section 5.4: a CLEAR beam out of band begins its trim, with DRIVE one step up. -/
theorem wit_Trim_seek :
    let s := trimming { ref := 2600 } none
    s.laneIdle = true ∧ (seekTrim s).beam.trimBeam = some 2 ∧ (seekTrim s).sent.head? = some (.drive 2 33)
      ∧ (seekTrim { s with lane := { s.lane with reserved := ⟨1, 0⟩ } }) = { s with lane := { s.lane with reserved := ⟨1, 0⟩ } } := by
  decide +kernel
theorem wit_Trim_seekRetry :
    let s := trimming { state := .fault, cause := some .trim, ref := 2600, steps := 9 } none
    (seekTrim s).beam.records.b2 = { state := .fault, cause := some .trim, ref := 2600, drive := 33, steps := 1, tried := true } := by
  decide +kernel
/-- R94 to R96: at the settling sample the trim is judged first: in the band it ends although the lane is no longer idle; out of it the
step is taken and then interrupted; before the settling sample an interruption leaves the beam CLEAR with its Level. -/
theorem wit_Trim_advance :
    let busy (r : BeamRecord) : State := let s := trimming r (some 2); { s with lane := { s.lane with reserved := ⟨1, 0⟩ } }
    let at' (level settle : Nat) : BeamRecord := { level := level, ref := 2600, state := .trimming, steps := 3, settle := settle }
    (busy (at' 3000 3)).laneIdle = false ∧ (busy (at' 3000 3)).params.trimSettle = 4
    ∧ (advanceTrim (busy (at' 3000 3))).beam.records.b2 = { at' 3000 0 with state := .clear, ref := 3000 }
    ∧ (advanceTrim (busy (at' 2610 3))).beam.records.b2 = { at' 2610 0 with state := .clear, ref := 2610, steps := 0, drive := 33 }
    ∧ (advanceTrim (busy (at' 2610 3))).sent.head? = some (.drive 2 33)
    ∧ (advanceTrim (busy (at' 2610 2))).beam.records.b2 = { at' 2610 0 with state := .clear, ref := 2610, steps := 0 }
    ∧ (advanceTrim (busy (at' 2610 2))).beam.trimBeam = none := by decide +kernel
theorem wit_Trim_fails :
    let r : BeamRecord := { level := 2600, ref := 2600, state := .trimming, steps := 8, settle := 3 }
    (advanceTrim (trimming r (some 2))).beam.records.b2 = { r with state := .fault, cause := some .trim, settle := 0 }
    ∧ (advanceTrim (trimming r (some 2))).journal.records.length = 1
    ∧ (advanceTrim (trimming { r with settle := 1 } (some 2))).beam.records.b2 = { r with settle := 2 } := by decide +kernel

/-- A body from the entry end at B2 to B3, its beams blocked. -/
def walking : State :=
  let r : BeamRecord := { state := .blocked }
  sensing { acquiring := false, records := ⟨{}, r, r, {}, {}, {}⟩, bodies := [⟨.entryEnd, 2, 3, some 3, false, false, 0, false⟩] }
theorem wit_Bodies_set : parseSample (samples 2 12 0) = some (walking.beam.senseTag, ⟨3072, 3072, 3072, 3072, 3072, 3072⟩)
    ∧ walking.beam.answered = false ∧ (after (.sampleSet (samples 2 12 0)) walking).beam.bodies.map Body.last = [3] := by decide +kernel
theorem wit_Bodies_view : walking.beam.view = [false, true, true, false, false, false] ∧ runsOf walking.beam.view = [(2, 3)]
    ∧ ({ walking.beam with records := walking.beam.records.put 4 { state := .fault } } : Beams).reads 4 = false
    ∧ ({ walking.beam with records := walking.beam.records.put 1 { state := .fault } } : Beams).reads 1 = true := by decide
/-- R99 to R104: a move, a split, a merge, an absorption in a full list, an appearance and a departure. -/
theorem wit_Bodies_matched :
    let b : Body := ⟨.entryEnd, 2, 3, some 3, false, false, 0, false⟩
    let c : Body := ⟨.exitEnd, 5, 6, some 5, false, true, 0, false⟩
    let spans (l : List Body) (runs : List Run) := (matchView 9 l runs).bodies.map fun x => (x.2.first, x.2.last)
    spans [b] [(3, 4)] = [(3, 4)] ∧ ((matchView 9 [b] [(3, 4)]).crossings.map Prod.fst) = [.inbound]
    ∧ spans [b] [(1, 2), (3, 3)] = [(3, 3), (1, 2)] ∧ spans [b, c] [(3, 5)] = [(3, 5)]
    ∧ spans [b, c] [(3, 3), (5, 5)] = [(3, 3), (5, 5)]
    ∧ spans [{ b with first := 1 }, c, c] [(1, 1), (3, 3), (5, 6)] = [(1, 3), (5, 6)]
    ∧ (matchView 9 [] [(1, 2), (6, 6)]).appeared = [.entryEnd, .exitEnd] ∧ spans [b, c] [] = [] := by decide +kernel
theorem wit_Bodies_runs : runsOf [true, true, false, true, false, true] = [(1, 2), (4, 4), (6, 6)] := by decide

/-- A credit. -/
def credit (life wait : Nat) : Credit := ⟨311, .inbound, .fare, 501, ⟨9500, 0⟩, life, wait⟩
/-- `lively` with credits queued at IN. -/
def queued (l : List Credit) (grant : Option Direction) (f : Flap) : State :=
  { lively with
    lane := { lively.lane with credits := ⟨l, []⟩, counts := ⟨{ granted := l.length }, {}⟩, grant := grant, flap := f }
    standing := { sightings := [⟨501, 1, 2, .entered, 5, ⟨9500, 30000⟩⟩] } }

theorem wit_CreditLapses_life : (queued [credit 0 0] (some .inbound) .opened).lane.credits.get .inbound = credit 0 0 :: []
    ∧ (after .creditLifeExpiry (queued [credit 0 0] (some .inbound) .opened)).lane.counts.inbound = ⟨1, 0, 1⟩
    ∧ ((after .creditLifeExpiry (queued [credit 0 0] (some .inbound) .opened)).sighting 501).map Sighting.kind = some .lapsedIn := by
  decide +kernel
theorem wit_CreditLapses_wait : lively.params.waitLimit * 1000 ≤ (credit 8000 20000).wait
    ∧ (queued [credit 8000 20000] (some .outbound) .closed).lane.grant ≠ some .inbound
    ∧ (after (.waitLimitExpiry .inbound) (queued [credit 8000 20000] (some .outbound) .closed)).journal.records.length = 1 := by decide +kernel
/-- The state one step leads to. -/
def stepped (s : State) : State :=
  match step s with
  | .next t => t
  | .fault _ => s
  | .refused _ => s

/-- R110, R111: with IN granted and the flaps OPEN the head's Life counts down and no Wait rises; with OUT granted every Wait rises. -/
theorem test_credit_times :
    let l := [credit 5 9, credit 7 3]
    (queued l (some .inbound) .opened).ownStep = none
    ∧ (stepped (queued l (some .inbound) .opened)).lane.credits.inbound.map (fun c => (c.life, c.wait)) = [(4, 9), (7, 3)]
    ∧ (stepped (queued l (some .inbound) .closed)).lane.credits.inbound.map (fun c => (c.life, c.wait)) = [(5, 9), (7, 3)]
    ∧ (stepped (queued l (some .outbound) .opened)).lane.credits.inbound.map (fun c => (c.life, c.wait)) = [(5, 10), (7, 4)] := by
  decide +kernel
/-- Credits at IN that have waited 10 s and 9.999 s, IN granted. -/
def waited : State := queued [credit 9 10000, credit 8 9999] (some .inbound) .opened
theorem wit_Set_lowered : (({} : Params).set [(30, 10)]).1.waitLimit < waited.params.waitLimit
    ∧ (after (.set plain 0 [(30, 10)]) waited).lane.credits.inbound.map Credit.wait = [9999]
    ∧ (after (.set plain 0 [(30, 10)]) waited).journal.records.length = 1
    ∧ (after (.set plain 0 [(30, 25)]) waited).lane.credits = waited.lane.credits := by decide +kernel
/-- R111: a credit granted at the very limit does not lapse, whatever other parameter a SET replaces. -/
theorem test_set_of_another_parameter_lapses_nothing :
    (after (.set plain 0 [(1, 20)]) (queued [credit 9 20000] (some .inbound) .opened)).lane.credits.inbound = [credit 9 20000] := by
  decide +kernel
/-- `lively` with the flaps in a motion. -/
def moving (f : Flap) (jam : Option Motion) (grant : Option Direction) : State :=
  { lively with lane := { lively.lane with flap := f, jam := jam, grant := grant, motionTimer := some 0 } }
theorem wit_Limit_open : (moving .opening none none).lane.flap = .opening
    ∧ (after (.limitAsserted true false) (moving .opening (some .towardOpen) none)).lane.jam = none := by decide +kernel
theorem wit_Limit_closed : (moving .closing none (some .inbound)).lane.grant = some .inbound
    ∧ (∀ b ∈ (moving .closing none (some .inbound)).beam.bodies, b.origin ≠ originOf .inbound)
    ∧ (after (.limitAsserted false true) (moving .closing none (some .inbound))).lane.lastServed = some .inbound
    ∧ (after (.limitAsserted false true) (moving .closing none none)).lane.flap = .closed := by
  refine ⟨rfl, fun b h => absurd h (List.not_mem_nil), by decide +kernel, by decide +kernel⟩
/-- R126, R130: a close retry that succeeds ends the jam; in another lane a credit at the other end opens the flaps again. -/
theorem wit_Limit_closedRetry :
    let s := moving .closing (some .towardClosed) none
    let u := { s with lane := { s.lane with eff := .fault } }
    let v := { moving .closing none (some .inbound) with
      lane := { (moving .closing none (some .inbound)).lane with credits := ⟨[], [credit 9 0]⟩ } }
    u.lane.modeDerived ∧ (after (.limitAsserted false true) u).lane.jam = none ∧ (after (.limitAsserted false true) u).lane.eff = .normal
      ∧ (after (.limitAsserted false true) u).lane.flap = .closed
      ∧ (after (.limitAsserted false true) { u with lane := { u.lane with faultBeams := 2 } }).lane.flap = .opening
      ∧ (after (.limitAsserted false true) v).lane.grant = some .outbound
      ∧ (after (.limitAsserted false true) v).lane.lastServed = some .inbound
      ∧ (after (.limitAsserted false true) v).lane.flap = .opening :=
  ⟨⟨rfl, rfl⟩, by decide +kernel, by decide +kernel, by decide +kernel, by decide +kernel, by decide +kernel, by decide +kernel,
    by decide +kernel⟩
theorem wit_Limit_other : ¬(lively.lane.flap = .opening ∧ true = true) ∧ ¬(lively.lane.flap = .closing ∧ true = true) := by decide
theorem wit_CloseDelay :
    (after .closeDelayExpiry { lively with lane := { lively.lane with flap := .opened, closeTimer := some 0 } }).lane.flap = .closing
    ∧ (after .closeDelayExpiry (let s := queued [credit 9 0] (some .inbound) .opened; { s with lane := { s.lane with closeTimer := some 0 } })).lane.flap
      = .opened := by decide +kernel
theorem wit_Motion : (after .motionTimerExpiry (moving .closing none none)).lane.jam = some .towardClosed
    ∧ (after .motionTimerExpiry (moving .opening none none)).lane.eff = .fault
    ∧ (after .motionTimerExpiry (moving .opening none none)).journal.records.length = 2 := by decide +kernel
theorem wit_Timers : ({ lively with lane := { lively.lane with tempo := .brisk, briskTimer := some 0 } } : State).lane.briskTimer = some 0
    ∧ ({ lively with lane := { lively.lane with dormantTimer := some 0 } } : State).lane.dormantTimer = some 0
    ∧ ({ lively with line := { lively.line with silenceTimer := some 0 } } : State).line.silenceTimer = some 0
    ∧ ({ lively with mgmt := { lively.mgmt with timeAge := some 0 } } : State).mgmt.timeAge = some 0 := by decide
/-- `lively` with the tally as given. -/
def tallying (phase : TallyPhase) (l : List Direction) : State :=
  { lively with lane := { lively.lane with tally := l, tallyPhase := phase, tallyTimer := some 0, tallyA := true } }
theorem wit_Tally : (after .tallyGapExpiry (tallying .first [.inbound])).lane.tallyB = true
    ∧ (after .tallyGapExpiry (tallying .spacing [.inbound])).lane.tallyA = false
    ∧ (after .tallyGapExpiry (tallying .spacing [])).lane.tallyTimer = none := by decide +kernel
theorem test_crossings :
    let s := queued [credit 9 0, credit 8 0] (some .inbound) .opened
    (crossing .inbound true s).lane.credits = ⟨[], []⟩ ∧ (crossing .inbound true s).journal.records = []
      ∧ (crossing .outbound false s).journal.records.length = 1
      ∧ (crossing .inbound true (queued [credit 9 0] (some .inbound) .opened)).journal.records.map (fun r => r.content.kind) = [.tailgate] := by
  decide +kernel
theorem wit_Journal : lively.journal.free = 512 ∧ ({ lively with journal := { reserved := 496, held := 16 } } : State).journal.free = 0 := by
  decide

/-! ### The invariants: every step from the reset state starts where they hold -/

theorem wit_invariants_step : step State.reset = .next (tick State.reset) := rfl
theorem wit_withinCapacity : State.reset.withinCapacity :=
  ⟨⟨List.Pairwise.nil, by decide, List.Pairwise.nil, by decide, by decide⟩, by decide, by decide⟩
theorem wit_numbersInRange : State.reset.numbersInRange := by
  refine ⟨?_, ?_, ?_, ⟨?_, ?_, ?_, ?_, by decide⟩, by decide, by decide, by decide, by decide, by decide, by decide, by decide,
    by decide, fun r h => nomatch h⟩
  · unfold tagInRange; decide
  · unfold tagInRange; decide
  · unfold tagInRange; decide
  · unfold BeamRecord.inRange; decide
  · exact fun x h => nomatch h
  · exact fun i h => nomatch h
  · unfold tagInRange; decide
theorem wit_slotsHold : State.reset.slotsHold := by
  refine ⟨fun p => ?_, ⟨rfl, rfl, by decide, by decide⟩, ⟨by decide, (fun r h => nomatch h), fun p => ?_, fun r h => nomatch h⟩⟩
  · cases p <;> exact ⟨⟨rfl, by decide⟩, ⟨rfl, rfl⟩, ⟨by decide, by decide, by decide, by decide⟩, (fun o h => nomatch h), by decide⟩
  · cases p <;> decide
theorem wit_creditAccount : State.reset.lane.accountHolds ∧ State.reset.lane.queuesServed :=
  ⟨fun d => by cases d <;> rfl, fun _ => ⟨rfl, rfl⟩⟩
theorem wit_lineQuotas : State.reset.line.quotasHold ∧ State.reset.line.holdAgrees :=
  ⟨⟨by decide, by decide, by decide⟩, fun p => by cases p <;> decide⟩
theorem wit_modeAndFlaps : State.reset.lane.modeDerived ∧ State.reset.lane.flapsSafe :=
  ⟨⟨rfl, rfl⟩, by decide, by decide, by decide, by decide⟩
theorem wit_numbered : State.reset.journal.numbered := trivial

end Sys2Proof.Tests
end

/-! PROOFS. A line command addressed to this gate is executed and its REPLY held (R165 to R176), and the deny list that the line
head keeps (R29). -/

namespace Sys2Proof.Machine

open Sys2Proof

/-! ### The buffer of a frame in reception passes to its REPLY -/

/-- R173: HOLD outputs set from the same counts as before the move stand. -/
theorem LineIf.setHold_of_sameCounts {l m : LineIf} (hh : l.holdOut = m.holdOut) (hc : ∀ q, l.count q = m.count q) :
    ({ m with holdOut := l.setHold.holdOut } : LineIf).setHold = m.setHold := by
  have h : l.setHold.holdOut = m.setHold.holdOut := by simp only [LineIf.setHold, hh, hc]
  rw [h]
  exact m.setHold_setHold

/-- R172: a buffer held from a port counts as it did in reception on the port. -/
theorem LineIf.count_held_eq_receiving (e : HeldEntry) (q : Quota) (l : LineIf) (h : l.receiving.get e.source = false) :
    ({ l with receiving := l.receiving.put e.source true } : LineIf).count q
      = ({ l with held := l.held ++ [e] } : LineIf).count q := by
  rw [LineIf.count_receive _ _ _ h, LineIf.count_joinHeld]

/-- The line hears a good frame alike before and after a buffer is taken for it. -/
theorem LineIf.heardOn_taking (q : Params) (p : LinePort) (l : LineIf) :
    (l.taking p).heardOn q p = (l.heardOn q p).taking p := by cases p <;> rfl

@[simp] theorem LineIf.heardOn_receiving (q : Params) (p : LinePort) (l : LineIf) :
    (l.heardOn q p).receiving = l.receiving := by cases p <;> rfl

@[simp] theorem LineIf.heardOn_link (q : Params) (p : LinePort) (l : LineIf) : (l.heardOn q p).link = l.link := by
  cases p <;> rfl

@[simp] theorem LineIf.taking_link (p : LinePort) (l : LineIf) : (l.taking p).link = l.link := rfl

@[simp] theorem LineIf.taking_address (p : LinePort) (l : LineIf) : (l.taking p).address = l.address := rfl

/-- R165, R169, R173, R176: a frame received and then held for its REPLY leaves the line `answered`. -/
theorem LineIf.answered_of_taking (q : Params) (p : LinePort) (r : Reply) (restart : Bool) (l : LineIf)
    (h : l.receiving.get p = false) :
    let m := (l.taking p).heardOn q p
    ({ m with receiving := m.receiving.put p false, held := m.held ++ [⟨p, .up, .reply r, restart⟩] } : LineIf).setHold
      = l.answered q p r restart := by
  intro m
  have hm : m = (l.heardOn q p).taking p := LineIf.heardOn_taking q p l
  have hr : (l.heardOn q p).receiving.get p = false := by rwa [LineIf.heardOn_receiving]
  have hput : m.receiving.put p false = (l.heardOn q p).receiving := by
    rw [hm, ← hr]
    exact (ByLine.put_put ..).trans (ByLine.put_get ..)
  rw [hput, hm]
  exact LineIf.setHold_of_sameCounts (l := { l.heardOn q p with receiving := (l.heardOn q p).receiving.put p true })
    (m := { l.heardOn q p with held := (l.heardOn q p).held ++ [⟨p, .up, .reply r, restart⟩] }) rfl
    fun k => LineIf.count_held_eq_receiving ⟨p, .up, .reply r, restart⟩ k _ hr

/-! ### A line command arrives addressed to this gate -/

/-- R165: a frame's start takes its buffer. -/
theorem startReception_of_receives {p : LinePort} {s : State} (h : s.line.receives p = true) :
    startReception p s = { s with line := s.line.taking p } := by
  rw [startReception, if_pos h]
  rfl

/-- R167, R168: a good frame with this gate's address is handed over, whichever port it comes by. -/
theorem goodFrame_addressed (p : LinePort) (f : Frame) (s : State) (hk : f.kind ≠ 0) (hb : f.dest ≠ broadcastDest)
    (ha : s.line.addressed f = true) :
    goodFrame p f s = takeAddressed p f { s with line := s.line.heardOn s.params p } := by
  cases p with
  | up =>
    have ha' : (heardHead s).line.addressed f = true := ha
    rw [goodFrame, routeUp, if_neg hk, if_neg hb, if_pos ha']
    rfl
  | down =>
    rw [goodFrame, routeDown, if_neg hk, if_neg hb, if_pos ha]
    rfl

/-- R165, R167: a whole good frame addressed to this gate is handed over in the state of its arrival. -/
theorem arrive_addressed (a : Arrival) (kind : Byte) (payload : List Byte) (s : State) (hk : kind ≠ 0)
    (h : s.canAnswer a) :
    arrive a kind payload s =
      some (takeAddressed a.port ⟨kind, byte s.line.address, a.src, a.hops, payload⟩ (s.onArrival a.port)) := by
  obtain ⟨⟨-, hlink, hidle, hroom⟩, hto, hlow, hhigh, -⟩ := h
  have hdest : (byte s.line.address).toNat = s.line.address := toNat_byte (by omega)
  have hb : byte s.line.address ≠ broadcastDest := fun e => by
    have : s.line.address = 63 := by rw [← hdest, e]; rfl
    omega
  have harr : s.arriving a kind payload = some ⟨kind, byte s.line.address, a.src, a.hops, payload⟩ := by
    rw [State.arriving, if_neg (by simp [hto]), if_neg (by omega)]
  have htaken : (s.line.taking a.port).receiving.get a.port = true := ByLine.get_put_same ..
  simp only [arrive, harr, hidle, hlink, startReception_of_receives hroom, htaken, Bool.false_eq_true, Bool.true_eq_false,
    if_true, if_false]
  rw [goodFrame_addressed _ _ _ hk hb]
  · rfl
  · have hset : s.line.address ≠ 0 := by omega
    simp [LineIf.addressed, hdest, hset]

/-- R176: a buffer in reception is held for its REPLY while the up link is UP. -/
theorem holdReception_reply {p : LinePort} {r : Reply} {restart : Bool} {s t : State}
    (hidle : s.line.receiving.get p = false) (hup : s.line.link.up = true) (ht : t.line = (s.onArrival p).line) :
    holdReception p .up (.reply r) restart t = { t with line := s.line.answered s.params p r restart } := by
  have hlink : t.line.link.get .up = true := by
    rw [ht, State.onArrival, LineIf.heardOn_link, LineIf.taking_link]
    exact hup
  rw [holdReception, if_pos hlink, ← LineIf.answered_of_taking _ _ _ _ _ hidle, State.onBuffers, State.onLine, ht]
  rfl

theorem LineCommand.kind_ne_zero (c : LineCommand) : c.kind ≠ 0 := by cases c <;> simp [LineCommand.kind]

/-- R169, R176, R184: a line command that leaves the line alone has its effect, and its REPLY is held. -/
theorem effect_arriveCommand_answered {i : Instr} {a : Arrival} {tag : Byte} {c : LineCommand} {s : State} {x : Executed}
    (hw : i.wf = true) (h : s.canAnswer a) (hp : parseBody c.kind (tag :: c.fields) = .command tag c)
    (hx : execute c (s.onArrival a.port) = x) (hl : x.state.line = (s.onArrival a.port).line) :
    effect i s (arriveCommand a tag c) = .next (follow
      { x.state with
        line := s.line.answered s.params a.port ⟨c.kind, tag, x.status, x.contents⟩
          (c == .restart && !s.mgmt.restartPending) }) := by
  have ⟨⟨hreset, _, hidle, _⟩, _, _, _, hup⟩ := h
  refine effect_some hw hreset ?_
  rw [arriveCommand, arrive_addressed _ _ _ _ c.kind_ne_zero h, takeAddressed]
  simp only [hp, runAddressed, hx]
  rw [holdReception_reply hidle hup hl]
  rfl

/-! ### DENY-ADD and DENY-DROP -/

/-- Section 11.2: DENY-ADD reads back from its payload. -/
theorem parseBody_denyAdd (tag : Byte) {cardId : Nat} (reason action : Byte) (h : fits 5 cardId = true) :
    parseBody (LineCommand.denyAdd cardId reason action).kind (tag :: (LineCommand.denyAdd cardId reason action).fields)
      = .command tag (.denyAdd cardId reason action) := by
  have hc : fieldAt (be 5 cardId ++ [reason, action]) 0 5 = cardId := by
    rw [fieldAt_first _ _ _ (length_be ..), ofBe_be h]
  have hr : fieldAt (be 5 cardId ++ [reason, action]) 5 1 = reason.toNat := by
    rw [fieldAt_behind _ _ _ _ _ (length_be ..) le_rfl]
    exact fieldAt_cons_one ..
  have ha : fieldAt (be 5 cardId ++ [reason, action]) 6 1 = action.toNat := by
    rw [fieldAt_behind _ _ _ _ _ (length_be ..) (by omega), fieldAt_cons_succ]
    exact fieldAt_cons_one ..
  simp [parseBody, parseLineCommand, LineCommand.kind, LineCommand.fields, hc, hr, ha]

/-- Section 11.2: DENY-DROP reads back from its payload. -/
theorem parseBody_denyDrop (tag : Byte) {cardId : Nat} (h : fits 5 cardId = true) :
    parseBody (LineCommand.denyDrop cardId).kind (tag :: (LineCommand.denyDrop cardId).fields)
      = .command tag (.denyDrop cardId) := by
  have hc : fieldAt (be 5 cardId) 0 5 = cardId := by rw [fieldAt_whole _ _ (length_be ..), ofBe_be h]
  simp [parseBody, parseLineCommand, LineCommand.kind, LineCommand.fields, hc]

/-- R29: a DENY-ADD is answered, and of the rest of the part nothing but the standing lists changes. -/
theorem exec_denyAdd_answered {a : Arrival} {tag : Byte} {cardId : Nat} {reason action : Byte} {s : State} (st : Status)
    (f : Standing → Standing) (hw : (Instr.denyAdd a tag cardId reason action).wf = true) (h : s.canAnswer a)
    (hx : runDenyAdd cardId reason action (s.onArrival a.port) = ⟨st, .nothing, (s.onArrival a.port).onStanding f⟩) :
    exec (.denyAdd a tag cardId reason action) s = .next (follow
      { s with standing := f s.standing, line := s.line.answered s.params a.port ⟨9, tag, st, .nothing⟩ false }) := by
  have hfits : fits 5 cardId = true := ((Bool.and_eq_true ..).mp hw).2
  have hanswered := effect_arriveCommand_answered hw h (parseBody_denyAdd tag reason action hfits) hx rfl
  exact (exec_denyAdd ..).trans hanswered

/-- R29: a DENY-DROP is answered, and of the rest of the part nothing but the standing lists changes. -/
theorem exec_denyDrop_answered {a : Arrival} {tag : Byte} {cardId : Nat} {s : State} (st : Status)
    (f : Standing → Standing) (hw : (Instr.denyDrop a tag cardId).wf = true) (h : s.canAnswer a)
    (hx : runDenyDrop cardId (s.onArrival a.port) = ⟨st, .nothing, (s.onArrival a.port).onStanding f⟩) :
    exec (.denyDrop a tag cardId) s = .next (follow
      { s with standing := f s.standing, line := s.line.answered s.params a.port ⟨10, tag, st, .nothing⟩ false }) := by
  have hfits : fits 5 cardId = true := ((Bool.and_eq_true ..).mp hw).2
  have hanswered := effect_arriveCommand_answered hw h (parseBody_denyDrop tag hfits) hx rfl
  exact (exec_denyDrop ..).trans hanswered

theorem denyReasonOf_eq_none {b : Byte} (h : 4 < b.toNat) : denyReasonOf b = none := by
  unfold denyReasonOf
  obtain ⟨n, hn⟩ := Nat.exists_eq_add_of_le' h
  rw [hn]
  rfl

theorem denyActionOf_eq_none {b : Byte} (h : 1 < b.toNat) : denyActionOf b = none := by
  unfold denyActionOf
  obtain ⟨n, hn⟩ := Nat.exists_eq_add_of_le' h
  rw [hn]
  rfl

theorem namesCard_iff (cardId : Nat) : namesCard cardId = true ↔ 1 ≤ cardId ∧ cardId < 2 ^ 40 - 1 := by
  simp [namesCard, Config.noCard, Nat.one_le_iff_ne_zero, Nat.pos_iff_ne_zero]

/-- R29: DENY-ADD with an undefined Reason or Action, or with a CardId that names no card. -/
theorem runDenyAdd_refused {cardId : Nat} {reason action : Byte} (s : State)
    (h : 4 < reason.toNat ∨ 1 < action.toNat ∨ cardId = 0 ∨ cardId = 2 ^ 40 - 1) :
    runDenyAdd cardId reason action s = unchanged .refusedValue s := by
  unfold runDenyAdd
  split
  next r k hr hk =>
    obtain hbad | hbad | hcard := h
    · simp [denyReasonOf_eq_none hbad] at hr
    · simp [denyActionOf_eq_none hbad] at hk
    · have hno : namesCard cardId = false := by
        rw [Bool.eq_false_iff, ne_eq, namesCard_iff]
        omega
      rw [if_pos hno]
  next => rfl

/-- R29: a new entry for a full list is answered FULL. -/
theorem runDenyAdd_full {cardId : Nat} {reason action : Byte} {r : DenyReason} {k : DenyAction} {s : State}
    (hr : denyReasonOf reason = some r) (hk : denyActionOf action = some k) (hc : namesCard cardId = true)
    (hnone : s.denied cardId = none) (hfull : Config.denyCapacity ≤ s.standing.deny.length) :
    runDenyAdd cardId reason action s = unchanged .full s := by
  simp [runDenyAdd, hr, hk, hc, hnone, Nat.not_lt.mpr hfull]

/-- R29: an entry that is present is replaced, and a new one joins a list with room. -/
theorem runDenyAdd_put {cardId : Nat} {reason action : Byte} {r : DenyReason} {k : DenyAction} {s : State}
    (hr : denyReasonOf reason = some r) (hk : denyActionOf action = some k) (hc : namesCard cardId = true)
    (hroom : (s.denied cardId).isSome = true ∨ s.standing.deny.length < Config.denyCapacity) :
    runDenyAdd cardId reason action s = ⟨.done, .nothing, putDeny ⟨cardId, r, .head, k⟩ s⟩ := by
  simp [runDenyAdd, hr, hk, hc, hroom]

/-- R29: DENY-DROP of a card that has no entry. -/
theorem runDenyDrop_absent {cardId : Nat} {s : State} (h : s.denied cardId = none) :
    runDenyDrop cardId s = unchanged .absent s := by simp [runDenyDrop, h]

/-- R29: DENY-DROP of a card that has an entry, whatever its Origin. -/
theorem runDenyDrop_found {cardId : Nat} {s : State} (h : (s.denied cardId).isSome = true) :
    runDenyDrop cardId s =
      ⟨.done, .nothing, s.onStanding fun t => { t with deny := dropBy DenyEntry.cardId cardId t.deny }⟩ := if_pos h

/-- Settles O29. Each answer is an instance of `exec_denyAdd_answered` or `exec_denyDrop_answered`; the list is `putBy` or
`dropBy` of the one that stood. -/
theorem denyListIsKeptByTheLineHead : Obligations.DenyListIsKeptByTheLineHead := by
  unfold Obligations.DenyListIsKeptByTheLineHead
  constructor
  · intro a tag cardId reason action s hw h
    constructor
    · intro hbad
      exact exec_denyAdd_answered .refusedValue id hw h (runDenyAdd_refused _ hbad)
    · intro r k hr hk hlow hhigh
      have hcard : namesCard cardId = true := (namesCard_iff cardId).mpr ⟨hlow, hhigh⟩
      constructor
      · intro hnone hfull
        exact exec_denyAdd_answered .full id hw h (runDenyAdd_full hr hk hcard hnone hfull)
      · intro hroom
        have hdone := exec_denyAdd_answered .done _ hw h (runDenyAdd_put hr hk hcard hroom)
        exact ⟨_, hdone, ascending_putBy _ _, fun c => findBy_putBy ..⟩
  · intro a tag cardId s hw h
    constructor
    · intro hnone
      exact exec_denyDrop_answered .absent id hw h (runDenyDrop_absent hnone)
    · intro hfound
      have hdone := exec_denyDrop_answered .done _ hw h (runDenyDrop_found hfound)
      exact ⟨_, hdone, ascending_dropBy _ _, fun c => findBy_dropBy ..⟩

end Sys2Proof.Machine

/-! PROOFS. A crossing is judged by the first line of R118's table that applies: what the operations on the flaps, the grant and the
credits leave of the lane's accounts, what each line of the table does, and O53. -/

namespace Sys2Proof.Machine

open Sys2Proof

/-! ### The lane's accounts: credits, counts, free crossings, tally and close delay -/

@[simp] theorem startMotion_accounts (f : Flap) (s : State) :
    (startMotion f s).lane.credits = s.lane.credits ∧ (startMotion f s).lane.counts = s.lane.counts ∧
    (startMotion f s).lane.freeCount = s.lane.freeCount ∧ (startMotion f s).lane.tally = s.lane.tally ∧
    (startMotion f s).lane.closeTimer = s.lane.closeTimer := by
  simp [startMotion]

@[simp] theorem openTest_accounts (s : State) :
    (openTest s).lane.credits = s.lane.credits ∧ (openTest s).lane.counts = s.lane.counts ∧
    (openTest s).lane.freeCount = s.lane.freeCount ∧ (openTest s).lane.tally = s.lane.tally ∧
    (openTest s).lane.closeTimer = s.lane.closeTimer := by
  simp only [openTest]
  repeat' split
  all_goals simp

@[simp] theorem closeTest_accounts (s : State) :
    (closeTest s).lane.credits = s.lane.credits ∧ (closeTest s).lane.counts = s.lane.counts ∧
    (closeTest s).lane.freeCount = s.lane.freeCount ∧ (closeTest s).lane.tally = s.lane.tally ∧
    (closeTest s).lane.closeTimer = s.lane.closeTimer := by
  unfold closeTest
  split <;> simp

@[simp] theorem arbitrate_accounts (s : State) :
    (arbitrate s).lane.credits = s.lane.credits ∧ (arbitrate s).lane.counts = s.lane.counts ∧
    (arbitrate s).lane.freeCount = s.lane.freeCount ∧ (arbitrate s).lane.tally = s.lane.tally ∧
    (arbitrate s).lane.closeTimer = s.lane.closeTimer := by
  unfold arbitrate
  split <;> simp

@[simp] theorem releaseTest_accounts (s : State) :
    (releaseTest s).lane.credits = s.lane.credits ∧ (releaseTest s).lane.counts = s.lane.counts ∧
    (releaseTest s).lane.freeCount = s.lane.freeCount ∧ (releaseTest s).lane.tally = s.lane.tally ∧
    (releaseTest s).lane.closeTimer = s.lane.closeTimer := by
  simp only [releaseTest]
  repeat' split
  all_goals simp

/-- R119: the tests after a credit has left its queue move flaps and grant alone. -/
@[simp] theorem creditLeft_accounts (d : Direction) (s : State) :
    (creditLeft d s).lane.credits = s.lane.credits ∧ (creditLeft d s).lane.counts = s.lane.counts ∧
    (creditLeft d s).lane.freeCount = s.lane.freeCount ∧ (creditLeft d s).lane.tally = s.lane.tally ∧
    (creditLeft d s).lane.closeTimer = s.lane.closeTimer := by
  unfold creditLeft
  split <;> simp

@[simp] theorem Lane.toggleTally_accounts (d : Direction) (l : Lane) :
    (l.toggleTally d).credits = l.credits ∧ (l.toggleTally d).counts = l.counts ∧
    (l.toggleTally d).freeCount = l.freeCount ∧ (l.toggleTally d).tally = l.tally ∧
    (l.toggleTally d).closeTimer = l.closeTimer ∧ (l.toggleTally d).grant = l.grant := by
  cases d <;> simp [Lane.toggleTally]

/-- R146: the head step that is begun stays in the queue until its gap has passed. -/
@[simp] theorem Lane.beginTally_accounts (gap : Nat) (l : Lane) :
    (l.beginTally gap).credits = l.credits ∧ (l.beginTally gap).counts = l.counts ∧
    (l.beginTally gap).freeCount = l.freeCount ∧ (l.beginTally gap).tally = l.tally ∧
    (l.beginTally gap).closeTimer = l.closeTimer ∧ (l.beginTally gap).grant = l.grant := by
  unfold Lane.beginTally
  split <;> simp

/-! ### The tally's overflow flag -/

@[simp] theorem sendCopy_tallyOverflow (p : LinePort) (f : Frame) (s : State) :
    (sendCopy p f s).mgmt.flags.tallyOverflow = s.mgmt.flags.tallyOverflow := by
  simp only [sendCopy]
  repeat' split
  all_goals simp [setSendDrop]

@[simp] theorem event_tallyOverflow (e : Event) (s : State) :
    (event e s).mgmt.flags.tallyOverflow = s.mgmt.flags.tallyOverflow := by
  simp only [event]
  split <;> simp

@[simp] theorem fullEvent_tallyOverflow (free : Nat) (s : State) :
    (fullEvent free s).mgmt.flags.tallyOverflow = s.mgmt.flags.tallyOverflow := by
  unfold fullEvent
  split <;> simp

@[simp] theorem appendRecord_tallyOverflow (take : Journal → Journal) (c : Content) (s : State) :
    (appendRecord take c s).mgmt.flags.tallyOverflow = s.mgmt.flags.tallyOverflow := by
  simp only [appendRecord]
  split <;> simp

@[simp] theorem appendReserve_tallyOverflow (c : Content) (s : State) :
    (appendReserve c s).mgmt.flags.tallyOverflow = s.mgmt.flags.tallyOverflow := by
  unfold appendReserve
  split <;> simp

@[simp] theorem pay_tallyOverflow (d : Direction) (long : Bool) (c : Credit) (rest : List Credit) (s : State) :
    (pay d long c rest s).mgmt.flags.tallyOverflow = s.mgmt.flags.tallyOverflow := by
  simp only [pay]
  repeat' split
  all_goals simp [tailgate]

@[simp] theorem judgeCrossing_tallyOverflow (d : Direction) (long : Bool) (s : State) :
    (judgeCrossing d long s).mgmt.flags.tallyOverflow = s.mgmt.flags.tallyOverflow := by
  simp only [judgeCrossing]
  repeat' split
  all_goals simp [intrusion]

/-! ### The records of crossings -/

/-- R154: a reserve record joins the tail while a slot is free. -/
@[simp] theorem appendReserve_records (c : Content) (s : State) :
    (appendReserve c s).journal.records
      = s.journal.records ++ if 1 ≤ s.journal.free then [s.recordOf c] else [] := by
  unfold appendReserve
  split
  · rw [appendRecord_journal]
    rfl
  · simp [setJournalOverflow]

@[simp] theorem intrusion_records (d : Option Direction) (r : IntrusionReason) (s : State) :
    (intrusion d r s).journal.records = s.journal.records ++
      if 1 ≤ s.journal.free then [s.recordOf { kind := .intrusion, direction := d, reason := some (.intrusion r) }]
      else [] := by
  simp [intrusion]

@[simp] theorem tailgate_records (d : Direction) (cardId : Nat) (s : State) :
    (tailgate d cardId s).journal.records = s.journal.records ++
      if 1 ≤ s.journal.free then [s.recordOf { kind := .tailgate, direction := some d, cardId := some cardId }]
      else [] := by
  simp [tailgate]

@[simp] theorem State.onLane_recordOf (f : Lane → Lane) (s : State) (c : Content) :
    (s.onLane f).recordOf c = s.recordOf c := rfl

/-! ### Before the judgement: the close delay and the tally step -/

/-- R118: the state in which a crossing is judged. -/
def crossingBegun (d : Direction) (s : State) : State := tallyStep d (startCloseDelay s)

theorem crossing_eq_judge (d : Direction) (long : Bool) (s : State) :
    crossing d long s = judgeCrossing d long (crossingBegun d s) := rfl

/-- R145: the step joins the queue while it has room. -/
theorem tallyStep_tally (d : Direction) (s : State) :
    (tallyStep d s).lane.tally = if s.lane.tally.length < 16 then s.lane.tally ++ [d] else s.lane.tally := by
  unfold tallyStep
  split <;> simp

/-- R145: a step that finds the queue full sets TALLY_OVERFLOW. -/
theorem tallyStep_overflow (d : Direction) (s : State) (h : 16 ≤ s.lane.tally.length) :
    (tallyStep d s).mgmt.flags.tallyOverflow = true := by
  rw [tallyStep, if_neg (Nat.not_lt.mpr h)]
  rfl

@[simp] theorem tallyStep_accounts (d : Direction) (s : State) :
    (tallyStep d s).lane.credits = s.lane.credits ∧ (tallyStep d s).lane.counts = s.lane.counts ∧
    (tallyStep d s).lane.freeCount = s.lane.freeCount ∧ (tallyStep d s).lane.closeTimer = s.lane.closeTimer ∧
    (tallyStep d s).lane.grant = s.lane.grant := by
  unfold tallyStep
  split <;> simp

@[simp] theorem tallyStep_recordOf (d : Direction) (s : State) (c : Content) :
    (tallyStep d s).recordOf c = s.recordOf c := by
  unfold tallyStep
  split <;> rfl

/-- What the judgement reads stands as it stood before the crossing. -/
@[simp] theorem crossingBegun_keeps (d : Direction) (s : State) :
    (crossingBegun d s).lane.credits = s.lane.credits ∧ (crossingBegun d s).lane.counts = s.lane.counts ∧
    (crossingBegun d s).lane.freeCount = s.lane.freeCount ∧ (crossingBegun d s).lane.grant = s.lane.grant ∧
    (crossingBegun d s).lane.eff = s.lane.eff ∧ (crossingBegun d s).journal = s.journal := by
  simp [crossingBegun, startCloseDelay]

@[simp] theorem crossingBegun_recordOf (d : Direction) (s : State) (c : Content) :
    (crossingBegun d s).recordOf c = s.recordOf c := by
  simp [crossingBegun, startCloseDelay]

/-- The judgement of a crossing leaves the close delay and the tally. -/
@[simp] theorem judgeCrossing_tally (d : Direction) (long : Bool) (s : State) :
    (judgeCrossing d long s).lane.tally = s.lane.tally ∧
    (judgeCrossing d long s).lane.closeTimer = s.lane.closeTimer := by
  simp only [judgeCrossing, pay]
  repeat' split
  all_goals simp [freeCrossing, Lane.consume]

theorem crossing_closeTimer (d : Direction) (long : Bool) (s : State) :
    (crossing d long s).lane.closeTimer = some s.params.closeDelay := by
  simp [crossing, startCloseDelay]

theorem crossing_tally (d : Direction) (long : Bool) (s : State) :
    (crossing d long s).lane.tally = if s.lane.tally.length < 16 then s.lane.tally ++ [d] else s.lane.tally := by
  rw [crossing, (judgeCrossing_tally ..).1, tallyStep_tally]
  rfl

theorem crossing_tallyOverflow (d : Direction) (long : Bool) (s : State) (h : 16 ≤ s.lane.tally.length) :
    (crossing d long s).mgmt.flags.tallyOverflow = true := by
  rw [crossing, judgeCrossing_tallyOverflow]
  exact tallyStep_overflow d _ h

/-! ### The lines of R118's table -/

theorem Mode.holdsOpen_iff (m : Mode) : m.holdsOpen = true ↔ m = .freeExit ∨ m = .fault := by
  cases m <;> simp [Mode.holdsOpen]

/-- The first line: FREE_EXIT and FAULT. -/
theorem crossing_of_holdsOpen (d : Direction) (long : Bool) {s : State} (h : s.lane.eff.holdsOpen = true) :
    crossing d long s = freeCrossing (crossingBegun d s) := by
  simp [crossing_eq_judge, judgeCrossing, h]

section
variable {d : Direction} {s : State} (hm : s.lane.eff.holdsOpen = false)
include hm

/-- The second line: no grant. -/
theorem crossing_of_noGrant (long : Bool) (hg : s.lane.grant = none) :
    crossing d long s = intrusion (some d) .noCredit (crossingBegun d s) := by
  simp [crossing_eq_judge, judgeCrossing, hm, hg]

/-- The third line: against the grant. -/
theorem crossing_of_otherGrant (long : Bool) (hg : s.lane.grant = some (otherDirection d)) :
    crossing d long s = intrusion (some d) .counterflow (crossingBegun d s) := by
  simp [crossing_eq_judge, judgeCrossing, hm, hg]

/-- The fourth line: with the grant and no credit. -/
theorem crossing_of_noCredit (long : Bool) (hg : s.lane.grant = some d) (hc : s.lane.credits.get d = []) :
    crossing d long s = intrusion (some d) .noCredit (crossingBegun d s) := by
  simp [crossing_eq_judge, judgeCrossing, hm, hg, hc]

/-- The last line: with the grant and a credit at the head. -/
theorem crossing_of_credit (long : Bool) {c : Credit} {rest : List Credit} (hg : s.lane.grant = some d)
    (hc : s.lane.credits.get d = c :: rest) :
    crossing d long s = pay d long c rest (crossingBegun d s) := by
  simp [crossing_eq_judge, judgeCrossing, hm, hg, hc]

end

/-! ### What each line does -/

/-- R121: an intrusion leaves the accounts and asks for its record. -/
theorem intrusion_crossingBegun (d : Direction) (r : IntrusionReason) (s : State) :
    let t := intrusion (some d) r (crossingBegun d s)
    (t.lane.credits = s.lane.credits ∧ t.lane.counts = s.lane.counts) ∧ t.lane.freeCount = s.lane.freeCount
      ∧ t.journal.records = s.journal.records ++
        if 1 ≤ s.journal.free then
          [s.recordOf { kind := .intrusion, direction := some d, reason := some (.intrusion r) }]
        else [] := by
  simp

/-- R119: a credit is consumed off the head of its queue. -/
@[simp] theorem Lane.consume_credits (d : Direction) (l : Lane) :
    (l.consume d).credits = l.credits.put d (l.credits.get d).tail := rfl

@[simp] theorem Lane.consume_counts (d : Direction) (l : Lane) :
    (l.consume d).counts = l.counts.put d { l.counts.get d with consumed := (l.counts.get d).consumed + 1 } := rfl

/-- R119: a crossing that is not Long consumes the head credit. -/
theorem pay_single (d : Direction) (c : Credit) (rest : List Credit) (s : State) :
    (pay d false c rest s).lane.credits = (s.lane.consume d).credits ∧
    (pay d false c rest s).lane.counts = (s.lane.consume d).counts ∧
    (pay d false c rest s).journal = s.journal := by
  simp [pay]

/-- R120: a Long crossing consumes a second credit when there is one. -/
theorem pay_long_two (d : Direction) (c c' : Credit) (rest : List Credit) (s : State) :
    (pay d true c (c' :: rest) s).lane.credits = ((s.lane.consume d).consume d).credits ∧
    (pay d true c (c' :: rest) s).lane.counts = ((s.lane.consume d).consume d).counts ∧
    (pay d true c (c' :: rest) s).journal = s.journal := by
  simp [pay]

/-- R120: a Long crossing that finds one credit is a tailgate of its card. -/
theorem pay_long_one (d : Direction) (c : Credit) (s : State) :
    (pay d true c [] s).lane.credits = (s.lane.consume d).credits ∧
    (pay d true c [] s).lane.counts = (s.lane.consume d).counts ∧
    (pay d true c [] s).journal.records = s.journal.records ++
      if 1 ≤ s.journal.free then [s.recordOf { kind := .tailgate, direction := some d, cardId := some c.cardId }]
      else [] := by
  have hjournal : (pay d true c [] s).journal = (tailgate d c.cardId (s.onLane (Lane.consume d))).journal := by simp [pay]
  refine ⟨by simp [pay], by simp [pay], ?_⟩
  rw [hjournal]
  exact tailgate_records ..

/-- Settles O53. Each clause of the judgement is one of the lines `crossing_of_…`, with what that line does. -/
theorem crossingIsJudged : Obligations.CrossingIsJudged := by
  unfold Obligations.CrossingIsJudged
  intro d long s
  refine ⟨crossing_closeTimer d long s, crossing_tally d long s, crossing_tallyOverflow d long s, by simp, by simp,
    by simp, by simp, fun hopen => ?free, fun hfree hfault => ?judged⟩
  case free =>
    rw [crossing_of_holdsOpen d long ((Mode.holdsOpen_iff _).mpr hopen)]
    simp [freeCrossing]
  case judged =>
    have hm : s.lane.eff.holdsOpen = false := by simp [Bool.eq_false_iff, Mode.holdsOpen_iff, hfree, hfault]
    refine ⟨fun hg => ?noGrant, fun hg => ?against, fun hg => ⟨fun hc => ?noCredit, ?single, ?two, ?one⟩⟩
    case noGrant =>
      rw [crossing_of_noGrant hm long hg]
      exact intrusion_crossingBegun d .noCredit s
    case against =>
      rw [crossing_of_otherGrant hm long hg]
      exact intrusion_crossingBegun d .counterflow s
    case noCredit =>
      rw [crossing_of_noCredit hm long hg hc]
      exact intrusion_crossingBegun d .noCredit s
    case single =>
      rintro c rest hc rfl
      simp [crossing_of_credit hm false hg hc, pay_single, hc]
    case two =>
      rintro c c' rest hc rfl
      simp [crossing_of_credit hm true hg hc, pay_long_two, hc]
    case one =>
      rintro c hc rfl
      simp [crossing_of_credit hm true hg hc, pay_long_one, hc]

end Sys2Proof.Machine

/-! PROOFS. What a cold reset leaves of the line and of what was sent: the line as it starts with the links the pins give, and, past
what was sent before, the frames cut off and the first commands of the sensor port; and O6. -/

namespace Sys2Proof.Machine

open Sys2Proof

/-! ### The frames in transmission are cut off -/

theorem cutOff_sent (p : LinePort) (s : State) :
    (cutOff p s).sent = (s.line.tx.get p).toList.map (fun b => .cutOff p b.frame) ++ s.sent := by
  unfold cutOff
  split <;> simp [*]

@[simp] theorem cutOffAll_pins (s : State) : (cutOffAll s).pins = s.pins := by simp [cutOffAll]

/-- R181: one message for each frame in transmission. -/
theorem cutOffAll_sent (s : State) :
    (cutOffAll s).sent = s.line.tx.down.toList.map (fun b => .cutOff .down b.frame)
      ++ (s.line.tx.up.toList.map (fun b => .cutOff .up b.frame) ++ s.sent) := by
  simp [cutOffAll, cutOff_sent, ByLine.get]

/-- No frame counts as sent because a transmission was cut off. -/
theorem frame_mem_cutOffAll_sent (p : LinePort) (f : Frame) (s : State) :
    Sent.frame p f ∈ (cutOffAll s).sent ↔ Sent.frame p f ∈ s.sent := by
  simp [cutOffAll_sent]

theorem cutOff_mem_cutOffAll_sent {p : LinePort} {b : Buffered} {s : State} (h : s.line.tx.get p = some b) :
    Sent.cutOff p b.frame ∈ (cutOffAll s).sent := by
  rw [cutOffAll_sent]
  cases p with
  | up =>
    have hup : s.line.tx.up = some b := h
    simp [hup]
  | down =>
    have hdown : s.line.tx.down = some b := h
    simp [hdown]

/-! ### The part starts to work -/

/-- R87: the DRIVEs read the records alone. -/
@[simp] theorem sendDrives_keeps (s : State) :
    (sendDrives s).line = s.line ∧ (sendDrives s).params = s.params ∧ (sendDrives s).beam = s.beam := by
  simp [sendDrives]

theorem sendDrives_sent (s : State) :
    (sendDrives s).sent = ([6, 5, 4, 3, 2, 1].map fun i => .drive i (s.record i).drive) ++ s.sent := by
  simp [sendDrives, State.record]

theorem sendSample_sent (s : State) : (sendSample s).sent = .sample (nextTag s.beam.senseTag) :: s.sent := rfl

@[simp] theorem startWork_keeps (nextCreditNo : Nat) (s : State) :
    (startWork nextCreditNo s).line = s.line ∧ (startWork nextCreditNo s).params = s.params := by
  simp [startWork]

/-- R85, R87: a part that starts to work sends the DRIVEs and the first SAMPLE. -/
theorem startWork_sent (nextCreditNo : Nat) (s : State) :
    (startWork nextCreditNo s).sent = .sample (nextTag s.beam.senseTag)
      :: ([6, 5, 4, 3, 2, 1].map fun i => .drive i (s.record i).drive) ++ s.sent := by
  simp [startWork, sendSample_sent, sendDrives_sent, State.record]

/-! ### The cold reset -/

/-- R181, R194: the line stands as it starts, with the links that the pins give. -/
@[simp] theorem coldReset_line (s : State) : (coldReset s).line = { link := s.pins.link } := by
  simp only [coldReset]
  split <;> simp [coldValues]

@[simp] theorem coldReset_params (s : State) : (coldReset s).params = {} := by
  simp only [coldReset]
  split <;> simp [coldValues, State.reset]

/-- R194: past the frames cut off, a cold reset sends what a part that starts to work sends, and nothing while RESET is asserted. -/
theorem coldReset_sent (s : State) :
    (coldReset s).sent = (if s.pins.reset then [] else coldSent) ++ (cutOffAll s).sent := by
  simp only [coldReset]
  split
  · rfl
  · rw [startWork_sent]
    rfl

/-- R181: no frame is sent because of a cold reset. -/
theorem frame_mem_coldReset_sent (p : LinePort) (f : Frame) (s : State) :
    Sent.frame p f ∈ (coldReset s).sent ↔ Sent.frame p f ∈ s.sent := by
  have hstart : Sent.frame p f ∉ (if s.pins.reset then [] else coldSent) := by
    split <;> simp [coldSent]
  rw [coldReset_sent, List.mem_append, or_iff_right hstart, frame_mem_cutOffAll_sent]

/-- R181: the neighbour receives what was in transmission incomplete. -/
theorem cutOff_mem_coldReset_sent {p : LinePort} {b : Buffered} {s : State} (h : s.line.tx.get p = some b) :
    Sent.cutOff p b.frame ∈ (coldReset s).sent := by
  rw [coldReset_sent]
  exact List.mem_append_right _ (cutOff_mem_cutOffAll_sent h)

/-- Power-on and the assertion of RESET both reset the part cold, and leave the link detect inputs. -/
theorem exec_coldReset_of_ne_pinReleased {cause : ResetCause} (s : State) (h : cause ≠ .pinReleased) :
    ∃ q : Pins, q.link = s.pins.link ∧ exec (.coldReset cause) s = .next (coldReset (s.onPins fun _ => q)) := by
  rw [exec_coldReset]
  cases cause with
  | powerOn => exact ⟨s.pins, rfl, rfl⟩
  | pinAsserted => exact ⟨{ s.pins with reset := true }, rfl, rfl⟩
  | pinReleased => exact absurd rfl h

/-- Settles O6. The line's values are those of `coldReset_line`; the rest is what a cold reset leaves of what was sent. -/
theorem coldResetEmptiesTheLine : Obligations.ColdResetEmptiesTheLine := by
  unfold Obligations.ColdResetEmptiesTheLine
  intro cause s _ hcause
  obtain ⟨q, hlink, hexec⟩ := exec_coldReset_of_ne_pinReleased s hcause
  refine ⟨_, hexec, ?_⟩
  rw [coldReset_line, coldReset_params, State.onPins_pins, hlink]
  refine ⟨rfl, rfl, rfl, rfl, rfl, rfl, rfl, rfl, rfl, rfl, rfl, rfl, rfl, rfl, ?noFrame, ?cutOff⟩
  case noFrame => exact fun p f => frame_mem_coldReset_sent p f _
  case cutOff => exact fun p b hb => cutOff_mem_coldReset_sent hb

end Sys2Proof.Machine

/-! PROOFS. Mgmt.FreshStart (R190): cleared by ACK-START, set by every reset, and reported by QUERY; and O32. -/

namespace Sys2Proof.Machine

open Sys2Proof

/-! ### The resets make Mgmt.FreshStart SET -/

/-- A part that starts to work has the flags, the event number and the clock that its reset left. -/
@[simp] theorem startWork_mgmt (nextCreditNo : Nat) (s : State) : (startWork nextCreditNo s).mgmt = s.mgmt := by
  simp [startWork, sendDrives]

/-- R194: the Management Unit has its cold values, whether or not the part starts to work. -/
@[simp] theorem coldReset_mgmt (s : State) : (coldReset s).mgmt = State.reset.mgmt := by
  simp only [coldReset]
  split
  case isTrue => rfl
  case isFalse => exact startWork_mgmt ..

/-- R193: of the Management Unit a warm reset keeps the clock, its age and the event number, and not this flag. -/
theorem warmReset_freshStart (s : State) : (warmReset s).mgmt.freshStart = true := by
  rw [warmReset, startWork_mgmt]
  rfl

/-- R194: a reset by any cause resets the part cold; the release of the RESET pin does so when the pin was asserted. -/
theorem exec_coldReset_next {cause : ResetCause} {s : State} (h : cause = .pinReleased → s.pins.reset = true) :
    ∃ u, exec (.coldReset cause) s = .next (coldReset u) := by
  rw [exec_coldReset]
  cases cause with
  | powerOn => exact ⟨_, rfl⟩
  | pinAsserted => exact ⟨_, rfl⟩
  | pinReleased =>
    simp only [h rfl, if_true]
    exact ⟨_, rfl⟩

/-- R192, R193: the warm reset that is due happens, in a part whose RESET pin is released. -/
theorem exec_warmReset_due {s : State} (hr : s.pins.reset = false) (hd : s.restartDue = true) :
    exec .warmReset s = .next (follow (warmReset s)) := by
  rw [exec_warmReset]
  exact effect_some rfl hr (if_pos hd)

/-! ### ACK-START -/

/-- Section 11.2: ACK-START reads back from its payload, which is its Tag alone. -/
theorem parseBody_ackStart (tag : Byte) :
    parseBody LineCommand.ackStart.kind (tag :: LineCommand.ackStart.fields) = .command tag .ackStart := rfl

/-- Settles O32. ACK-START is a line command answered as any other, the resets leave the flag as `coldReset_mgmt` and
`warmReset_freshStart` say, and the snapshot copies it. -/
theorem ackStartClearsFreshStart : Obligations.AckStartClearsFreshStart := by
  unfold Obligations.AckStartClearsFreshStart
  refine ⟨fun a tag s hw h => ?ack, fun cause s hcause => ?cold, fun s hr hd => ?warm, fun s => rfl⟩
  case ack =>
    have hanswered := effect_arriveCommand_answered hw h (parseBody_ackStart tag) rfl rfl
    exact (exec_ackStart ..).trans hanswered
  case cold =>
    obtain ⟨u, hu⟩ := exec_coldReset_next hcause
    exact ⟨_, hu, congrArg Mgmt.freshStart (coldReset_mgmt u)⟩
  case warm =>
    exact ⟨_, exec_warmReset_due hr hd, by simpa using warmReset_freshStart s⟩

end Sys2Proof.Machine

/-! PROOFS. What every operation of the part keeps, whatever state it finds: `Sound s t` says of a state `t` that came of a state `s`
that each invariant that held of `s` holds of `t`, and that the queue of waiting commands stands. It is reflexive and transitive, so each
operation's lemma cites those of the operations it is made of; `Sound s (f t)` follows from `Sound s t`. -/

namespace Sys2Proof.Machine

open Sys2Proof

/-! ### The invariants, block by block -/

/-- R2, R9: the Tags of the card ports and of the proof port. -/
def Dialogs.tagsInRange (d : Dialogs) : Prop := (∀ p, tagInRange (d.port.get p).tag) ∧ tagInRange d.proofTag

/-- Section 5.5: the sensor's numbers, and the list of bodies within its capacity. -/
def Beams.inBounds (b : Beams) : Prop := b.inRange ∧ b.bodies.length ≤ Config.bodyCapacity

/-- R109, R134, R138, R145: the lane's numbers and the tally queue. -/
def Lane.inBounds (l : Lane) : Prop :=
  l.tally.length ≤ Config.tallyCapacity ∧ l.nextCreditNo ≤ 65535 ∧ l.freeCount ≤ 65535 ∧ l.faultBeams ≤ 6

/-- R147: the journal's numbering. -/
def Journal.inBounds (j : Journal) : Prop := (1 ≤ j.nextSeq ∧ j.nextSeq ≤ 4294967295) ∧ j.numbered

/-- R195, R197: the event number and the clock. -/
def Mgmt.inBounds (m : Mgmt) : Prop := m.eventNo ≤ 65535 ∧ m.clock.time.inRange = true

/-- R79: the effective time of a switch. -/
def Tariff.inBounds (t : Tariff) : Prop := ∀ r, t.switchAt = some r → r.inRange = true

/-- R172, R173: the quotas and the HOLD outputs. -/
def LineIf.inBounds (l : LineIf) : Prop := l.quotasHold ∧ l.holdAgrees

/-- The invariants of the statements `StepsKeepTheCreditAccount` to `StepsKeepCapacitiesAndNumbers`, each kept from `s` to `t`. -/
structure Sound (s t : State) : Prop where
  pending : t.pending = s.pending
  tags : s.dialog.tagsInRange → t.dialog.tagsInRange
  standing : s.standing.withinCapacity → t.standing.withinCapacity
  tariff : s.tariff.inBounds → t.tariff.inBounds
  beam : s.params.inRange → s.beam.inBounds → t.beam.inBounds
  numbers : s.lane.inBounds → t.lane.inBounds
  account : s.lane.accountHolds → t.lane.accountHolds
  served : s.lane.queuesServed → t.lane.queuesServed
  mode : s.lane.modeDerived → t.lane.modeDerived
  flaps : s.lane.flapsSafe → t.lane.flapsSafe
  journal : s.journal.inBounds → t.journal.inBounds
  line : s.line.inBounds → t.line.inBounds
  address : s.line.address ≤ 62 → t.line.address ≤ 62
  mgmt : s.mgmt.inBounds → t.mgmt.inBounds
  params : s.params.inRange → t.params.inRange

namespace Sound

variable {s t u : State}

@[simp, refl] theorem refl (s : State) : Sound s s := by constructor <;> simp

@[trans] theorem trans (h : Sound s t) (k : Sound t u) : Sound s u where
  pending := k.pending.trans h.pending
  tags := k.tags ∘ h.tags
  standing := k.standing ∘ h.standing
  tariff := k.tariff ∘ h.tariff
  beam q := k.beam (h.params q) ∘ h.beam q
  numbers := k.numbers ∘ h.numbers
  account := k.account ∘ h.account
  served := k.served ∘ h.served
  mode := k.mode ∘ h.mode
  flaps := k.flaps ∘ h.flaps
  journal := k.journal ∘ h.journal
  line := k.line ∘ h.line
  address := k.address ∘ h.address
  mgmt := k.mgmt ∘ h.mgmt
  params := k.params ∘ h.params

/-! ### A change of one block -/

theorem onDialog {f : Dialogs → Dialogs} (h : Sound s t) (hf : t.dialog.tagsInRange → (f t.dialog).tagsInRange) :
    Sound s (t.onDialog f) :=
  h.trans { refl t with tags := hf, beam := fun _ => id, pending := rfl }

theorem onStanding {f : Standing → Standing} (h : Sound s t)
    (hf : t.standing.withinCapacity → (f t.standing).withinCapacity) : Sound s (t.onStanding f) :=
  h.trans { refl t with standing := hf, beam := fun _ => id, pending := rfl }

theorem onTariff {f : Tariff → Tariff} (h : Sound s t) (hf : t.tariff.inBounds → (f t.tariff).inBounds) :
    Sound s (t.onTariff f) :=
  h.trans { refl t with tariff := hf, beam := fun _ => id, pending := rfl }

theorem onBeam {f : Beams → Beams} (h : Sound s t)
    (hf : t.params.inRange → t.beam.inBounds → (f t.beam).inBounds) : Sound s (t.onBeam f) :=
  h.trans { refl t with beam := hf, pending := rfl }

theorem onJournal {f : Journal → Journal} (h : Sound s t) (hf : t.journal.inBounds → (f t.journal).inBounds) :
    Sound s (t.onJournal f) :=
  h.trans { refl t with journal := hf, beam := fun _ => id, pending := rfl }

theorem onMgmt {f : Mgmt → Mgmt} (h : Sound s t) (hf : t.mgmt.inBounds → (f t.mgmt).inBounds) : Sound s (t.onMgmt f) :=
  h.trans { refl t with mgmt := hf, beam := fun _ => id, pending := rfl }

/-- A change of the line that leaves the buffers, their HOLD outputs and the address. -/
theorem onLine {f : LineIf → LineIf} (h : Sound s t) (hf : t.line.inBounds → (f t.line).inBounds)
    (ha : t.line.address ≤ 62 → (f t.line).address ≤ 62) : Sound s (t.onLine f) :=
  h.trans { refl t with line := hf, address := ha, beam := fun _ => id, pending := rfl }

/-- What a change of the lane has to keep. -/
structure LaneKept (l m : Lane) : Prop where
  numbers : l.inBounds → m.inBounds
  account : l.accountHolds → m.accountHolds
  served : l.queuesServed → m.queuesServed
  mode : l.modeDerived → m.modeDerived
  flaps : l.flapsSafe → m.flapsSafe

theorem onLane {f : Lane → Lane} (h : Sound s t) (hf : LaneKept t.lane (f t.lane)) : Sound s (t.onLane f) :=
  h.trans { refl t with
    numbers := hf.numbers, account := hf.account, served := hf.served, mode := hf.mode, flaps := hf.flaps
    beam := fun _ => id, pending := rfl }

@[simp] theorem onPins {f : Pins → Pins} (h : Sound s t) : Sound s (t.onPins f) :=
  h.trans { refl t with beam := fun _ => id, pending := rfl }

@[simp] theorem send {m : Sent} (h : Sound s t) : Sound s (t.send m) :=
  h.trans { refl t with beam := fun _ => id, pending := rfl }

@[simp] theorem onCtx {p : Port} {f : Context → Context} (h : Sound s t) : Sound s (t.onCtx p f) :=
  h.onDialog id

/-- A card port's Tag stays in its range. -/
@[simp] theorem onPort {p : Port} {f : PortLink → PortLink} (h : Sound s t) (hf : ∀ l, tagInRange l.tag → tagInRange (f l).tag) :
    Sound s (t.onPort p f) := by
  refine h.onDialog fun ⟨hport, hproof⟩ => ⟨fun q => ?_, hproof⟩
  rw [ByPort.get_put]
  split
  · exact hf _ (hport p)
  · exact hport q

end Sound

/-! ### The lane: changes that touch none of what an invariant reads -/

/-- A change of the lane's timers, tempo, flap-zone reading while the flaps do not close, and such. -/
theorem Sound.LaneKept.of_eq {l m : Lane} (htally : m.tally = l.tally) (hno : m.nextCreditNo = l.nextCreditNo)
    (hfree : m.freeCount = l.freeCount) (hfault : m.faultBeams = l.faultBeams) (hcredits : m.credits = l.credits)
    (hcounts : m.counts = l.counts) (hgrant : m.grant = l.grant) (heff : m.eff = l.eff) (hcmd : m.cmd = l.cmd)
    (hem : m.emergency = l.emergency) (hjam : m.jam = l.jam) (hflaps : l.flapsSafe → m.flapsSafe) : Sound.LaneKept l m := by
  constructor
  · simp [Lane.inBounds, *]
  · simp [Lane.accountHolds, *]
  · simp [Lane.queuesServed, *]
  · simp [Lane.modeDerived, Lane.derived, *]
  · exact hflaps

end Sys2Proof.Machine

/-! PROOFS. What the operations of sending, the journal, the card standing and the lane keep (`Sound`). -/

namespace Sys2Proof.Machine

open Sys2Proof

variable {s t : State}

/-! ### Buffers (R172, R173) -/

/-- R173: the HOLD outputs set from their counts agree with them. -/
theorem LineIf.holdAgrees_setHold (l : LineIf) : l.setHold.holdAgrees := by
  intro p
  have hlevel : l.setHold.holdOut.get p = holdLevel (l.count (.port p)) (l.holdOut.get p) := by cases p <;> rfl
  rw [hlevel, LineIf.count_setHold, holdLevel, Config.holdAssert, Config.holdRelease]
  split
  · simp
    omega
  · split <;> simp_all

/-- A change of the buffers' places that exceeds no quota. -/
theorem Sound.onBuffers {f : LineIf → LineIf} (h : Sound s t) (hq : t.line.quotasHold → (f t.line).quotasHold)
    (ha : (f t.line).address = t.line.address) : Sound s (t.onBuffers f) :=
  h.onLine (fun ⟨hquota, _⟩ => ⟨hq hquota, LineIf.holdAgrees_setHold _⟩) (fun hl => ha ▸ hl)

theorem LineIf.quotasHold_convertHead {l : LineIf} (hown : l.count .own < Config.localQuota) (h : l.quotasHold) :
    l.convertHead.quotasHold := by
  cases hheld : l.held with
  | nil => simpa [LineIf.convertHead, hheld] using h
  | cons e rest =>
    have hcount := fun q => LineIf.count_convertHead e rest q l hheld
    obtain ⟨hup, hdown, -⟩ := h
    refine ⟨?_, ?_, ?_⟩
    · have := hcount (.port .up)
      split at this
      · simp_all; omega
      · simp_all
    · have := hcount (.port .down)
      split at this
      · simp_all; omega
      · simp_all
    · have := hcount .own
      simp_all

theorem LineIf.quotasHold_joinLocal (p : LinePort) {b : Buffered} {l : LineIf} (hb : b.quota = .own)
    (hown : l.count .own < Config.localQuota) (h : l.quotasHold) :
    ({ l with localQ := l.localQ.put p (l.localQ.get p ++ [b]) } : LineIf).quotasHold := by
  obtain ⟨hup, hdown, -⟩ := h
  refine ⟨?_, ?_, ?_⟩ <;> rw [LineIf.count_joinLocal, hb] <;> simp_all

@[simp] theorem convertOne_sound (h : Sound s t) : Sound s (convertOne t) := by
  unfold convertOne
  split
  next hheld => exact h.onBuffers (LineIf.quotasHold_convertHead hheld.2) (by simp)
  next => exact h

@[simp] theorem convertWaiting_sound (h : Sound s t) : Sound s (convertWaiting t) :=
  convertOne_sound <| convertOne_sound <| convertOne_sound <| convertOne_sound h

/-! ### Flags, frames and events (R177, R188, R195) -/

theorem setOverrun_sound (h : Sound s t) : Sound s (setOverrun t) := h.onMgmt id
@[simp] theorem setSendDrop_sound (h : Sound s t) : Sound s (setSendDrop t) := h.onMgmt id
@[simp] theorem setDenyFull_sound (h : Sound s t) : Sound s (setDenyFull t) := h.onMgmt id
@[simp] theorem setTallyOverflow_sound (h : Sound s t) : Sound s (setTallyOverflow t) := h.onMgmt id
@[simp] theorem setJournalOverflow_sound (h : Sound s t) : Sound s (setJournalOverflow t) := h.onJournal id
@[simp] theorem clearFlags_sound (h : Sound s t) : Sound s (clearFlags t) := (h.onMgmt id).onJournal id

@[simp] theorem sendCopy_sound {p : LinePort} {f : Frame} (h : Sound s t) : Sound s (sendCopy p f t) := by
  simp only [sendCopy]
  split
  · exact h
  · split
    next hown => exact (convertWaiting_sound h).onBuffers (LineIf.quotasHold_joinLocal p rfl hown) rfl
    next => simp [h]

@[simp] theorem broadcast_sound {kind : Byte} {payload : List Byte} (h : Sound s t) : Sound s (broadcast kind payload t) := by
  simp [broadcast, h]

@[simp] theorem event_sound {e : Event} (h : Sound s t) : Sound s (event e t) := by
  simp only [event]
  split
  · refine sendCopy_sound (h.onMgmt fun ⟨_, hclock⟩ => ⟨?_, hclock⟩)
    simp only
    omega
  · exact h

@[simp] theorem broadcastSight_sound {r : Sighting} (h : Sound s t) : Sound s (broadcastSight r t) := by
  simp [broadcastSight, h]

@[simp] theorem broadcastSuspect_sound {cardId : Nat} (h : Sound s t) : Sound s (broadcastSuspect cardId t) := by
  simp [broadcastSuspect, h]

/-! ### The journal (R147) -/

theorem numberedUpTo_append (r : Record) :
    ∀ l : List Record, numberedUpTo r.seq l → numberedUpTo (nextSeqOf r.seq) (l ++ [r])
  | [], _ => rfl
  | [_], h => ⟨h, rfl⟩
  | _ :: _ :: rest, ⟨hseq, h⟩ => ⟨hseq, numberedUpTo_append r (_ :: rest) h⟩

theorem numberedUpTo_tail {next : Nat} : ∀ {l : List Record}, numberedUpTo next l → numberedUpTo next l.tail
  | [], h => h
  | [_], _ => trivial
  | _ :: _ :: _, ⟨_, h⟩ => h

theorem numberedUpTo_drop {next : Nat} {l : List Record} (n : Nat) (h : numberedUpTo next l) :
    numberedUpTo next (l.drop n) := by
  induction n with
  | zero => simpa using h
  | succ n ih =>
    rw [← List.tail_drop]
    exact numberedUpTo_tail ih

theorem Journal.inBounds_append (c : Content) (time : ServiceTime) (isolated stale : Bool) {j : Journal}
    (h : j.inBounds) : (j.append c time isolated stale).inBounds := by
  obtain ⟨⟨hlow, hhigh⟩, hnum⟩ := h
  refine ⟨?_, numberedUpTo_append ⟨j.nextSeq, time, isolated, stale || c.stale, c⟩ j.records hnum⟩
  simp only [Journal.append, nextSeqOf]
  split <;> omega

theorem Journal.inBounds_trim (n : Nat) {j : Journal} (h : j.inBounds) : (j.trim n).inBounds :=
  ⟨h.1, numberedUpTo_drop n h.2⟩

@[simp] theorem fullEvent_sound {n : Nat} (h : Sound s t) : Sound s (fullEvent n t) := by
  unfold fullEvent
  split <;> simp [h]

/-- A record is appended after its place has been freed. -/
theorem appendRecord_sound {take : Journal → Journal} {c : Content} (h : Sound s t)
    (htake : t.journal.inBounds → (take t.journal).inBounds) : Sound s (appendRecord take c t) := by
  have happend := h.onJournal (f := fun j => (take j).append c t.stamp (!t.line.connected) (t.clock.state != .good))
    fun hj => Journal.inBounds_append _ _ _ _ (htake hj)
  simp only [appendRecord]
  split <;> simp [happend]

@[simp] theorem appendReserved_sound {c : Content} (h : Sound s t) : Sound s (appendReserved c t) :=
  appendRecord_sound h id
@[simp] theorem appendHeld_sound {c : Content} (h : Sound s t) : Sound s (appendHeld c t) := appendRecord_sound h id

@[simp] theorem appendOpenRefusal_sound {c : Content} (h : Sound s t) : Sound s (appendOpenRefusal c t) := by
  unfold appendOpenRefusal
  split
  · exact appendRecord_sound h id
  · exact h

@[simp] theorem appendReserve_sound {c : Content} (h : Sound s t) : Sound s (appendReserve c t) := by
  unfold appendReserve
  split
  · exact appendRecord_sound h id
  · exact setJournalOverflow_sound h

@[simp] theorem reserveJournal_sound (h : Sound s t) : Sound s (reserveJournal t) := fullEvent_sound (h.onJournal id)
@[simp] theorem releaseJournal_sound {n : Nat} (h : Sound s t) : Sound s (releaseJournal n t) := h.onJournal id
@[simp] theorem holdSlot_sound (h : Sound s t) : Sound s (holdSlot t) := h.onJournal id
@[simp] theorem releaseHeld_sound (h : Sound s t) : Sound s (releaseHeld t) := h.onJournal id

/-! ### The deny list and the sighting table (R28 to R37) -/

/-- R29, R30: an entry put into a list that has its card's, or room. -/
theorem Standing.withinCapacity_putDeny {x : Standing} {e : DenyEntry}
    (hroom : (findBy DenyEntry.cardId e.cardId x.deny).isSome = true ∨ x.deny.length < Config.denyCapacity)
    (h : x.withinCapacity) : ({ x with deny := putBy DenyEntry.cardId e x.deny } : Standing).withinCapacity := by
  obtain ⟨horder, hlen, hrest⟩ := h
  refine ⟨ascending_putBy _ _ horder, ?_, hrest⟩
  rcases hroom with hfound | hroom
  · simpa [length_putBy_of_found _ e horder hfound] using hlen
  · exact (length_putBy_le ..).trans hroom

@[simp] theorem addFound_sound {o : DenyOrigin} {cardId : Nat} (h : Sound s t) : Sound s (addFound o cardId t) := by
  unfold addFound
  split
  · exact h
  · split
    next hroom => exact h.onStanding (Standing.withinCapacity_putDeny (.inr hroom))
    next => simp [h]

theorem Standing.withinCapacity_dropSighting {x : Standing} (cardId : Nat) (h : x.withinCapacity) :
    ({ x with sightings := dropBy Sighting.cardId cardId x.sightings } : Standing).withinCapacity := by
  obtain ⟨hdeny, hdenyLen, horder, hlen, hrecovery⟩ := h
  exact ⟨hdeny, hdenyLen, ascending_dropBy _ _ horder, (length_dropBy_le ..).trans hlen, hrecovery⟩

@[simp] theorem touch_sound {cardId : Nat} (h : Sound s t) : Sound s (touch cardId t) := by
  unfold touch
  repeat' split
  · exact h.onStanding (Standing.withinCapacity_dropSighting cardId)
  · exact h
  · exact h

theorem olderOf_eq (x y : Sighting) : olderOf x y = x ∨ olderOf x y = y := by
  unfold olderOf
  split <;> simp

theorem foldl_mem_of_choice {α : Type} (f : α → α → α) (h : ∀ x y, f x y = x ∨ f x y = y) :
    ∀ (l : List α) (x : α), l.foldl f x ∈ x :: l
  | [], x => by simp
  | y :: l, x => by
    have hmem := foldl_mem_of_choice f h l (f x y)
    rcases h x y with hxy | hxy <;> simp_all
    tauto

theorem oldestSighting_mem {l : List Sighting} {o : Sighting} (h : oldestSighting l = some o) : o ∈ l := by
  cases l with
  | nil => simp [oldestSighting] at h
  | cons x xs =>
    obtain rfl : xs.foldl olderOf x = o := by simpa [oldestSighting] using h
    exact foldl_mem_of_choice olderOf olderOf_eq xs x

/-- R33: the table keeps its order and its capacity as a record enters it. -/
theorem enterSighting_withinCapacity {r : Sighting} {l : List Sighting} (horder : ascending Sighting.cardId l)
    (hlen : l.length ≤ Config.sightingCapacity) :
    ascending Sighting.cardId (enterSighting r l) ∧ (enterSighting r l).length ≤ Config.sightingCapacity := by
  unfold enterSighting
  split
  next hroom =>
    refine ⟨ascending_putBy _ _ horder, ?_⟩
    rcases hroom with hfound | hroom
    · exact (length_putBy_of_found _ r horder hfound).trans_le hlen
    · exact (length_putBy_le ..).trans hroom
  next =>
    split
    next o ho =>
      refine ⟨ascending_putBy _ _ (ascending_dropBy _ _ horder), ?_⟩
      have hput := length_putBy_le Sighting.cardId r (dropBy Sighting.cardId o.cardId l)
      have hdrop := length_dropBy_lt Sighting.cardId (oldestSighting_mem ho)
      omega
    next hnone =>
      cases l with
      | nil => simp [ascending, putBy]
      | cons => simp [oldestSighting] at hnone

@[simp] theorem writeSighting_sound {r : Sighting} (h : Sound s t) : Sound s (writeSighting r t) :=
  h.onStanding fun ⟨hdeny, hdenyLen, horder, hlen, hrecovery⟩ =>
    have ⟨horder', hlen'⟩ := enterSighting_withinCapacity horder hlen
    ⟨hdeny, hdenyLen, horder', hlen', hrecovery⟩

@[simp] theorem writeAndBroadcast_sound {r : Sighting} (h : Sound s t) : Sound s (writeAndBroadcast r t) := by
  simp [writeAndBroadcast, h]

@[simp] theorem lapseReport_sound {cardId : Nat} {d : Direction} (h : Sound s t) : Sound s (lapseReport cardId d t) := by
  simp only [lapseReport]
  repeat' split
  all_goals simp [h]

@[simp] theorem sightConflict_sound {r : Sighting} (h : Sound s t) : Sound s (sightConflict r t) :=
  event_sound <| appendReserve_sound <| addFound_sound h

@[simp] theorem mergeSighting_sound {r : Sighting} (h : Sound s t) : Sound s (mergeSighting r t) := by
  simp only [mergeSighting]
  repeat' split
  all_goals simp [h]

@[simp] theorem takeSight_sound {x : SightPayload} (h : Sound s t) : Sound s (takeSight x t) := by
  unfold takeSight
  split <;> simp [h]

@[simp] theorem takeSuspect_sound {x : SuspectPayload} (h : Sound s t) : Sound s (takeSuspect x t) := by
  unfold takeSuspect
  split <;> simp [h]

@[simp] theorem appendClone_sound {p : Port} {c : Content} (h : Sound s t) : Sound s (appendClone p c t) := by
  unfold appendClone
  repeat' split
  · exact appendRecord_sound h id
  · simp [h]
  · simp [h]

@[simp] theorem cloneFinding_sound {p : Port} {cardId : Nat} {r : CloneReason} {n : Nat} {b : Int} (h : Sound s t) :
    Sound s (cloneFinding p cardId r n b t) :=
  event_sound <| broadcastSuspect_sound <| appendClone_sound <| addFound_sound h

/-! ### The recovery list (R38 to R40) and the in-flight set (R41) -/

@[simp] theorem removeRecovery_sound {e : RecoveryEntry} (h : Sound s t) : Sound s (removeRecovery e t) :=
  h.onStanding fun ⟨hdeny, hdenyLen, horder, hlen, hrecovery⟩ =>
    ⟨hdeny, hdenyLen, horder, hlen, List.length_erase_le.trans hrecovery⟩

@[simp] theorem resolveUnresolved_sound {e : RecoveryEntry} {r : UnresolvedReason} (h : Sound s t) :
    Sound s (resolveUnresolved e r t) :=
  event_sound <| removeRecovery_sound <| appendHeld_sound h

@[simp] theorem resolveRecovered_sound {e : RecoveryEntry} (h : Sound s t) : Sound s (resolveRecovered e t) :=
  writeAndBroadcast_sound <| removeRecovery_sound <| appendHeld_sound h

@[simp] theorem notApplied_sound {e : RecoveryEntry} (h : Sound s t) : Sound s (notApplied e t) := by
  simp [notApplied, h]

@[simp] theorem displace_sound (h : Sound s t) : Sound s (displace t) := by
  unfold displace
  repeat' split
  all_goals simp [h]

theorem soonerOf_eq (x y : RecoveryEntry) : soonerOf x y = x ∨ soonerOf x y = y := by
  unfold soonerOf
  split <;> simp

@[simp] theorem resolveUnresolved_recovery (e : RecoveryEntry) (r : UnresolvedReason) (s : State) :
    (resolveUnresolved e r s).standing.recovery = s.standing.recovery.erase e := by
  simp [resolveUnresolved, removeRecovery]

/-- R39: a full list has room once an entry has been displaced. -/
theorem displace_recovery_lt (h : s.standing.recovery.length ≤ Config.recoveryCapacity) :
    (displace s).standing.recovery.length < Config.recoveryCapacity := by
  unfold displace
  split
  · assumption
  · split
    next hroom _ hnil => exact absurd (by simp [hnil]) hroom
    next hroom _ x xs hcons =>
      have hmem : xs.foldl soonerOf x ∈ s.standing.recovery := hcons ▸ foldl_mem_of_choice _ soonerOf_eq xs x
      have hpos : 0 < s.standing.recovery.length := List.length_pos_of_mem hmem
      rw [resolveUnresolved_recovery, List.length_erase_of_mem hmem]
      omega

@[simp] theorem createRecovery_sound {e : RecoveryEntry} (h : Sound s t) : Sound s (createRecovery e t) := by
  refine h.trans { displace_sound (Sound.refl t) with
    beam := (displace_sound (Sound.refl t)).beam
    standing := fun hstanding => ?_ }
  obtain ⟨hdeny, hdenyLen, horder, hlen, -⟩ := (displace_sound (Sound.refl t)).standing hstanding
  refine ⟨hdeny, hdenyLen, horder, hlen, ?_⟩
  have hroom := displace_recovery_lt hstanding.2.2.2.2
  simp only [createRecovery, State.onStanding_standing, List.length_append, List.length_singleton]
  omega

@[simp] theorem joinInFlight_sound {p : Port} {cardId : Nat} (h : Sound s t) : Sound s (joinInFlight p cardId t) :=
  (h.onStanding id).onCtx

@[simp] theorem withdraw_sound {p : Port} (h : Sound s t) : Sound s (withdraw p t) := by
  unfold withdraw
  split
  · exact (h.onStanding id).onCtx
  · exact h

end Sys2Proof.Machine

/-! PROOFS. What the operations of the lane and its mode keep (`Sound`): flaps, grant, credits, crossings, the derivation. -/

namespace Sys2Proof.Machine

open Sys2Proof Sound

variable {s t : State}

/-! ### Flap motions (R124 to R128) -/

/-- R124: a motion that starts leaves everything an invariant reads but the flaps; one toward closed needs a clear flap zone. -/
theorem startMotion_sound {f : Flap} (h : Sound s t) (hf : f = .opening ∨ f = .closing)
    (hzone : f = .closing → t.lane.flapZone = false) : Sound s (startMotion f t) := by
  refine h.onLane (LaneKept.of_eq rfl rfl rfl rfl rfl rfl rfl rfl rfl rfl rfl fun _ => ?_)
  rcases hf with rfl | rfl <;> simp [Lane.flapsSafe, hzone]

@[simp] theorem startOpening_sound (h : Sound s t) : Sound s (startMotion .opening t) := startMotion_sound h (.inl rfl) nofun

@[simp] theorem openTest_sound (h : Sound s t) : Sound s (openTest t) := by
  unfold openTest
  repeat' split
  all_goals simp [h]

@[simp] theorem closeTest_sound (h : Sound s t) : Sound s (closeTest t) := by
  unfold closeTest
  split
  next hclose =>
    refine startMotion_sound h (.inr rfl) fun _ => ?_
    simp only [Lane.closeCondition, Bool.and_eq_true, Bool.not_eq_true'] at hclose
    exact hclose.1.1.2
  next => exact h

@[simp] theorem startCloseDelay_sound (h : Sound s t) : Sound s (startCloseDelay t) :=
  h.onLane (LaneKept.of_eq rfl rfl rfl rfl rfl rfl rfl rfl rfl rfl rfl id)

/-- R107, R128: a flap zone that becomes blocked turns a closing motion back. -/
@[simp] theorem flapZoneReport_sound {blocked : Bool} (h : Sound s t) : Sound s (flapZoneReport blocked t) := by
  have kept : ∀ f : Flap, (f = .closing → blocked = false) → f = t.lane.flap →
      Sound s (t.onLane fun l => { l with flapZone := blocked }) := fun f hf hflap =>
    h.onLane (LaneKept.of_eq rfl rfl rfl rfl rfl rfl rfl rfl rfl rfl rfl fun ⟨htimer, hjam, hlimit, _⟩ =>
      ⟨htimer, hjam, hlimit, fun hclosing => hf (hflap.trans hclosing)⟩)
  simp only [flapZoneReport]
  split
  next hb =>
    split
    next hclosing =>
      exact h.onLane (f := fun l =>
          { l with flapZone := blocked, flap := .opening, motionTimer := some t.params.flapMotionLimit })
        (LaneKept.of_eq rfl rfl rfl rfl rfl rfl rfl rfl rfl rfl rfl fun _ => by simp [Lane.flapsSafe])
    next hflap => exact kept _ (fun hc => absurd hc hflap) rfl
  next hb => exact closeTest_sound (kept t.lane.flap (fun _ => by simpa using hb) rfl)

/-! ### The grant (R115, R116) -/

theorem Lane.nextGrant_eq_none {l : Lane} (h : l.nextGrant = none) : l.credits.inbound = [] ∧ l.credits.outbound = [] := by
  unfold Lane.nextGrant at h
  split at h
  · exact ⟨by assumption, by assumption⟩
  · cases h
  · cases h
  · split at h <;> cases h

@[simp] theorem openTest_grant (s : State) : (openTest s).lane.grant = s.lane.grant := by
  unfold openTest
  repeat' split
  all_goals simp [startMotion]

/-- R115: after the arbiter no direction without a grant has a credit. -/
theorem arbitrate_served {s : State}
    (hout : s.lane.eff.inService = false → s.lane.credits.inbound = [] ∧ s.lane.credits.outbound = []) :
    (arbitrate s).lane.queuesServed := by
  intro h
  rw [(arbitrate_accounts s).1]
  rcases h with hgrant | hservice
  · unfold arbitrate at hgrant
    split at hgrant
    · simp at hgrant
    next hno =>
      refine Lane.nextGrant_eq_none (Option.eq_none_iff_forall_ne_some.mpr fun d hd => ?_)
      exact hno d hgrant hd
  · rw [(arbitrate_lane s).2.1] at hservice
    exact hout hservice

@[simp] theorem arbitrate_sound (h : Sound s t) : Sound s (arbitrate t) := by
  unfold arbitrate
  split
  next d hgrant hnext =>
    refine openTest_sound (h.onLane ⟨id, id, fun hserved hout => ?_, id, id⟩)
    exact hserved (.inl hgrant)
  next => exact h

/-- R116: a grant that is released is given again at once where a credit waits. -/
@[simp] theorem releaseTest_sound (h : Sound s t) : Sound s (releaseTest t) := by
  unfold releaseTest
  split
  next d hgrant =>
    split
    next =>
      have hrest : Sound (t.onLane fun l => { l with grant := none, lastServed := some d })
          (arbitrate (t.onLane fun l => { l with grant := none, lastServed := some d })) := arbitrate_sound (refl _)
      refine h.trans { hrest with beam := hrest.beam, served := fun hserved => ?_ }
      exact arbitrate_served fun hout => hserved (.inr hout)
    next => exact h
  next => exact h

/-! ### Credits (R108 to R112) -/

@[simp] theorem reserveCredit_sound {d : Direction} (h : Sound s t) : Sound s (reserveCredit d t) :=
  h.onLane (LaneKept.of_eq rfl rfl rfl rfl rfl rfl rfl rfl rfl rfl rfl id)

@[simp] theorem releaseCredit_sound {d : Direction} (h : Sound s t) : Sound s (releaseCredit d t) :=
  h.onLane (LaneKept.of_eq rfl rfl rfl rfl rfl rfl rfl rfl rfl rfl rfl id)

@[simp] theorem creditLeft_sound {d : Direction} (h : Sound s t) : Sound s (creditLeft d t) := by
  unfold creditLeft
  split <;> simp [h]

/-- Empty queues stay empty as a queue is replaced by a part of itself. -/
theorem Lane.queuesServed_put {l : Lane} {d : Direction} {q : List Credit} (hq : l.credits.get d = [] → q = [])
    (h : l.queuesServed) : ({ l with credits := l.credits.put d q } : Lane).queuesServed := fun hout => by
  obtain ⟨hin, hout'⟩ := h hout
  cases d <;> simp_all [ByDir.get, ByDir.put]

theorem Lane.accountHolds_put {l : Lane} {d : Direction} {c : Counts} {q : List Credit}
    (hd : (l.counts.get d).granted = (l.counts.get d).consumed + (l.counts.get d).lapsed + (l.credits.get d).length →
      c.granted = c.consumed + c.lapsed + q.length) (h : l.accountHolds) :
    ({ l with credits := l.credits.put d q, counts := l.counts.put d c } : Lane).accountHolds := fun e => by
  simp only [ByDir.get_put]
  split
  · exact hd (h d)
  · exact h e

theorem Lane.dropLapsed_kept {l : Lane} {d : Direction} {c : Credit} (hc : c ∈ l.credits.get d) :
    LaneKept l (l.dropLapsed d c) where
  numbers := id
  account := Lane.accountHolds_put fun hd => by
    have hpos := List.length_pos_of_mem hc
    simp only [List.length_erase_of_mem hc]
    omega
  served h := Lane.queuesServed_put (fun hnil => by simp [hnil]) h
  mode := id
  flaps := id

@[simp] theorem lapse_credits (d : Direction) (c : Credit) (r : LapseReason) (s : State) :
    (lapse d c r s).lane.credits = s.lane.credits.put d ((s.lane.credits.get d).erase c) := by
  simp [lapse, Lane.dropLapsed]

/-- What follows a credit's leaving by a lapse: its report, its record, the tests of grant and flaps. -/
theorem lapse_sound_of_dropped {d : Direction} {c : Credit} {r : LapseReason}
    (h : Sound s (t.onLane (Lane.dropLapsed d c))) : Sound s (lapse d c r t) :=
  creditLeft_sound <| appendReserve_sound <| lapseReport_sound h

theorem lapse_sound {d : Direction} {c : Credit} {r : LapseReason} (hc : c ∈ t.lane.credits.get d) (h : Sound s t) :
    Sound s (lapse d c r t) :=
  lapse_sound_of_dropped (h.onLane (Lane.dropLapsed_kept hc))

/-- Credits of a queue that lapse one after the other. -/
theorem foldl_lapse_sound {d : Direction} {r : LapseReason} {l : List Credit} (hl : l.Subperm (t.lane.credits.get d))
    (h : Sound s t) : Sound s (l.foldl (fun t c => lapse d c r t) t) := by
  induction l generalizing t with
  | nil => exact h
  | cons c l ih =>
    have hc : c ∈ t.lane.credits.get d := hl.subset List.mem_cons_self
    exact ih (by simpa using hl.erase c) (lapse_sound hc h)

@[simp] theorem flush_sound {d : Direction} (h : Sound s t) : Sound s (flush d t) :=
  foldl_lapse_sound (List.Subperm.refl _) h

/-- R137: a queue lapsed from its head to its end is empty. -/
theorem foldl_lapse_credits (d : Direction) (r : LapseReason) :
    ∀ (l : List Credit) (s : State), s.lane.credits.get d = l →
      (l.foldl (fun t c => lapse d c r t) s).lane.credits = s.lane.credits.put d []
  | [], s, h => by
    rw [List.foldl_nil, ← h, ByDir.put_get]
  | c :: l, s, h => by
    rw [List.foldl_cons, foldl_lapse_credits d r l _ (by simp [h])]
    simp

theorem flush_credits (d : Direction) (s : State) : (flush d s).lane.credits = s.lane.credits.put d [] :=
  foldl_lapse_credits d .flush _ s rfl

/-- R109: out of service a credit that joins lapses at once, and leaves the queue as it was. -/
theorem Lane.join_dropLapsed_kept {l : Lane} {d : Direction} {c : Credit} (hout : l.eff.inService = false) :
    LaneKept l ((l.join d c).dropLapsed d c) where
  numbers := fun ⟨htally, _, hfree, hfault⟩ => ⟨htally, by simp only [Lane.dropLapsed, Lane.join]; omega, hfree, hfault⟩
  account h := by
    have hc : c ∈ (l.credits.put d (l.credits.get d ++ [c])).get d := by simp
    have hjoined : (l.join d c).accountHolds := Lane.accountHolds_put (fun hd => by simp; omega) h
    exact (Lane.dropLapsed_kept hc).account hjoined
  served h := fun _ => by
    obtain ⟨hin, hout'⟩ := h (.inr hout)
    cases d <;> simp [Lane.dropLapsed, Lane.join, ByDir.get, ByDir.put, hin, hout']
  mode := id
  flaps := id

/-- R109: a credit that joins in service finds the arbiter. -/
theorem join_arbitrate_sound {d : Direction} {c : Credit} (h : Sound s t) (hin : t.lane.eff.inService = true) :
    Sound s (arbitrate (t.onLane (Lane.join d c))) := by
  have hrest : Sound (t.onLane (Lane.join d c)) (arbitrate (t.onLane (Lane.join d c))) := arbitrate_sound (refl _)
  refine h.trans { hrest with beam := hrest.beam, numbers := fun hb => hrest.numbers ?_, account := fun ha => hrest.account ?_, served := fun _ => ?_ }
  · obtain ⟨htally, -, hfree, hfault⟩ := hb
    exact ⟨htally, by simp only [State.onLane_lane, Lane.join]; omega, hfree, hfault⟩
  · exact Lane.accountHolds_put (fun hd => by simp; omega) ha
  · exact arbitrate_served fun hout => by simp [hin] at hout

@[simp] theorem joinCredit_sound {d : Direction} {k : CreditKind} {cardId : Nat} (h : Sound s t) :
    Sound s (joinCredit d k cardId t) := by
  simp only [joinCredit]
  split
  next hin => exact openTest_sound (join_arbitrate_sound h (by simpa using hin))
  next hout =>
    refine lapse_sound_of_dropped ?_
    exact h.onLane (f := fun l => (l.join d _).dropLapsed d _) (Lane.join_dropLapsed_kept (by simpa using hout))

@[simp] theorem makeBrisk_sound (h : Sound s t) : Sound s (makeBrisk t) :=
  h.onLane (LaneKept.of_eq rfl rfl rfl rfl rfl rfl rfl rfl rfl rfl rfl id)

/-! ### Tally and crossings (R118 to R123, R145, R146) -/

theorem Lane.toggleTally_kept (d : Direction) (l : Lane) : LaneKept l (l.toggleTally d) := by
  cases d <;> exact LaneKept.of_eq rfl rfl rfl rfl rfl rfl rfl rfl rfl rfl rfl id

theorem Sound.LaneKept.trans {l m n : Lane} (h : LaneKept l m) (k : LaneKept m n) : LaneKept l n :=
  ⟨k.numbers ∘ h.numbers, k.account ∘ h.account, k.served ∘ h.served, k.mode ∘ h.mode, k.flaps ∘ h.flaps⟩

theorem Lane.beginTally_kept (gap : Nat) (l : Lane) : LaneKept l (l.beginTally gap) := by
  unfold Lane.beginTally
  split
  next d _ _ _ =>
    exact (Lane.toggleTally_kept d l).trans (LaneKept.of_eq rfl rfl rfl rfl rfl rfl rfl rfl rfl rfl rfl id)
  next => exact LaneKept.of_eq rfl rfl rfl rfl rfl rfl rfl rfl rfl rfl rfl id

/-- A tally queue that stays within its capacity. -/
theorem Lane.tally_kept {l : Lane} {q : List Direction} {phase : TallyPhase} {timer : Timer}
    (hq : l.tally.length ≤ Config.tallyCapacity → q.length ≤ Config.tallyCapacity) :
    LaneKept l { l with tally := q, tallyPhase := phase, tallyTimer := timer } where
  numbers := fun ⟨htally, hrest⟩ => ⟨hq htally, hrest⟩
  account := id
  served := id
  mode := id
  flaps := id

theorem Lane.tallyGap_kept (gap : Nat) (l : Lane) : LaneKept l (l.tallyGap gap) := by
  unfold Lane.tallyGap
  split
  next d rest _ htally =>
    refine (Lane.toggleTally_kept _ l).trans (Lane.tally_kept fun hlen => ?_)
    rw [(Lane.toggleTally_accounts ..).2.2.2.1, htally, List.length_cons] at hlen
    omega
  next => exact Lane.tally_kept (q := l.tally) id
  next => exact (Lane.tally_kept (q := l.tally) id).trans (Lane.beginTally_kept gap _)
  next => exact Lane.tally_kept (q := l.tally) id

@[simp] theorem tallyStep_sound {d : Direction} (h : Sound s t) : Sound s (tallyStep d t) := by
  unfold tallyStep
  split
  next hroom =>
    refine h.onLane ((Lane.tally_kept (q := t.lane.tally ++ [d]) fun _ => ?_).trans (Lane.beginTally_kept _ _))
    simpa using hroom
  next => simp [h]

@[simp] theorem intrusion_sound {d : Option Direction} {r : IntrusionReason} (h : Sound s t) : Sound s (intrusion d r t) := by
  simp [intrusion, h]

@[simp] theorem tailgate_sound {d : Direction} {cardId : Nat} (h : Sound s t) : Sound s (tailgate d cardId t) := by
  simp [tailgate, h]

theorem Lane.consume_kept {l : Lane} {d : Direction} (hd : l.credits.get d ≠ []) : LaneKept l (l.consume d) where
  numbers := id
  account := Lane.accountHolds_put fun hcount => by
    have hpos := List.length_pos_iff.mpr hd
    simp only [List.length_tail]
    omega
  served h := Lane.queuesServed_put (fun hnil => absurd hnil hd) h
  mode := id
  flaps := id

theorem pay_sound {d : Direction} {long : Bool} {c : Credit} {rest : List Credit} (h : Sound s t)
    (hc : t.lane.credits.get d = c :: rest) : Sound s (pay d long c rest t) := by
  have hpaid : Sound s (t.onLane (Lane.consume d)) := h.onLane (Lane.consume_kept (by simp [hc]))
  simp only [pay]
  split
  · split
    next => simp [hpaid]
    next => exact creditLeft_sound (hpaid.onLane (Lane.consume_kept (by simp [hc])))
  · simp [hpaid]

@[simp] theorem freeCrossing_sound (h : Sound s t) : Sound s (freeCrossing t) :=
  h.onLane ⟨fun ⟨htally, hno, _, hfault⟩ => ⟨htally, hno, Nat.min_le_left .., hfault⟩, id, id, id, id⟩

@[simp] theorem judgeCrossing_sound {d : Direction} {long : Bool} (h : Sound s t) : Sound s (judgeCrossing d long t) := by
  unfold judgeCrossing
  repeat' split
  case h_2 hc => exact pay_sound h hc
  all_goals simp [h]

@[simp] theorem crossing_sound {d : Direction} {long : Bool} (h : Sound s t) : Sound s (crossing d long t) :=
  judgeCrossing_sound <| tallyStep_sound <| startCloseDelay_sound h

end Sys2Proof.Machine

/-! PROOFS. What the card dialogs, the verdict, the write and the lane's mode keep (`Sound`). -/

namespace Sys2Proof.Machine

open Sys2Proof Sound

variable {s t : State} {p : Port}

/-! ### SHOW and the verbs (R2) -/

theorem nextTag_inRange {n : Nat} (h : tagInRange n) : tagInRange (nextTag n) := by
  obtain ⟨hlow, hhigh⟩ := h
  unfold nextTag
  split <;> constructor <;> omega

@[simp] theorem flushShow_sound (h : Sound s t) : Sound s (flushShow p t) := by
  unfold flushShow
  split <;> simp [h]

@[simp] theorem showNow_sound {w : Show} (h : Sound s t) : Sound s (showNow p w t) :=
  flushShow_sound <| h.onPort fun _ => id

@[simp] theorem endVerb_sound (h : Sound s t) : Sound s (endVerb p t) := flushShow_sound <| h.onPort fun _ => id

@[simp] theorem drawChallenge_sound {u : Purpose} (h : Sound s t) : Sound s (drawChallenge u t) := by
  unfold drawChallenge
  split
  · exact h.onDialog id
  · exact h

@[simp] theorem issue_sound {u : Purpose} (h : Sound s t) : Sound s (issue p u t) := by
  have hflushed : Sound s (flushShow p t) := flushShow_sound h
  refine send <| drawChallenge_sound <| hflushed.trans ?_
  refine (refl _).onDialog fun ⟨hport, hproof⟩ => ⟨fun q => ?_, hproof⟩
  rw [ByPort.get_put]
  split
  · exact nextTag_inRange (hport p)
  · exact hport q

@[simp] theorem issueFirst_sound {u : Purpose} (h : Sound s t) : Sound s (issueFirst p u t) := issue_sound h.onCtx

theorem retryOr_sound {u : Purpose} {failed : State → State} (h : Sound s t) (hf : Sound s (failed t)) :
    Sound s (retryOr p u failed t) := by
  unfold retryOr
  split <;> simp [h, hf]

/-! ### Where a context goes -/

@[simp] theorem startPoll_sound (h : Sound s t) : Sound s (startPoll p t) := by simp [startPoll, h]

@[simp] theorem toIdle_sound (h : Sound s t) : Sound s (toIdle p t) := startPoll_sound h.onCtx

@[simp] theorem toHolding_sound (h : Sound s t) : Sound s (toHolding p t) := by
  simp only [toHolding]
  split <;> simp [h]

@[simp] theorem startDialog_sound {cardId : Nat} (h : Sound s t) : Sound s (startDialog p cardId t) :=
  issueFirst_sound <| makeBrisk_sound h.onCtx

@[simp] theorem droppedVerbEnds_sound (h : Sound s t) : Sound s (droppedVerbEnds p t) :=
  startPoll_sound <| endVerb_sound h

/-! ### Refusals and reservations (R12 to R14, R22 to R24) -/

@[simp] theorem dropCreditRes_sound (h : Sound s t) : Sound s (dropCreditRes p t) := by
  unfold dropCreditRes
  split <;> simp [h]

@[simp] theorem dropJournalRes_sound (h : Sound s t) : Sound s (dropJournalRes p t) := by simp [dropJournalRes, h]

@[simp] theorem refusalRecord_sound {code : RefusalCode} (h : Sound s t) : Sound s (refusalRecord p code t) := by
  simp only [refusalRecord]
  repeat' split
  · simp [h]
  · simp [h]
  · exact dropJournalRes_sound <| appendReserved_sound h.onCtx

@[simp] theorem refuse_sound {code : RefusalCode} {mark : Bool} {amount : Option Nat} (h : Sound s t) :
    Sound s (refuse p code mark amount t) := by
  have hrecord : Sound s (refusalRecord p code (dropCreditRes p t)) := by simp [h]
  simp only [refuse]
  split
  · exact issue_sound hrecord.onCtx
  · exact toHolding_sound <| withdraw_sound <| showNow_sound hrecord

@[simp] theorem markEnds_sound {lost : Bool} (h : Sound s t) : Sound s (markEnds p lost t) := by
  have hshown : Sound s (withdraw p (match (t.ctx p).marking with
      | some code => showNow p (refusalShow (t.ctx p) code none) t
      | none => t)) := by
    refine withdraw_sound ?_
    split <;> simp [h]
  simp only [markEnds]
  split
  · exact toIdle_sound hshown
  · exact toHolding_sound hshown

@[simp] theorem tryAgain_sound {lost : Bool} (h : Sound s t) : Sound s (tryAgain p lost t) := by
  simp only [tryAgain]
  split <;> simp [h]

@[simp] theorem takeCreditRes_sound (h : Sound s t) : Sound s (takeCreditRes p t) := reserveCredit_sound h.onCtx

@[simp] theorem takeJournalRes_sound (h : Sound s t) : Sound s (takeJournalRes p t) := reserveJournal_sound h.onCtx

@[simp] theorem keepIntended_sound {i : Intended} (h : Sound s t) : Sound s (keepIntended p i t) := by
  simp only [keepIntended]
  repeat' split
  all_goals simp [h]

@[simp] theorem enterReckoning_sound (h : Sound s t) : Sound s (enterReckoning p t) := by
  simp only [enterReckoning]
  repeat' split
  all_goals simp [h]

@[simp] theorem readyToReckon_sound (h : Sound s t) : Sound s (readyToReckon p t) := by
  unfold readyToReckon
  split <;> simp [h]

@[simp] theorem releaseHeldContext_sound (h : Sound s t) : Sound s (releaseHeldContext p t) := by
  unfold releaseHeldContext
  split <;> simp [h]

@[simp] theorem releaseHeldContexts_sound (h : Sound s t) : Sound s (releaseHeldContexts t) :=
  releaseHeldContext_sound <| releaseHeldContext_sound h

/-! ### Conclusions (R20, R21) -/

@[simp] theorem appendWritten_sound {n : Nat} {b : Int} {cs : List Content} (h : Sound s t) :
    Sound s (appendWritten n b cs t) := by
  unfold appendWritten
  induction cs generalizing t with
  | nil => exact h
  | cons c cs ih => exact ih (appendReserved_sound h)

@[simp] theorem spendCreditRes_sound {k : CreditKind} {cardId : Nat} (h : Sound s t) :
    Sound s (spendCreditRes p k cardId t) :=
  joinCredit_sound h.onCtx

@[simp] theorem admitted_sound {amount : Nat} {balance : Int} (h : Sound s t) : Sound s (admitted p amount balance t) :=
  toHolding_sound <| withdraw_sound <| showNow_sound h

@[simp] theorem concludeWrite_sound (h : Sound s t) : Sound s (concludeWrite p t) := by
  simp only [concludeWrite]
  split
  · exact admitted_sound <| spendCreditRes_sound <| writeAndBroadcast_sound <| appendWritten_sound h.onCtx
  · exact h

@[simp] theorem concludeRegrant_sound {i : Image} {r : Sighting} (h : Sound s t) : Sound s (concludeRegrant p i r t) :=
  admitted_sound <| spendCreditRes_sound <| writeAndBroadcast_sound <| appendReserved_sound h.onCtx

@[simp] theorem concludeRecovered_sound {i : Image} {e : RecoveryEntry} (h : Sound s t) :
    Sound s (concludeRecovered p i e t) :=
  admitted_sound <| spendCreditRes_sound <| resolveRecovered_sound h

/-! ### The verdict (R42 to R49) -/

@[simp] theorem refuseClone_sound {cardId : Nat} {r : CloneReason} {n : Nat} {b : Int} (h : Sound s t) :
    Sound s (refuseClone p cardId r n b t) :=
  refuse_sound <| cloneFinding_sound h

@[simp] theorem refuseDenied_sound {e : DenyEntry} (h : Sound s t) : Sound s (refuseDenied p e t) := refuse_sound h

@[simp] theorem verdictProceed_sound (h : Sound s t) : Sound s (verdictProceed p t) := by
  simp only [verdictProceed]
  repeat' split
  · simp [h]
  · exact readyToReckon_sound <| takeJournalRes_sound <| takeCreditRes_sound h
  · simp [h]

@[simp] theorem verdictRegrant_sound {i : Image} {r : Sighting} (h : Sound s t) : Sound s (verdictRegrant p i r t) := by
  simp only [verdictRegrant]
  repeat' split
  · simp [h]
  · exact concludeRegrant_sound <| takeJournalRes_sound <| takeCreditRes_sound h
  · simp [h]

@[simp] theorem verdictSighting_sound {i : Image} (h : Sound s t) : Sound s (verdictSighting p i t) := by
  simp only [verdictSighting]
  repeat' split
  all_goals simp [h]

@[simp] theorem verdictRecovered_sound {i : Image} {e : RecoveryEntry} (h : Sound s t) :
    Sound s (verdictRecovered p i e t) := by
  unfold verdictRecovered
  split <;> simp [h]

@[simp] theorem verdictRecovery_sound {i : Image} (h : Sound s t) : Sound s (verdictRecovery p i t) := by
  unfold verdictRecovery
  repeat' split
  all_goals simp [h]

@[simp] theorem verdictInFlight_sound {i : Image} (h : Sound s t) : Sound s (verdictInFlight p i t) := by
  unfold verdictInFlight
  split <;> simp [h]

@[simp] theorem judge_sound {i : Image} {o : ProofOutcome} (h : Sound s t) : Sound s (judge p i o t) := by
  unfold judge
  repeat' split
  all_goals simp [h]

@[simp] theorem recheck_sound {i : Image} (h : Sound s t) : Sound s (recheck p i t) := by
  simp only [recheck]
  repeat' split
  · simp [h]
  · simp [h]
  · exact issue_sound (touch_sound h).onCtx

/-! ### The write (R16 to R19) -/

@[simp] theorem enterConfirming_sound (h : Sound s t) : Sound s (enterConfirming p t) := issue_sound h.onCtx
@[simp] theorem reissueCommit_sound (h : Sound s t) : Sound s (reissueCommit p t) := issue_sound h.onCtx

@[simp] theorem recordTorn_sound (h : Sound s t) : Sound s (recordTorn p t) := by
  simp only [recordTorn]
  split
  · exact writeSighting_sound <| createRecovery_sound <| dropCreditRes_sound <| dropJournalRes_sound <| holdSlot_sound h.onCtx
  · exact h

@[simp] theorem broadcastTorn_sound (h : Sound s t) : Sound s (broadcastTorn p t) := by
  unfold broadcastTorn
  split <;> simp [h]

@[simp] theorem torn_sound (h : Sound s t) : Sound s (torn p t) :=
  toIdle_sound <| withdraw_sound <| showNow_sound <| broadcastTorn_sound <| recordTorn_sound h

@[simp] theorem tornClone_sound {i : Image} (h : Sound s t) : Sound s (tornClone p i t) :=
  refuseClone_sound <| withdraw_sound <| broadcastTorn_sound <| recordTorn_sound h

@[simp] theorem confirmAgain_sound (h : Sound s t) : Sound s (confirmAgain p t) := by
  unfold confirmAgain
  split <;> simp [h]

@[simp] theorem judgeConfirming_sound {i : Image} (h : Sound s t) : Sound s (judgeConfirming p i t) := by
  simp only [judgeConfirming]
  repeat' split
  all_goals simp [h]

/-! ### The proof queue (R8 to R11) -/

@[simp] theorem sendCheck_sound (h : Sound s t) : Sound s (sendCheck t) := by
  unfold sendCheck
  split
  · exact send <| h.onDialog fun ⟨hport, hproof⟩ => ⟨hport, nextTag_inRange hproof⟩
  · exact h

@[simp] theorem enqueueProof_sound {r : ProofRequest} (h : Sound s t) : Sound s (enqueueProof r t) :=
  sendCheck_sound <| h.onDialog id
@[simp] theorem popProof_sound (h : Sound s t) : Sound s (popProof t) := sendCheck_sound <| h.onDialog id
@[simp] theorem resendCheck_sound {r : ProofRequest} (h : Sound s t) : Sound s (resendCheck r t) :=
  sendCheck_sound <| h.onDialog id

@[simp] theorem proofKnown_sound {o : ProofOutcome} (h : Sound s t) : Sound s (proofKnown p o t) := by
  unfold proofKnown
  split <;> simp [h]

@[simp] theorem checkEnds_sound {r : ProofRequest} {o : Option ProofOutcome} (h : Sound s t) :
    Sound s (checkEnds r o t) := by
  unfold checkEnds
  repeat' split
  all_goals simp [h]

/-! ### A change of the effective mode (R25, R135 to R138) -/

theorem Dialogs.abandon_tags (d : Dialogs) : (d.abandon p).port = d.port ∧ (d.abandon p).proofTag = d.proofTag := by
  unfold Dialogs.abandon
  split <;> exact ⟨rfl, rfl⟩

@[simp] theorem refuseByMode_sound {m : Mode} (h : Sound s t) : Sound s (refuseByMode m p t) := by
  unfold refuseByMode
  split
  · refine refuse_sound <| onPort (h.onDialog fun htags => ?_) fun _ => id
    obtain ⟨hport, hproof⟩ := Dialogs.abandon_tags (p := p) t.dialog
    rwa [Dialogs.tagsInRange, hport, hproof]
  · exact h

@[simp] theorem dialogsTold_sound {m : Mode} (h : Sound s t) : Sound s (dialogsTold m t) :=
  refuseByMode_sound <| refuseByMode_sound h

@[simp] theorem freshCount_sound {m : Mode} (h : Sound s t) : Sound s (freshCount m t) := by
  unfold freshCount
  split
  · exact h.onLane ⟨fun ⟨htally, hno, _, hfault⟩ => ⟨htally, hno, Nat.zero_le _, hfault⟩, id, id, id, id⟩
  · exact h

@[simp] theorem flushOnLeaving_sound {left new : Mode} (h : Sound s t) : Sound s (flushOnLeaving left new t) := by
  unfold flushOnLeaving
  split <;> simp [h]

theorem reportMode_lane_eq (new : Mode) (s : State) : (reportMode new s).lane = { s.lane with eff := new } := by
  simp [reportMode]

/-- R137: once the queues are flushed no credit waits out of service. -/
theorem flushOnLeaving_served (new : Mode) {s : State} (h : s.lane.queuesServed) :
    (flushOnLeaving s.lane.eff new (reportMode new s)).lane.queuesServed := by
  unfold flushOnLeaving
  split
  next => exact fun _ => by simp [flush_credits, ByDir.put]
  next hstays =>
    rw [reportMode_lane_eq]
    rintro (hgrant | hout)
    · exact h (.inl hgrant)
    · have hout' : new.inService = false := hout
      exact h (.inr (by simpa [hout'] using hstays))

/-- R136, steps 3 and 4, R125: what follows the flush of a change of mode. -/
theorem afterFlush_sound {new : Mode} (h : Sound s t) :
    Sound s (closeTest (openTest (dialogsTold new (freshCount new t)))) :=
  closeTest_sound <| openTest_sound <| dialogsTold_sound <| freshCount_sound h

@[simp] theorem freshCount_lane (new : Mode) (s : State) :
    (freshCount new s).lane.cmd = s.lane.cmd ∧ (freshCount new s).lane.eff = s.lane.eff ∧
    (freshCount new s).lane.emergency = s.lane.emergency ∧
    (freshCount new s).lane.emergencyFilter = s.lane.emergencyFilter ∧ (freshCount new s).lane.jam = s.lane.jam ∧
    (freshCount new s).lane.faultBeams = s.lane.faultBeams := by
  unfold freshCount
  split <;> simp

@[simp] theorem flushOnLeaving_lane (left new : Mode) (s : State) :
    (flushOnLeaving left new s).lane.cmd = s.lane.cmd ∧ (flushOnLeaving left new s).lane.eff = s.lane.eff ∧
    (flushOnLeaving left new s).lane.emergency = s.lane.emergency ∧
    (flushOnLeaving left new s).lane.emergencyFilter = s.lane.emergencyFilter ∧
    (flushOnLeaving left new s).lane.jam = s.lane.jam ∧
    (flushOnLeaving left new s).lane.faultBeams = s.lane.faultBeams := by
  unfold flushOnLeaving
  split <;> simp

/-- R136: a change of mode sets the effective mode, and nothing it is derived from. -/
@[simp] theorem changeMode_lane (new : Mode) (s : State) :
    (changeMode new s).lane.cmd = s.lane.cmd ∧ (changeMode new s).lane.eff = new ∧
    (changeMode new s).lane.emergency = s.lane.emergency ∧
    (changeMode new s).lane.emergencyFilter = s.lane.emergencyFilter ∧ (changeMode new s).lane.jam = s.lane.jam ∧
    (changeMode new s).lane.faultBeams = s.lane.faultBeams := by
  simp [changeMode, reportMode_lane_eq]

/-- R135: the derivation sets the effective mode the one the inputs give, and leaves the inputs. -/
@[simp] theorem deriveMode_lane (s : State) :
    (deriveMode s).lane.cmd = s.lane.cmd ∧ (deriveMode s).lane.eff = s.lane.derived ∧
    (deriveMode s).lane.emergency = s.lane.emergency ∧
    (deriveMode s).lane.emergencyFilter = s.lane.emergencyFilter ∧ (deriveMode s).lane.jam = s.lane.jam ∧
    (deriveMode s).lane.faultBeams = s.lane.faultBeams := by
  unfold deriveMode
  split
  next heq => simp [heq]
  next => simp

@[simp] theorem deriveMode_derived (s : State) : (deriveMode s).lane.derived = s.lane.derived := by
  simp [Lane.derived]

theorem deriveMode_modeDerived {s : State} (h : s.lane.cmd.commandable = true) : (deriveMode s).lane.modeDerived := by
  simp [Lane.modeDerived, h]

@[simp] theorem deriveMode_sound (h : Sound s t) : Sound s (deriveMode t) := by
  unfold deriveMode
  split
  · exact h
  · have hflushed : Sound (t.onLane fun l => { l with eff := t.lane.derived })
        (flushOnLeaving t.lane.eff t.lane.derived (reportMode t.lane.derived t)) :=
      flushOnLeaving_sound <| event_sound <| appendReserve_sound <| refl _
    refine h.trans { afterFlush_sound hflushed with
      beam := (afterFlush_sound hflushed).beam
      served := fun hserved => (afterFlush_sound (refl _)).served (flushOnLeaving_served _ hserved)
      mode := fun hmode => ?_ }
    exact ⟨by simpa [changeMode, reportMode_lane_eq] using hmode.1, by
      simp [Lane.derived]⟩

/-- R134: the number of beams in FAULT is reported. -/
theorem faultReport_sound {n : Nat} (h : Sound s t) (hn : n ≤ 6) : Sound s (faultReport n t) := by
  have hderived : Sound (t.onLane fun l => { l with faultBeams := n }) (faultReport n t) := deriveMode_sound (refl _)
  refine h.trans { hderived with beam := hderived.beam, numbers := fun ⟨htally, hno, hfree, _⟩ => ?_, mode := fun hmode => ?_ }
  · exact hderived.numbers ⟨htally, hno, hfree, hn⟩
  · exact deriveMode_modeDerived hmode.1

@[simp] theorem takeEmergency_sound {asserted : Bool} (h : Sound s t) : Sound s (takeEmergency asserted t) := by
  have hderived : Sound (t.onLane fun l => { l with emergency := asserted, emergencyFilter := none })
      (takeEmergency asserted t) := deriveMode_sound <| event_sound <| refl _
  refine h.trans { hderived with beam := hderived.beam, mode := fun hmode => ?_ }
  exact deriveMode_modeDerived (by simpa using hmode.1)

/-! ### Flap steps that report to the mode rule (R126, R129, R130) -/

/-- R126: the lane as its flaps stand at a limit, before the jam is cleared. -/
def Lane.atLimit (flap : Flap) (close : Timer) (l : Lane) : Lane :=
  { l with flap := flap, motionTimer := none, closeTimer := close }

theorem Lane.flapsSafe_atLimit {flap : Flap} (hflap : flap = .closed ∨ flap = .opened) {close : Timer} {l : Lane}
    (hjam : l.jam = none) : (l.atLimit flap close).flapsSafe := by
  rcases hflap with rfl | rfl <;> simp [Lane.flapsSafe, Lane.atLimit, hjam]

/-- R126, R130: at a limit a jam ends, and the mode is derived without it. -/
theorem clearJam_sound {flap : Flap} {close : Timer} (h : Sound s t) (hflap : flap = .closed ∨ flap = .opened) :
    Sound s (clearJam (t.onLane (Lane.atLimit flap close))) := by
  unfold clearJam
  split
  next =>
    have hderived : Sound (t.onLane fun l => { l.atLimit flap close with jam := none })
        (deriveMode (t.onLane fun l => { l.atLimit flap close with jam := none })) := deriveMode_sound (refl _)
    refine h.trans { hderived with
      beam := hderived.beam
      flaps := fun _ => hderived.flaps (Lane.flapsSafe_atLimit hflap (l := { t.lane with jam := none }) rfl)
      mode := fun hmode => ?_ }
    exact deriveMode_modeDerived hmode.1
  next hjam =>
    have hnone : t.lane.jam = none := by simpa [Lane.atLimit] using hjam
    exact h.onLane (LaneKept.of_eq rfl rfl rfl rfl rfl rfl rfl rfl rfl rfl rfl fun _ =>
      Lane.flapsSafe_atLimit hflap hnone)

@[simp] theorem reachOpen_sound (h : Sound s t) : Sound s (reachOpen t) :=
  show Sound s (clearJam (t.onLane (Lane.atLimit .opened (some t.params.closeDelay)))) from clearJam_sound h (.inr rfl)

@[simp] theorem reachClosed_sound (h : Sound s t) : Sound s (reachClosed t) :=
  openTest_sound <| releaseTest_sound <| 
    show Sound s (clearJam (t.onLane (Lane.atLimit .closed t.lane.closeTimer))) from clearJam_sound h (.inl rfl)

@[simp] theorem readLimits_sound {atOpen atClosed : Bool} (h : Sound s t) : Sound s (readLimits atOpen atClosed t) := by
  unfold readLimits
  repeat' split
  all_goals simp [h]

@[simp] theorem jamMotion_sound {m : Motion} (h : Sound s t) : Sound s (jamMotion m t) := by
  have hderived : Sound (t.onLane fun l => { l with flap := .jammed, motionTimer := none, jam := some m })
      (jamMotion m t) := deriveMode_sound <| event_sound <| appendReserve_sound <| refl _
  refine h.trans { hderived with
    beam := hderived.beam, flaps := fun _ => hderived.flaps (by simp [Lane.flapsSafe]), mode := fun hmode => ?_ }
  exact deriveMode_modeDerived (by simpa using hmode.1)

@[simp] theorem flapRetry_sound (h : Sound s t) : Sound s (flapRetry t) := by
  unfold flapRetry
  split
  · refine openTest_sound <| startMotion_sound h ?_ ?_ <;> unfold Lane.retryMotion <;> split <;> simp_all
  all_goals exact h

/-- R132, R189: a mode that can be commanded. -/
theorem commandMode_sound {m : Mode} (h : Sound s t) (hm : m.commandable = true) : Sound s (commandMode m t) := by
  unfold commandMode
  split
  · simp [h]
  · have hderived : Sound (t.onLane fun l => { l with cmd := m }) (deriveMode (t.onLane fun l => { l with cmd := m })) :=
      deriveMode_sound (refl _)
    refine flapRetry_sound <| h.trans { hderived with beam := hderived.beam, mode := fun _ => ?_ }
    exact deriveMode_modeDerived hm

end Sys2Proof.Machine

/-! PROOFS. What the lane sensor keeps (`Sound`): the beam layer, the trim, the matching of bodies, the sensor port. -/

namespace Sys2Proof.Machine

open Sys2Proof Sound

variable {s t : State}

/-! ### Bodies and runs (section 5.5) -/

/-- A run within B1 to B6. -/
def Run.inRange (r : Run) : Prop := 1 ≤ r.1 ∧ r.1 ≤ r.2 ∧ r.2 ≤ 6

/-- A body's Span and Reach within B1 to B6, before `Body.reached` gives the Reach that its origin calls for. -/
def Body.spans (b : Body) : Prop := Run.inRange (b.first, b.last) ∧ ∀ x, b.reach = some x → 1 ≤ x ∧ x ≤ 6

theorem Body.inRange.spans {b : Body} (h : b.inRange) : b.spans := by
  obtain ⟨hlow, hspan, hhigh, -, hreach⟩ := h
  exact ⟨⟨hlow, hspan, hhigh⟩, hreach⟩

theorem Body.inRange_reached {b : Body} (h : b.spans) : b.reached.inRange := by
  obtain ⟨⟨hlow, hspan, hhigh⟩, hreach⟩ := h
  simp only at hlow hspan hhigh
  have hlast : ∀ d, 1 ≤ d ∧ d ≤ 6 → 1 ≤ b.reach.getD d ∧ b.reach.getD d ≤ 6 := by
    intro d hd
    cases hr : b.reach with
    | none => exact hd
    | some x => exact hreach x hr
  have hl := hlast b.last (by omega)
  have hf := hlast b.first (by omega)
  cases ho : b.origin <;> simp only [Body.reached, ho, Body.inRange] <;> simp <;> omega

theorem Body.inRange_moveTo {b : Body} {r : Run} (h : b.spans) (hr : r.inRange) : (b.moveTo r).inRange :=
  Body.inRange_reached ⟨hr, h.2⟩

theorem Body.inRange_absorb {b : Body} {r : Run} (h : b.spans) (hr : r.inRange) : (b.absorb r).inRange := by
  refine Body.inRange_reached ⟨?_, h.2⟩
  obtain ⟨⟨hlow, hspan, hhigh⟩, -⟩ := h
  obtain ⟨hrlow, hrspan, hrhigh⟩ := hr
  refine ⟨?_, ?_, ?_⟩ <;> simp only at * <;> omega

theorem Body.inRange_splitOff (b : Body) {r : Run} (hr : r.inRange) : (b.splitOff r).inRange :=
  Body.inRange_reached ⟨hr, nofun⟩

theorem inRange_newBody (now : Nat) {r : Run} (hr : r.inRange) : (newBody now r).inRange :=
  Body.inRange_moveTo ⟨hr, nofun⟩ hr

/-- R102: a merged body keeps its Span; a MIDDLE one that takes an origin takes the Reach with it. -/
theorem Body.inRange_mergeWith {m a : Body} (hm : m.inRange) (ha : a.inRange) : (m.mergeWith a).1.inRange := by
  obtain ⟨hlow, hspan, hhigh, hmreach⟩ := hm
  obtain ⟨-, -, -, hareach⟩ := ha
  cases htook : m.origin == .middle && a.origin != .middle <;>
    simp only [Body.mergeWith, htook, Bool.false_eq_true, if_true, if_false]
  · split <;> exact ⟨hlow, hspan, hhigh, hmreach⟩
  · split <;> exact ⟨hlow, hspan, hhigh, hareach⟩

theorem runsFrom_inRange :
    ∀ (view : List Bool) (i : Nat) (start : Option Nat), i + view.length ≤ 7 → 1 ≤ i →
      (∀ f, start = some f → 1 ≤ f ∧ f < i) → ∀ r ∈ runsFrom i start view, r.inRange
  | [], i, start, hlen, _, hstart, r, hr => by
    cases start with
    | none => simp [runsFrom] at hr
    | some f =>
      obtain rfl : r = (f, i - 1) := by simpa [runsFrom] using hr
      have := hstart f rfl
      simp only [List.length_nil] at hlen
      refine ⟨?_, ?_, ?_⟩ <;> simp only <;> omega
  | true :: rest, i, start, hlen, hi, hstart, r, hr => by
    refine runsFrom_inRange rest (i + 1) _ (by simp at hlen; omega) (by omega) (fun f hf => ?_) r hr
    cases start with
    | none => simp at hf; omega
    | some g =>
      obtain rfl : g = f := by simpa using hf
      have := hstart g rfl
      omega
  | false :: rest, i, start, hlen, hi, hstart, r, hr => by
    rcases List.mem_append.mp hr with hr | hr
    · cases start with
      | none => simp at hr
      | some f =>
        obtain rfl : r = (f, i - 1) := by simpa using hr
        have := hstart f rfl
        simp only [List.length_cons] at hlen
        refine ⟨?_, ?_, ?_⟩ <;> simp only <;> omega
    · exact runsFrom_inRange rest (i + 1) none (by simp at hlen; omega) (by omega) nofun r hr

/-- R98: the runs of a blocked view lie in B1 to B6. -/
theorem runsOf_view_inRange (b : Beams) : ∀ r ∈ runsOf b.view, r.inRange :=
  runsFrom_inRange _ 1 none (by simp [Beams.view]) le_rfl nofun

/-! ### Groups (R99) -/

theorem mem_insertRun {r x : Run} {l : List Run} : x ∈ insertRun r l ↔ x = r ∨ x ∈ l := by
  induction l with
  | nil => simp [insertRun]
  | cons y l ih =>
    unfold insertRun
    split
    · simp
    · simp [ih]
      tauto

theorem mem_foldl_insertRun {x : Run} {l m : List Run} (h : x ∈ l.foldl (fun l r => insertRun r l) m) : x ∈ l ∨ x ∈ m := by
  induction l generalizing m with
  | nil => exact .inr h
  | cons r l ih =>
    rcases ih h with h | h
    · exact .inl (List.mem_cons_of_mem _ h)
    · rcases mem_insertRun.mp h with rfl | h
      · exact .inl List.mem_cons_self
      · exact .inr h

theorem mem_insertGroup {g x : Group} {l : List Group} : x ∈ insertGroup g l ↔ x = g ∨ x ∈ l := by
  induction l with
  | nil => simp [insertGroup]
  | cons y l ih =>
    unfold insertGroup
    split
    · simp
    · simp [ih]
      tauto

/-- R99: no run comes into the groups but those of the view. -/
theorem linkBody_runs {P : Run → Prop} {gs : List Group} {x : Named} (h : ∀ g ∈ gs, ∀ r ∈ g.runs, P r) :
    ∀ g ∈ linkBody gs x, ∀ r ∈ g.runs, P r := by
  intro g hg r hr
  simp only [linkBody] at hg
  split at hg
  · exact h g hg r hr
  · rcases mem_insertGroup.mp hg with rfl | hg
    · rcases mem_foldl_insertRun hr with hr | hr
      · obtain ⟨g', hg', hr'⟩ := List.mem_flatMap.mp hr
        exact h g' (List.mem_of_mem_filter hg') r hr'
      · cases hr
    · exact h g (List.mem_of_mem_filter hg) r hr

theorem groupsOf_runs {P : Run → Prop} {bodies : List Named} {runs : List Run} (h : ∀ r ∈ runs, P r) :
    ∀ g ∈ groupsOf bodies runs, ∀ r ∈ g.runs, P r := by
  have hstart : ∀ g ∈ runs.map (fun r => (⟨[], [r]⟩ : Group)), ∀ r ∈ g.runs, P r := by
    intro g hg r hr
    obtain ⟨x, hx, rfl⟩ := List.mem_map.mp hg
    exact List.mem_singleton.mp hr ▸ h x hx
  unfold groupsOf
  generalize runs.map (fun r => (⟨[], [r]⟩ : Group)) = gs at hstart
  induction bodies generalizing gs with
  | nil => exact hstart
  | cons x bodies ih => exact ih _ (linkBody_runs hstart)

/-! ### The matching of a view (R99 to R104) -/

/-- The bodies that a matching has so far: each in its range, and no more than the list holds. -/
def Matching.inBounds (m : Matching) : Prop := (∀ x ∈ m.bodies, x.2.inRange) ∧ m.bodies.length ≤ Config.bodyCapacity

theorem Matching.inBounds_put {m : Matching} {x : Named} (h : m.inBounds) (hx : x.2.inRange) : (m.put x).inBounds := by
  refine ⟨fun y hy => ?_, by simpa [Matching.put] using h.2⟩
  obtain ⟨z, hz, rfl⟩ := List.mem_map.mp hy
  split
  · exact hx
  · exact h.1 z hz

theorem Matching.inBounds_settle {m : Matching} {x : Named} (h : m.inBounds) (hx : x.2.inRange) : (m.settle x).inBounds := by
  unfold Matching.settle
  split
  · exact Matching.inBounds_put (x := (x.1, { x.2 with crossed := true })) h hx
  · exact Matching.inBounds_put h hx

theorem Matching.inBounds_merge {id : Nat} {m : Matching} {a : Named} (h : m.inBounds) (ha : a.2.inRange) :
    (m.merge id a).inBounds := by
  unfold Matching.merge
  split
  next x hx =>
    have hput : (m.put (id, (x.2.mergeWith a.2).1)).inBounds :=
      Matching.inBounds_put h (Body.inRange_mergeWith (h.1 x (List.mem_of_find?_eq_some hx)) ha)
    exact ⟨fun y hy => hput.1 y (List.mem_of_mem_filter hy), (List.length_filter_le ..).trans hput.2⟩
  next => exact h

theorem mem_insertByAge {x y : Named} {l : List Named} : y ∈ insertByAge x l ↔ y = x ∨ y ∈ l := by
  induction l with
  | nil => simp [insertByAge]
  | cons z l ih =>
    unfold insertByAge
    split
    · simp [ih]
      tauto
    · simp

theorem length_insertByAge (x : Named) (l : List Named) : (insertByAge x l).length = l.length + 1 := by
  induction l with
  | nil => rfl
  | cons z l ih =>
    unfold insertByAge
    split <;> simp [ih]

theorem Matching.inBounds_split {id : Nat} {m : Matching} {r : Run} (h : m.inBounds) (hr : r.inRange) :
    (m.split id r).inBounds := by
  unfold Matching.split
  repeat' split
  next x hx hroom =>
    refine ⟨fun y hy => ?_, by simpa [length_insertByAge] using hroom⟩
    rcases mem_insertByAge.mp hy with rfl | hy
    · exact Body.inRange_splitOff _ hr
    · exact h.1 y hy
  next x hx _ =>
    exact Matching.inBounds_settle h (Body.inRange_absorb (h.1 x (List.mem_of_find?_eq_some hx)).spans hr)
  next => exact h

theorem keptRun_mem (o : Origin) : ∀ (l : List Run) (r : Run), keptRun o r l ∈ r :: l
  | [], r => by simp [keptRun]
  | x :: l, r => by
    have step : ∃ y, (y = r ∨ y = x) ∧ keptRun o r (x :: l) = keptRun o y l := by
      refine ⟨_, ?_, rfl⟩
      cases o <;> simp only <;> split <;> simp
    obtain ⟨y, hy, hkept⟩ := step
    rw [hkept]
    rcases List.mem_cons.mp (keptRun_mem o l y) with h | h
    · rcases hy with rfl | rfl <;> simp [h]
    · simp [h]

theorem Matching.foldl_inBounds {α : Type} {f : Matching → α → Matching} {l : List α} {m : Matching}
    (hf : ∀ m, m.inBounds → ∀ a ∈ l, (f m a).inBounds) (h : m.inBounds) : (l.foldl f m).inBounds := by
  induction l generalizing m with
  | nil => exact h
  | cons a l ih =>
    exact ih (fun m hm b hb => hf m hm b (List.mem_cons_of_mem _ hb)) (hf m h a List.mem_cons_self)

theorem Matching.inBounds_group {m : Matching} {g : Group} (h : m.inBounds) (hg : ∀ x ∈ g.bodies, x.2.inRange)
    (hr : ∀ r ∈ g.runs, r.inRange) : (m.group g).inBounds := by
  simp only [Matching.group]
  split
  next x others r rest hbodies hruns =>
    have hmerged : (others.foldl (Matching.merge x.1) m).inBounds :=
      Matching.foldl_inBounds (fun m hm a ha => Matching.inBounds_merge hm (hg a (by simp [hbodies, ha]))) h
    split
    next y hy =>
      have hkept : ∀ r' ∈ r :: rest, r'.inRange := hruns ▸ hr
      have hmoved := Matching.inBounds_settle (x := (x.1, y.2.moveTo (keptRun y.2.origin r rest))) hmerged
        (Body.inRange_moveTo (hmerged.1 y (List.mem_of_find?_eq_some hy)).spans (hkept _ (keptRun_mem ..)))
      exact Matching.foldl_inBounds
        (fun m hm r' hr' => Matching.inBounds_split hm (hkept r' (List.mem_of_mem_filter hr'))) hmoved
    next => exact hmerged
  next => exact h

theorem nearerOf_eq (r : Run) (x y : Named) : nearerOf r x y = x ∨ nearerOf r x y = y := by
  unfold nearerOf
  split <;> simp

theorem Matching.inBounds_appear {now : Nat} {m : Matching} {r : Run} (h : m.inBounds) (hr : r.inRange) :
    (m.appear now r).inBounds := by
  unfold Matching.appear
  split
  next hroom =>
    refine Matching.inBounds_settle ⟨fun x hx => ?_, by simpa using hroom⟩ (inRange_newBody now hr)
    rcases List.mem_append.mp hx with hx | hx
    · exact h.1 x hx
    · obtain rfl := List.mem_singleton.mp hx
      exact inRange_newBody now hr
  next =>
    split
    next => exact h
    next x xs hcons =>
      have hnear : xs.foldl (nearerOf r) x ∈ m.bodies := hcons ▸ foldl_mem_of_choice _ (nearerOf_eq r) xs x
      exact Matching.inBounds_settle h (Body.inRange_absorb (h.1 _ hnear).spans hr)

theorem mem_insertNamed {x y : Named} {l : List Named} : y ∈ linkBody.insertNamed x l ↔ y = x ∨ y ∈ l := by
  induction l with
  | nil => simp [linkBody.insertNamed]
  | cons z l ih =>
    unfold linkBody.insertNamed
    split
    · simp
    · simp [ih]
      tauto

/-- R99: no body comes into the groups but those of the list. -/
theorem linkBody_bodies {P : Named → Prop} {gs : List Group} {x : Named} (hx : P x) (h : ∀ g ∈ gs, ∀ y ∈ g.bodies, P y) :
    ∀ g ∈ linkBody gs x, ∀ y ∈ g.bodies, P y := by
  intro g hg y hy
  simp only [linkBody] at hg
  split at hg
  · exact h g hg y hy
  · rcases mem_insertGroup.mp hg with rfl | hg
    · rcases mem_insertNamed.mp hy with rfl | hy
      · exact hx
      · obtain ⟨g', hg', hy'⟩ := List.mem_flatMap.mp hy
        exact h g' (List.mem_of_mem_filter hg') y hy'
    · exact h g (List.mem_of_mem_filter hg) y hy

theorem groupsOf_bodies {P : Named → Prop} {bodies : List Named} {runs : List Run} (h : ∀ x ∈ bodies, P x) :
    ∀ g ∈ groupsOf bodies runs, ∀ y ∈ g.bodies, P y := by
  have hstart : ∀ g ∈ runs.map (fun r => (⟨[], [r]⟩ : Group)), ∀ y ∈ g.bodies, P y := by
    intro g hg y hy
    obtain ⟨x, -, rfl⟩ := List.mem_map.mp hg
    cases hy
  unfold groupsOf
  generalize runs.map (fun r => (⟨[], [r]⟩ : Group)) = gs at hstart
  induction bodies generalizing gs with
  | nil => exact hstart
  | cons x bodies ih =>
    exact ih (fun y hy => h y (List.mem_cons_of_mem _ hy)) _ (linkBody_bodies (h x List.mem_cons_self) hstart)

theorem mem_numbered {x : Named} {bodies : List Body} (h : x ∈ numbered bodies) : x.2 ∈ bodies := by
  obtain ⟨⟨b, i⟩, hb, rfl⟩ := List.mem_map.mp h
  exact List.fst_mem_of_mem_zipIdx hb

/-- R98, R99: a view's matching keeps the body list in its bounds. -/
theorem matchView_inBounds (now : Nat) {bodies : List Body} {runs : List Run} (hb : ∀ x ∈ bodies, x.inRange)
    (hlen : bodies.length ≤ Config.bodyCapacity) (hr : ∀ r ∈ runs, r.inRange) : (matchView now bodies runs).inBounds := by
  have hstaying : ∀ x ∈ (numbered bodies).filter fun x => runs.any x.2.overlaps, x.2.inRange := fun x hx =>
    hb _ (mem_numbered (List.mem_of_mem_filter hx))
  have hruns := groupsOf_runs (P := Run.inRange)
    (bodies := (numbered bodies).filter fun x => runs.any x.2.overlaps) hr
  refine Matching.foldl_inBounds (fun m hm r hr' => Matching.inBounds_appear hm ?_) ?_
  · obtain ⟨g, hg, hmem⟩ := List.mem_flatMap.mp hr'
    exact hruns g (List.mem_of_mem_filter hg) r hmem
  · refine Matching.foldl_inBounds (fun m hm g hg => ?_) ⟨hstaying, ?_⟩
    · have hg' := List.mem_of_mem_filter hg
      exact Matching.inBounds_group hm (groupsOf_bodies hstaying g hg') (hruns g hg')
    · refine (List.length_filter_le ..).trans ?_
      simpa [numbered] using hlen

end Sys2Proof.Machine

/-! PROOFS. What the beam layer, the trim and the sensor port keep (`Sound`). -/

namespace Sys2Proof.Machine

open Sys2Proof Sound

variable {s t : State}

/-! ### The six records -/

theorem Six.get_mem {α : Type} (x : Six α) (i : Nat) : x.get i ∈ x.toList := by
  unfold Six.get
  split <;> simp [Six.toList]

theorem Six.mem_put {α : Type} {x : Six α} {i : Nat} {v y : α} (h : y ∈ (x.put i v).toList) : y = v ∨ y ∈ x.toList := by
  unfold Six.put at h
  split at h <;> simp [Six.toList] at h ⊢ <;> tauto

theorem Six.mem_map {α β : Type} {f : α → β} {x : Six α} {y : β} (h : y ∈ (x.map f).toList) : ∃ z ∈ x.toList, f z = y := by
  simp [Six.toList, Six.map] at h ⊢
  tauto

theorem Six.mem_join {α β γ : Type} {f : α → β → γ} {x : Six α} {y : Six β} {z : γ} (h : z ∈ (x.join f y).toList) :
    ∃ a ∈ x.toList, ∃ b ∈ y.toList, f a b = z := by
  simp only [Six.toList, Six.join, List.mem_cons, List.not_mem_nil, or_false] at h
  rcases h with rfl | rfl | rfl | rfl | rfl | rfl
  · exact ⟨x.b1, by simp [Six.toList], y.b1, by simp [Six.toList], rfl⟩
  · exact ⟨x.b2, by simp [Six.toList], y.b2, by simp [Six.toList], rfl⟩
  · exact ⟨x.b3, by simp [Six.toList], y.b3, by simp [Six.toList], rfl⟩
  · exact ⟨x.b4, by simp [Six.toList], y.b4, by simp [Six.toList], rfl⟩
  · exact ⟨x.b5, by simp [Six.toList], y.b5, by simp [Six.toList], rfl⟩
  · exact ⟨x.b6, by simp [Six.toList], y.b6, by simp [Six.toList], rfl⟩

theorem Beams.faults_le (b : Beams) : b.faults ≤ 6 := List.countP_le_length

/-- Beams whose records change, each keeping its ranges. -/
theorem Beams.inBounds.withRecords {b : Beams} {x : Six BeamRecord} (h : b.inBounds) (hx : ∀ r ∈ x.toList, r.inRange) :
    ({ b with records := x } : Beams).inBounds :=
  ⟨⟨hx, h.1.2⟩, h.2⟩

theorem Beams.inBounds.withTrim {b : Beams} {trim : Option Nat} (h : b.inBounds) (ht : ∀ i, trim = some i → 1 ≤ i ∧ i ≤ 6) :
    ({ b with trimBeam := trim } : Beams).inBounds := by
  obtain ⟨⟨hrecords, hbodies, -, hrest⟩, hlen⟩ := h
  exact ⟨⟨hrecords, hbodies, ht, hrest⟩, hlen⟩

theorem onRecord_sound {i : Nat} {f : BeamRecord → BeamRecord} (h : Sound s t)
    (hf : t.params.inRange → (t.record i).inRange → (f (t.record i)).inRange) : Sound s (onRecord i f t) :=
  h.onBeam fun hq hb => hb.withRecords fun _ hr => by
    rcases Six.mem_put hr with rfl | hr
    · exact hf hq (hb.1.1 _ (Six.get_mem ..))
    · exact hb.1.1 _ hr

theorem noTrim_sound (h : Sound s t) : Sound s (t.onBeam fun b => { b with trimBeam := none }) :=
  h.onBeam fun _ hb => hb.withTrim nofun

/-! ### The beam layer (R88 to R90) -/

theorem tdiv_pow_bounds (shift : Nat) {d : Int} (hd : 0 ≤ d) : 0 ≤ d.tdiv (2 ^ shift) ∧ d.tdiv (2 ^ shift) ≤ d := by
  have hp : (0 : Int) < 2 ^ shift := by positivity
  rw [Int.tdiv_eq_ediv_of_nonneg hd]
  exact ⟨Int.ediv_nonneg hd hp.le, Int.ediv_le_self _ hd⟩

/-- R90: a step goes toward the level, by 1 at least, and never past it. -/
theorem trackStep_bounds (shift : Nat) (d : Int) :
    (0 < d → 1 ≤ trackStep shift d ∧ trackStep shift d ≤ d) ∧ (d < 0 → d ≤ trackStep shift d ∧ trackStep shift d ≤ -1)
      ∧ (d = 0 → trackStep shift d = 0) := by
  have hpos := tdiv_pow_bounds shift (d := d)
  have hneg := tdiv_pow_bounds shift (d := -d)
  rw [Int.neg_tdiv] at hneg
  simp only [trackStep]
  refine ⟨fun hd => ?_, fun hd => ?_, fun hd => by simp [hd]⟩
  · have := hpos hd.le
    repeat' split
    all_goals omega
  · have := hneg (by omega)
    repeat' split
    all_goals omega

theorem trackedRef_le (q : Params) {ref level n : Nat} (hr : ref ≤ n) (hl : level ≤ n) : trackedRef q ref level ≤ n := by
  unfold trackedRef
  simp only
  generalize (if (q.fastBound : Int) < (level : Int) - ref then q.fastShift else q.slowShift) = shift
  obtain ⟨hup, hdown, hzero⟩ := trackStep_bounds shift ((level : Int) - ref)
  rcases lt_trichotomy ((level : Int) - ref) 0 with h | h | h
  · have := hdown h
    omega
  · have := hzero h
    omega
  · have := hup h
    omega

theorem Params.inRange.debounce {q : Params} (h : q.inRange) : 1 ≤ q.debounce ∧ q.debounce ≤ 8 := by
  have := h.1 21 1 8 rfl
  simp only [Params.read] at this
  omega

theorem Params.inRange.trimSettle {q : Params} (h : q.inRange) : q.trimSettle ≤ 16 := by
  have := h.1 27 1 16 rfl
  simp only [Params.read] at this
  omega

theorem Params.inRange.trimSteps {q : Params} (h : q.inRange) : q.trimSteps ≤ 32 := by
  have := h.1 28 1 32 rfl
  simp only [Params.read] at this
  omega

theorem sampleClear_inRange {q : Params} {r : BeamRecord} {level : Nat} (hq : q.inRange) (hl : level ≤ 4095)
    (hr : r.inRange) : (sampleClear q level r).inRange := by
  obtain ⟨hlevel, href, hdrive, _, hrest⟩ := hr
  have hd := hq.debounce.2
  unfold sampleClear
  split
  · split
    · exact ⟨hlevel, href, hdrive, Nat.zero_le _, hrest⟩
    next hless => exact ⟨hlevel, href, hdrive, (by omega : r.count + 1 ≤ 8), hrest⟩
  · exact ⟨hlevel, trackedRef_le q href hl, hdrive, Nat.zero_le _, hrest⟩

theorem sampleBlocked_inRange {q : Params} {r : BeamRecord} (level : Nat) (hq : q.inRange) (hr : r.inRange) :
    (sampleBlocked q level r).inRange := by
  obtain ⟨hlevel, href, hdrive, _, hrest⟩ := hr
  have hd := hq.debounce.2
  unfold sampleBlocked
  split
  · split
    · exact ⟨hlevel, href, hdrive, Nat.zero_le _, hrest⟩
    next hless => exact ⟨hlevel, href, hdrive, (by omega : r.count + 1 ≤ 8), hrest⟩
  · exact ⟨hlevel, href, hdrive, Nat.zero_le _, hrest⟩

theorem sampleBeam_inRange {q : Params} {r : BeamRecord} {level : Nat} (hq : q.inRange) (hl : level ≤ 4095)
    (hr : r.inRange) : (sampleBeam q r level).inRange := by
  have ht : ({ r with level := level } : BeamRecord).inRange := ⟨hl, hr.2⟩
  simp only [sampleBeam]
  split
  · exact sampleClear_inRange hq hl ht
  · exact sampleBlocked_inRange level hq ht
  · exact ht
  · exact ht

theorem Beams.inBounds_sampled {q : Params} {levels : Six Nat} {b : Beams} (hq : q.inRange)
    (hl : ∀ l ∈ levels.toList, l ≤ 4095) (h : b.inBounds) : (b.sampled q levels).inBounds := by
  unfold Beams.sampled
  split <;> refine h.withRecords fun r hr => ?_ <;> obtain ⟨x, hx, l, hmem, rfl⟩ := Six.mem_join hr
  · obtain ⟨-, -, hrest⟩ := h.1.1 x hx
    exact ⟨hl l hmem, hl l hmem, hrest⟩
  · exact sampleBeam_inRange hq (hl l hmem) (h.1.1 x hx)

theorem Beams.inBounds_received {b : Beams} (h : b.inBounds) : b.received.inBounds := by
  obtain ⟨⟨hrecords, hbodies, htrim, htag, -⟩, hlen⟩ := h
  refine ⟨⟨?_, hbodies, htrim, htag, Nat.zero_le _⟩, hlen⟩
  simp only [Beams.received]
  split
  · intro r hr
    obtain ⟨x, hx, rfl⟩ := Six.mem_map hr
    obtain ⟨hlevel, href, hdrive, -, hrest⟩ := hrecords x hx
    unfold unsilencedRecord
    split
    · exact ⟨hlevel, href, hdrive, Nat.zero_le _, hrest⟩
    · exact hrecords x hx
  · exact hrecords

/-! ### The trim (R93 to R97) -/

theorem BeamRecord.inRange.withSettle {r : BeamRecord} (h : r.inRange) {n : Nat} (hn : n ≤ 16) :
    ({ r with settle := n } : BeamRecord).inRange := by
  obtain ⟨hlevel, href, hdrive, hcount, hsteps, -⟩ := h
  exact ⟨hlevel, href, hdrive, hcount, hsteps, hn⟩

@[simp] theorem trimSucceeds_sound {i : Nat} (h : Sound s t) : Sound s (trimSucceeds i t) := by
  refine noTrim_sound (onRecord_sound h fun _ hr => ?_)
  obtain ⟨hlevel, href, hdrive, -, hsteps, -⟩ := hr
  exact ⟨hlevel, href, hdrive, Nat.zero_le _, hsteps, Nat.zero_le _⟩

@[simp] theorem trimFault_sound {i : Nat} (h : Sound s t) : Sound s (trimFault i t) := event_sound <| appendReserve_sound h

@[simp] theorem trimFails_sound {i : Nat} (h : Sound s t) : Sound s (trimFails i t) := by
  simp only [trimFails]
  split
  · exact onRecord_sound (noTrim_sound h) fun _ hr => hr.withSettle (Nat.zero_le _)
  · refine trimFault_sound <| onRecord_sound (noTrim_sound h) fun _ hr => ?_
    exact hr.withSettle (Nat.zero_le _)

theorem Params.nextDrive_le {q : Params} {r : BeamRecord} {drive : Nat} (h : q.nextDrive r = some drive)
    (hr : r.drive ≤ 63) : drive ≤ 63 := by
  unfold Params.nextDrive at h
  repeat' split at h
  all_goals simp at h
  all_goals omega

@[simp] theorem judgeTrim_sound {i : Nat} (h : Sound s t) : Sound s (judgeTrim i t) := by
  simp only [judgeTrim]
  repeat' split
  · simp [h]
  next drive hdrive hsteps =>
    refine send <| onRecord_sound h fun hq hr => ?_
    obtain ⟨hlevel, href, hdr, hcount, -, -⟩ := hr
    have := hq.trimSteps
    exact ⟨hlevel, href, Params.nextDrive_le hdrive hdr, hcount, by simp only; omega, Nat.zero_le _⟩
  · simp [h]
  · simp [h]

/-- A number that names no beam names a record that no change reaches. -/
theorem onRecord_cases (i : Nat) :
    (∀ f s, onRecord i f s = s) ∨ (∀ f s, (onRecord i f s).record i = f (s.record i)) := by
  match i with
  | 0 => exact .inl fun _ _ => rfl
  | 1 | 2 | 3 | 4 | 5 | 6 => exact .inr fun _ _ => rfl
  | _ + 7 => exact .inl fun _ _ => rfl

theorem onRecord_onRecord (i : Nat) (f g : BeamRecord → BeamRecord) (s : State) :
    onRecord i f (onRecord i g s) = onRecord i (f ∘ g) s := by
  match i with
  | 0 | 1 | 2 | 3 | 4 | 5 | 6 => rfl
  | _ + 7 => rfl

/-- R94, R95: what the band test and the limits do does not depend on Settle, and leaves it 0. -/
theorem judgeTrim_settle (i : Nat) (n : Nat) (s : State) :
    judgeTrim i (onRecord i (fun r => { r with settle := n }) s) = judgeTrim i s := by
  rcases onRecord_cases i with h | h
  · rw [h]
  · have hrecord := h (fun r => { r with settle := n }) s
    have hfault : ∀ u : State, (u.onBeam fun b => { b with trimBeam := none }).record i = u.record i := fun _ => rfl
    have hcomm : ∀ f u, (onRecord i f u).onBeam (fun b => { b with trimBeam := none })
        = onRecord i f (u.onBeam fun b => { b with trimBeam := none }) := fun _ _ => rfl
    simp only [judgeTrim, hrecord, trimSucceeds, trimStep, trimFails, hcomm, onRecord_onRecord, hfault, onRecord_frame]
    simp only [Params.nextDrive, h, hfault]
    rfl

@[simp] theorem settleTrim_sound {i : Nat} (h : Sound s t) : Sound s (settleTrim i t) := by
  simp only [settleTrim]
  split
  next =>
    rw [← judgeTrim_settle i 0, onRecord_onRecord, onRecord_onRecord]
    refine judgeTrim_sound <| onRecord_sound h fun _ hr => ?_
    obtain ⟨hlevel, -, hdrive, hcount, hsteps, -⟩ := hr
    exact ⟨hlevel, hlevel, hdrive, hcount, hsteps, Nat.zero_le _⟩
  next hsettle =>
    rcases onRecord_cases i with hout | hin
    · rwa [hout]
    · rw [hin] at hsettle
      refine onRecord_sound h fun hq hr => hr.withSettle ?_
      have := hq.trimSettle
      have hnot : ¬ t.params.trimSettle ≤ (t.record i).settle + 1 := hsettle
      omega

@[simp] theorem interruptTest_sound (h : Sound s t) : Sound s (interruptTest t) := by
  unfold interruptTest
  split
  · split
    · exact h
    · refine noTrim_sound <| onRecord_sound h fun _ hr => ?_
      obtain ⟨hlevel, href, hdrive, hcount, -, -⟩ := hr
      unfold interruptedRecord
      split
      · exact ⟨hlevel, hlevel, hdrive, Nat.zero_le _, Nat.zero_le _, Nat.zero_le _⟩
      · exact ⟨hlevel, href, hdrive, hcount, Nat.zero_le _, Nat.zero_le _⟩
  · exact h

@[simp] theorem advanceTrim_sound (h : Sound s t) : Sound s (advanceTrim t) := by
  unfold advanceTrim
  split <;> simp [h]

theorem State.trimCandidate_inRange {i : Nat} (h : s.trimCandidate = some i) : 1 ≤ i ∧ i ≤ 6 := by
  have hmem := List.mem_of_find?_eq_some h
  simp at hmem
  omega

@[simp] theorem seekTrim_sound (h : Sound s t) : Sound s (seekTrim t) := by
  unfold seekTrim
  repeat' split
  next i hi =>
    refine judgeTrim_sound <| onBeam (onRecord_sound h fun _ hr => ?_) fun _ hb => hb.withTrim ?_
    · obtain ⟨hlevel, href, hdrive, hcount, -, hsettle⟩ := hr
      split <;> exact ⟨hlevel, href, hdrive, hcount, Nat.zero_le _, hsettle⟩
    · rintro j ⟨⟩
      exact State.trimCandidate_inRange hi
  all_goals exact h

/-! ### The view and its reports (R98 to R107) -/

/-- R107: a report of the count of faulty beams carries it. -/
theorem faultCount_mem_viewReports {n : Nat} {m : Matching} {left : List Body} (h : .faultCount n ∈ viewReports s m left) :
    n ≤ 6 := by
  have hn : n = s.beam.faults := by
    simp only [viewReports, List.mem_append, List.mem_map, Matching.crossingReport] at h
    rcases h with (((h | h) | h) | h) | h
    · split at h <;> simp_all
    · split at h <;> simp_all
    all_goals obtain ⟨_, _, hx⟩ := h; cases hx
  rw [hn]
  exact Beams.faults_le _

theorem takeReport_sound {r : Report} (h : Sound s t) (hr : ∀ n, r = .faultCount n → n ≤ 6) : Sound s (takeReport t r) := by
  cases r with
  | faultCount n => exact faultReport_sound h (hr n rfl)
  | flapZone blocked => exact flapZoneReport_sound h
  | appearance o => exact makeBrisk_sound h
  | crossing d long => exact crossing_sound h
  | departure o kind crossed => exact releaseTest_sound h

theorem foldl_takeReport_sound {l : List Report} (h : Sound s t) (hl : ∀ n, .faultCount n ∈ l → n ≤ 6) :
    Sound s (l.foldl takeReport t) := by
  induction l generalizing t with
  | nil => exact h
  | cons r l ih =>
    refine ih (takeReport_sound h fun n hn => hl n (hn ▸ List.mem_cons_self)) fun n hn => hl n (List.mem_cons_of_mem _ hn)

@[simp] theorem takeView_sound (h : Sound s t) : Sound s (takeView t) := by
  simp only [takeView]
  refine foldl_takeReport_sound (h.onBeam fun _ hb => ?_) fun n hn => faultCount_mem_viewReports hn
  obtain ⟨⟨hrecords, hbodies, hrest⟩, hlen⟩ := hb
  obtain ⟨hmatched, hmlen⟩ := matchView_inBounds t.now hbodies hlen (runsOf_view_inRange t.beam)
  refine ⟨⟨hrecords, fun b hb => ?_, hrest⟩, by simpa using hmlen⟩
  obtain ⟨x, hx, rfl⟩ := List.mem_map.mp hb
  exact hmatched x hx

theorem processSample_sound {levels : Six Nat} (h : Sound s t) (hl : ∀ l ∈ levels.toList, l ≤ 4095) :
    Sound s (processSample levels t) :=
  takeView_sound <| seekTrim_sound <| advanceTrim_sound <| h.onBeam fun hq hb =>
    Beams.inBounds_sampled hq hl (Beams.inBounds_received hb)

/-! ### The sensor port (R85, R86, R106) -/

theorem parseSample_levels {message : List Byte} {tag : Nat} {levels : Six Nat}
    (h : parseSample message = some (tag, levels)) : ∀ l ∈ levels.toList, l ≤ 4095 := by
  unfold parseSample at h
  split at h
  · simp only at h
    split at h
    next hgood =>
      obtain ⟨-, rfl⟩ := Prod.mk.inj (Option.some.inj h)
      simpa using hgood.2
    next => cases h
  · cases h

@[simp] theorem sendSample_sound (h : Sound s t) : Sound s (sendSample t) := by
  refine send <| h.onBeam fun _ ⟨⟨hrecords, hbodies, htrim, htag, hmissed⟩, hlen⟩ => ?_
  exact ⟨⟨hrecords, hbodies, htrim, nextTag_inRange htag, hmissed⟩, hlen⟩

@[simp] theorem fallSilent_sound (h : Sound s t) : Sound s (fallSilent t) := by
  have hsilent : Sound s (t.onBeam fun b =>
      { b with silent := true, trimBeam := none, records := b.records.map silencedRecord, bodies := [] }) := by
    refine h.onBeam fun _ ⟨⟨hrecords, _, _, hrest⟩, _⟩ => ⟨⟨fun r hr => ?_, nofun, nofun, hrest⟩, Nat.zero_le _⟩
    obtain ⟨x, hx, rfl⟩ := Six.mem_map hr
    obtain ⟨hlevel, href, hdrive, hcount, -, -⟩ := hrecords x hx
    unfold silencedRecord
    split <;> exact ⟨hlevel, href, hdrive, hcount, Nat.zero_le _, Nat.zero_le _⟩
  refine event_sound <| appendReserve_sound ?_
  split
  · exact releaseTest_sound hsilent
  · exact faultReport_sound (releaseTest_sound hsilent) (Beams.faults_le _)

@[simp] theorem missPeriod_sound (h : Sound s t) : Sound s (missPeriod t) := by
  simp only [missPeriod]
  split
  · exact h
  · have hmissed : Sound s (t.onBeam fun b => { b with missed := min Config.missedLimit (t.beam.missed + 1) }) := by
      refine h.onBeam fun _ ⟨⟨hrecords, hbodies, htrim, htag, _⟩, hlen⟩ => ?_
      exact ⟨⟨hrecords, hbodies, htrim, htag, Nat.min_le_left ..⟩, hlen⟩
    split <;> simp [hmissed]

theorem markReported_inRange {now : Nat} {l : List Body} (h : ∀ x ∈ l, x.inRange) : ∀ x ∈ markReported now l, x.inRange := by
  induction l with
  | nil => exact h
  | cons b l ih =>
    unfold markReported
    have htail := fun x hx => h x (List.mem_cons_of_mem b hx)
    split <;> intro x hx <;> rcases List.mem_cons.mp hx with rfl | hx
    · exact h b List.mem_cons_self
    · exact htail x hx
    · exact h x List.mem_cons_self
    · exact ih htail x hx

theorem length_markReported (now : Nat) (l : List Body) : (markReported now l).length = l.length := by
  induction l with
  | nil => rfl
  | cons b l ih =>
    unfold markReported
    split <;> simp [ih]

theorem markReported_sound (now : Nat) (h : Sound s t) :
    Sound s (t.onBeam fun b => { b with bodies := markReported now b.bodies }) := by
  refine h.onBeam fun _ ⟨⟨hrecords, hbodies, hrest⟩, hlen⟩ => ?_
  exact ⟨⟨hrecords, markReported_inRange hbodies, hrest⟩, (length_markReported ..).trans_le hlen⟩

end Sys2Proof.Machine

/-! PROOFS. What the tariff's stage commands, the clock, SET and the other line commands keep (chapters 4 and 10). -/

namespace Sys2Proof.Machine

open Sys2Proof

variable {s t : State}

/-! ### The stage, the switch and the clock -/

@[simp] theorem testSwitch_sound (h : Sound s t) : Sound s (testSwitch t) := by
  unfold testSwitch
  split
  · exact h.onTariff id
  · exact h

@[simp] theorem replaceStage_sound {g : Stage} (h : Sound s t) : Sound s (replaceStage g t) :=
  releaseHeldContexts_sound <| h.onTariff fun _ => nofun

@[simp] theorem applySwitch_sound {b : Bank} (h : Sound s t) : Sound s (applySwitch b t) :=
  releaseHeldContexts_sound <| event_sound <| h.onTariff fun _ => nofun

@[simp] theorem stageOpened_sound {bankTag : Nat} (h : Sound s t) : Sound s (stageOpened bankTag t).2 := by
  unfold stageOpened
  split
  · exact h
  · exact replaceStage_sound h

@[simp] theorem stageLoaded_sound {bankTag segment part : Nat} {b : List Byte} (h : Sound s t) :
    Sound s (stageLoaded bankTag segment part b t).2 := by
  unfold stageLoaded
  split
  · exact h
  split
  · exact h
  split
  · dsimp only
    exact h.onTariff id
  · exact h

theorem acceptSwitch_sound {effective : Option ServiceTime} (h : Sound s t) (he : ∀ r, effective = some r → r.inRange = true) :
    Sound s (acceptSwitch effective t) := testSwitch_sound <| h.onTariff fun _ => he

theorem retimeSwitch_sound {effective : Option ServiceTime} (h : Sound s t) (he : ∀ r, effective = some r → r.inRange = true) :
    Sound s (retimeSwitch effective t) := testSwitch_sound <| h.onTariff fun _ => he

theorem stageSwitched_sound {effective : Option ServiceTime} (h : Sound s t) (he : ∀ r, effective = some r → r.date ≤ 65535) :
    Sound s (stageSwitched effective t).2 := by
  have hrange (hbad : ¬ effective.any (fun e => decide (86399 < e.secs)) = true) : ∀ r, effective = some r → r.inRange = true := by
    rintro r rfl
    simpa [ServiceTime.inRange, he r rfl] using hbad
  simp only [stageSwitched]
  split
  · exact h
  · split
    · exact h
    next hbad =>
      split
      · exact h
      · split
        · exact acceptSwitch_sound h (hrange hbad)
        · exact h
  · split
    · exact h
    next hbad => exact retimeSwitch_sound h (hrange hbad)

@[simp] theorem stageDiscarded_sound (h : Sound s t) : Sound s (stageDiscarded t) := by
  unfold stageDiscarded
  split <;> simp [h]

theorem setClock_sound {date secs : Nat} (h : Sound s t) (hd : date ≤ 65535) (hs : secs ≤ 86399) :
    Sound s (setClock date secs t) :=
  testSwitch_sound <| h.onMgmt fun ⟨hno, _⟩ => ⟨hno, by simp [ServiceTime.inRange, hd, hs]⟩

theorem ServiceTime.advance_inRange {x : ServiceTime} (h : x.inRange = true) : x.advance.inRange = true := by
  simp only [ServiceTime.inRange, Bool.and_eq_true, decide_eq_true_eq] at h ⊢
  unfold ServiceTime.advance
  split <;> constructor <;> simp only <;> omega

@[simp] theorem Sound.second {n : Nat} (h : Sound s t) : Sound s { t with second := n } :=
  h.trans { Sound.refl t with beam := fun _ => id, pending := rfl }

@[simp] theorem advanceClock_sound (h : Sound s t) : Sound s (advanceClock t) := by
  simp only [advanceClock]
  split
  · exact h.second
  · exact testSwitch_sound <| h.second.onMgmt fun ⟨hno, htime⟩ => ⟨hno, ServiceTime.advance_inRange htime⟩

@[simp] theorem staleClock_sound (h : Sound s t) : Sound s (staleClock t) := h.onMgmt id

/-! ### The parameters (R92, R186) -/

/-- The parameters' values in the order of their numbers; number 0 names none. -/
def Params.table (q : Params) : List Int :=
  ([0, q.verbSense, q.verbRead, q.verbProve, q.verbCommit, q.verbMark, q.retries, q.pollBrisk, q.pollSteady, q.pollDormant,
    q.proofTimeout, q.passbackWindow, q.grace, q.horizon, q.recoveryWindow] : List Int)
  ++ ([if q.markOnClone then 1 else 0, q.sampleBrisk, q.sampleSteady, q.sampleDormant, q.blockLevel, q.releaseLevel, q.debounce,
    q.slowShift, q.fastShift, q.fastBound, q.target, q.band, q.trimSettle, q.trimSteps] : List Int)
  ++ ([q.creditLife, q.waitLimit, q.closeDelay, q.flapMotionLimit, q.briskHold, q.idleToDormant, q.tallyGap, q.highWater,
    q.sightHops, q.silence, q.timeStale, q.eventMask.toNat] : List Int)

theorem Params.read_eq (q : Params) (n : Nat) : q.read n = q.table.getD n 0 := by
  obtain h | h := Nat.lt_or_ge n 41
  · interval_cases n <;> rfl
  · obtain ⟨k, rfl⟩ := Nat.exists_eq_add_of_le' h
    rfl

/-- A number of a parameter with a range (R186). -/
theorem Params.table_write {n : Nat} {lo hi : Int} (h : paramRange n = some (lo, hi)) (q : Params) (v : Nat) :
    (q.write n v).table = q.table.set n v := by
  unfold paramRange at h
  split at h
  case h_39 => cases h
  all_goals rfl

theorem paramRange_bounds {n : Nat} {lo hi : Int} (h : paramRange n = some (lo, hi)) : 0 ≤ lo ∧ lo ≤ hi ∧ n ≤ 40 := by
  unfold paramRange at h
  split at h
  case h_39 => cases h
  all_goals cases h; decide

/-- Every parameter is read back as it was written, and no other changes. -/
theorem Params.read_write {n : Nat} {lo hi : Int} (h : paramRange n = some (lo, hi)) (q : Params) (v m : Nat) :
    (q.write n v).read m = if m = n then (v : Int) else q.read m := by
  have hn : n < q.table.length := Nat.lt_succ_of_le (paramRange_bounds h).2.2
  rw [Params.read_eq, Params.table_write h, Params.read_eq]
  split
  next e => rw [e, List.getD_eq_getElem?_getD, List.getElem?_set_self hn, Option.getD_some]
  next e => rw [List.getD_eq_getElem?_getD, List.getD_eq_getElem?_getD, List.getElem?_set_ne (Ne.symm e)]

/-- R186: every parameter in its range. -/
def Params.inOwnRanges (q : Params) : Prop := ∀ n lo hi, paramRange n = some (lo, hi) → lo ≤ q.read n ∧ q.read n ≤ hi

theorem clampInt_bounds {lo hi : Int} (h : lo ≤ hi) (v : Int) : lo ≤ clampInt lo hi v ∧ clampInt lo hi v ≤ hi := by
  unfold clampInt
  repeat' split
  all_goals omega

theorem Params.inOwnRanges_write {q : Params} {n v : Nat} {lo hi : Int} (h : paramRange n = some (lo, hi)) (hq : q.inOwnRanges)
    (hv : lo ≤ v ∧ (v : Int) ≤ hi) : (q.write n v).inOwnRanges := by
  intro m l u hm
  rw [Params.read_write h]
  split
  next e =>
    subst e
    cases hm.symm.trans h
    exact hv
  next => exact hq m l u hm

theorem Params.read_of_ranged {n : Nat} {lo hi : Int} (h : paramRange n = some (lo, hi)) (q : Params) (mark : Bool)
    (mask : BitVec 12) : ({ q with markOnClone := mark, eventMask := mask } : Params).read n = q.read n := by
  unfold paramRange at h
  split at h
  case h_39 => cases h
  all_goals rfl

/-- The two parameters that are not clamped (R186, log 13) have no range. -/
theorem Params.inOwnRanges_unclamped {q : Params} (mark : Bool) (mask : BitVec 12) (hq : q.inOwnRanges) :
    ({ q with markOnClone := mark, eventMask := mask } : Params).inOwnRanges :=
  fun n lo hi hn => Params.read_of_ranged hn q mark mask ▸ hq n lo hi hn

theorem Params.inOwnRanges_applyEntry {q : Params} (n : Nat) (v : Int) (hq : q.inOwnRanges) : (q.applyEntry n v).1.inOwnRanges := by
  unfold Params.applyEntry
  split
  · exact Params.inOwnRanges_unclamped _ q.eventMask hq
  split
  · exact Params.inOwnRanges_unclamped q.markOnClone _ hq
  split
  next lo hi hn =>
    obtain ⟨hlo, hle, -⟩ := paramRange_bounds hn
    have hv := clampInt_bounds hle v
    refine Params.inOwnRanges_write hn hq ?_
    omega
  next => exact hq

theorem Params.inOwnRanges_applyEntries (entries : List (Byte × Int)) {q : Params} (hq : q.inOwnRanges) :
    (q.applyEntries entries).1.inOwnRanges := by
  induction entries generalizing q with
  | nil => exact hq
  | cons e es ih => exact ih (Params.inOwnRanges_applyEntry e.1.toNat e.2 hq)

theorem Params.dependentBounds_eq (q : Params) :
    q.dependentBounds.1 = (q.write 20 (min q.releaseLevel (q.blockLevel - 50))).write 23 (min q.fastShift q.slowShift) := rfl

/-- R92: the dependent bounds hold after they have been applied, and every parameter stays in its range. -/
theorem Params.inRange_dependentBounds {q : Params} (hq : q.inOwnRanges) : q.dependentBounds.1.inRange := by
  have hblock := hq 19 50 2000 rfl
  have hrelease := hq 20 0 1950 rfl
  have hslow := hq 22 2 10 rfl
  have hfast := hq 23 1 10 rfl
  simp only [Params.read] at hblock hrelease hslow hfast
  refine ⟨?_, ?_, ?_⟩
  · rw [Params.dependentBounds_eq]
    refine Params.inOwnRanges_write rfl (Params.inOwnRanges_write rfl hq ?_) ?_ <;> omega
  · show min q.releaseLevel (q.blockLevel - 50) + 50 ≤ q.blockLevel
    omega
  · exact Nat.min_le_right ..

/-- R186, R92: the parameters after a SET. -/
theorem Params.inRange_set (entries : List (Byte × Int)) {q : Params} (hq : q.inRange) : (q.set entries).1.inRange :=
  Params.inRange_dependentBounds (Params.inOwnRanges_applyEntries entries hq.1)

@[simp] theorem lapseWaited_sound {d : Direction} (h : Sound s t) : Sound s (lapseWaited d t) :=
  foldl_lapse_sound List.filter_sublist.subperm h

theorem replaceParams_sound {q : Params} (h : Sound s t) (hq : t.params.inRange → q.inRange) : Sound s (replaceParams q t) := by
  have hset : Sound s { t with params := q } := h.trans { Sound.refl t with beam := fun _ => id, params := hq, pending := rfl }
  simp only [replaceParams]
  split <;> simp [hset]

@[simp] theorem runSet_sound {entries : List (Byte × Int)} (h : Sound s t) : Sound s (runSet entries t).state := by
  unfold runSet
  split
  · exact replaceParams_sound h (Params.inRange_set entries)
  · exact h

/-! ### The other line commands -/

theorem Standing.withinCapacity_dropDeny {x : Standing} (cardId : Nat) (h : x.withinCapacity) :
    ({ x with deny := dropBy DenyEntry.cardId cardId x.deny } : Standing).withinCapacity := by
  obtain ⟨horder, hlen, hrest⟩ := h
  exact ⟨ascending_dropBy _ _ horder, (List.length_filter_le ..).trans hlen, hrest⟩

theorem putDeny_sound {e : DenyEntry} (h : Sound s t)
    (hroom : (t.denied e.cardId).isSome ∨ t.standing.deny.length < Config.denyCapacity) : Sound s (putDeny e t) :=
  h.onStanding fun hx => Standing.withinCapacity_putDeny hroom hx

@[simp] theorem runDenyAdd_sound {cardId : Nat} {reason action : Byte} (h : Sound s t) :
    Sound s (runDenyAdd cardId reason action t).state := by
  unfold runDenyAdd
  repeat' split
  case _ => exact h
  case _ hroom => exact putDeny_sound h hroom
  case _ => exact h
  case _ => exact h

@[simp] theorem runDenyDrop_sound {cardId : Nat} (h : Sound s t) : Sound s (runDenyDrop cardId t).state := by
  unfold runDenyDrop
  split
  · dsimp only
    exact h.onStanding fun hx => Standing.withinCapacity_dropDeny cardId hx
  · exact h

@[simp] theorem runTrim_sound {firstSeq n : Nat} (h : Sound s t) : Sound s (runTrim firstSeq n t).state := by
  unfold runTrim
  split
  · exact h.onJournal (Journal.inBounds_trim n)
  · exact h

theorem laneModeOf_commandable {b : Byte} {m : Mode} (h : laneModeOf b = some m) : m.commandable = true := by
  unfold laneModeOf at h
  split at h
  case h_5 => cases h
  all_goals cases h; rfl

theorem laneModeTaken_sound {m : Option Mode} (h : Sound s t) (hm : ∀ x, m = some x → x.commandable = true) :
    Sound s (laneModeTaken m t).2 := by
  unfold laneModeTaken
  split
  · exact h
  · split
    · exact commandMode_sound h (hm _ rfl)
    · exact h

/-- The dates a command carries, within their two bytes (R200). -/
def LineCommand.datesFit : LineCommand → Prop
  | .time date _ => date ≤ 65535
  | .stageSwitch (some (date, _)) => date ≤ 65535
  | _ => True

theorem ofBe_lt (b : List Byte) : ofBe b < 256 ^ b.length := by
  induction b with
  | nil => decide
  | cons x rest ih =>
    have hx := x.isLt
    rw [ofBe_cons, List.length_cons, Nat.pow_succ]
    nlinarith

theorem fieldAt_two_le (b : List Byte) (i : Nat) : fieldAt b i 2 ≤ 65535 := by
  have h := ofBe_lt ((b.drop i).take 2)
  have hlen : ((b.drop i).take 2).length ≤ 2 := List.length_take_le ..
  have hpow : 256 ^ ((b.drop i).take 2).length ≤ 256 ^ 2 := Nat.pow_le_pow_right (by decide) hlen
  unfold fieldAt
  omega

/-- R200: a date is read from two bytes. -/
theorem parseLineCommand_datesFit {kind : Nat} {b : List Byte} {c : LineCommand} (h : parseLineCommand kind b = some c) :
    c.datesFit := by
  unfold parseLineCommand at h
  split at h
  case h_2 =>
    split at h
    · obtain ⟨_, _, rfl⟩ := Option.map_eq_some_iff.mp h
      trivial
    · cases h
  case h_6 =>
    split at h
    · cases h
      trivial
    · split at h <;> cases h
      exact fieldAt_two_le ..
  case h_1 =>
    split at h <;> cases h
    exact fieldAt_two_le ..
  all_goals repeat' split at h
  all_goals cases h
  all_goals trivial

theorem parseBody_datesFit {kind tag : Byte} {payload : List Byte} {c : LineCommand}
    (h : parseBody kind payload = .command tag c) : c.datesFit := by
  unfold parseBody at h
  split at h
  case h_7 =>
    repeat' split at h
    all_goals cases h
    next hc => exact parseLineCommand_datesFit hc
  all_goals repeat' split at h
  all_goals cases h

/-- R184: whatever a line command does keeps the invariants. -/
theorem execute_sound {c : LineCommand} (h : Sound s t) (hc : c.datesFit) : Sound s (execute c t).state := by
  cases c with
  | time date secs =>
    simp only [execute, runTime]
    split
    · exact h
    next hsecs => exact setClock_sound h hc (Nat.le_of_not_lt hsecs)
  | set entries => exact runSet_sound h
  | query => exact clearFlags_sound h
  | stageOpen tag => exact stageOpened_sound h
  | stageLoad tag segment part values => exact stageLoaded_sound h
  | stageSwitch effective =>
    refine stageSwitched_sound h fun r hr => ?_
    obtain ⟨e, rfl, rfl⟩ := Option.map_eq_some_iff.mp hr
    exact hc
  | stageDiscard => exact stageDiscarded_sound h
  | denyAdd cardId reason action => exact runDenyAdd_sound h
  | denyDrop cardId => exact runDenyDrop_sound h
  | collect k => exact h
  | trim firstSeq n => exact runTrim_sound h
  | laneMode m => exact laneModeTaken_sound h fun _ => laneModeOf_commandable
  | ackStart =>
    dsimp only [execute, runAckStart]
    exact h.onMgmt id
  | restart =>
    dsimp only [execute, runRestart]
    exact h.onMgmt id

end Sys2Proof.Machine

/-! PROOFS. What the Line Interface Unit keeps: each movement of a buffer against the quotas, the routing and the taking of a frame
(chapter 9). -/

namespace Sys2Proof.Machine

open Sys2Proof

variable {s t : State}

/-! ### The counts of the quotas -/

/-- A movement of buffers that raises no count. -/
theorem LineIf.quotasHold.of_le {l m : LineIf} (hle : ∀ q, m.count q ≤ l.count q) (h : l.quotasHold) : m.quotasHold := by
  obtain ⟨hup, hdown, hown⟩ := h
  exact ⟨(hle _).trans hup, (hle _).trans hdown, (hle _).trans hown⟩

theorem ByLine.put_get_self {α : Type} (x : ByLine α) (p : LinePort) : x.put p (x.get p) = x := by cases p <;> rfl

/-- R166: a reception that ends raises no count. -/
theorem LineIf.count_stopReceiving_le (p : LinePort) (q : Quota) (l : LineIf) :
    ({ l with receiving := l.receiving.put p false } : LineIf).count q ≤ l.count q := by
  cases h : l.receiving.get p with
  | true =>
    have := LineIf.count_endReception p q l h
    omega
  | false =>
    rw [← h, ByLine.put_get_self]

/-- R168: a buffer that goes from reception to a relay queue raises no count. -/
theorem LineIf.count_relayed_le {p out : LinePort} {b : Buffered} (q : Quota) {l : LineIf} (hb : b.quota = .port p)
    (h : l.receiving.get p = true) :
    ({ l with receiving := l.receiving.put p false, relayQ := l.relayQ.put out (l.relayQ.get out ++ [b]) } : LineIf).count q
      ≤ l.count q := by
  have hend := LineIf.count_endReception p q l h
  have hjoin := LineIf.count_joinRelay out b q { l with receiving := l.receiving.put p false }
  simp only [hb] at hjoin
  simp only [eq_comm (a := q)] at hend
  omega

/-- R176: a buffer that goes from reception to the held entries raises no count. -/
theorem LineIf.count_held_le {e : HeldEntry} (q : Quota) {l : LineIf} (h : l.receiving.get e.source = true) :
    ({ l with receiving := l.receiving.put e.source false, held := l.held ++ [e] } : LineIf).count q ≤ l.count q := by
  have hend := LineIf.count_endReception e.source q l h
  have hjoin := LineIf.count_joinHeld e q { l with receiving := l.receiving.put e.source false }
  simp only at hjoin
  omega

/-- R164: a teardown raises no count. -/
theorem LineIf.count_tearDown_le (p : LinePort) (q : Quota) (l : LineIf) : (l.tearDown p).count q ≤ l.count q := by
  have harrived : (l.tearDown p).arrived q ≤ l.arrived q := by
    have hheld := fun x => (List.filter_sublist (l := l.held) (p := fun h => h.bound != p)).countP_le (p := x)
    cases q with
    | own => exact le_rfl
    | port r =>
      unfold LineIf.arrived
      refine Nat.add_le_add ?_ (hheld _)
      show (if (l.receiving.put p false).get r = true then 1 else 0) ≤ _
      rw [ByLine.get_put]
      split <;> simp_all
  have hbuffered : (l.tearDown p).buffered.countP (fun b => b.quota == q) ≤ l.buffered.countP (fun b => b.quota == q) := by
    cases p <;> simp [LineIf.buffered, LineIf.tearDown, ByLine.put, List.countP_append] <;> omega
  exact Nat.add_le_add harrived hbuffered

/-! ### Reception, transmission and links -/

@[simp] theorem freeReception_sound {p : LinePort} (h : Sound s t) : Sound s (freeReception p t) :=
  h.onBuffers (LineIf.quotasHold.of_le fun q => LineIf.count_stopReceiving_le p q _) rfl

theorem relay_sound {p : LinePort} {f : Frame} (h : Sound s t) (hp : t.line.receiving.get p = true) :
    Sound s (relay p f t) := by
  simp only [relay]
  split
  · exact h.onBuffers (LineIf.quotasHold.of_le fun q => LineIf.count_relayed_le q rfl hp) rfl
  · exact freeReception_sound h

@[simp] theorem replyGone_sound {restart : Bool} (h : Sound s t) : Sound s (replyGone restart t) := by
  unfold replyGone
  split
  · exact h.onMgmt id
  · exact h

theorem holdReception_sound {p bound : LinePort} {content : HeldContent} {restart : Bool} (h : Sound s t)
    (hp : t.line.receiving.get p = true) : Sound s (holdReception p bound content restart t) := by
  unfold holdReception
  split
  · exact h.onBuffers (LineIf.quotasHold.of_le fun q => LineIf.count_held_le (e := ⟨p, bound, content, restart⟩) q hp) rfl
  · exact replyGone_sound <| freeReception_sound h

/-- R165: a start that finds a buffer exceeds no quota. -/
theorem startReception_sound {p : LinePort} (h : Sound s t) (hp : t.line.receiving.get p = false) :
    Sound s (startReception p t) := by
  unfold startReception
  split
  next hroom =>
    refine h.onBuffers (fun hq => ?_) rfl
    have hcount := fun q => LineIf.count_receive p q t.line hp
    simp only [LineIf.receives, Bool.and_eq_true, decide_eq_true_eq] at hroom
    obtain ⟨hup, hdown, hown⟩ := hq
    cases p <;> refine ⟨?_, ?_, ?_⟩ <;> rw [hcount] <;> simp <;> omega
  next => exact setOverrun_sound h

theorem pick_sound {p : LinePort} (h : Sound s t) (hp : t.line.tx.get p = none) : Sound s (t.onBuffers (LineIf.pick p)) := by
  refine h.onBuffers (LineIf.quotasHold.of_le fun q => (LineIf.count_pick p q t.line hp).le) ?_
  unfold LineIf.pick LineIf.pickRelay LineIf.pickLocal
  repeat' split
  all_goals rfl

theorem endTransmission_sound {p : LinePort} {b : Buffered} (h : Sound s t) (hb : t.line.tx.get p = some b) :
    Sound s (endTransmission p b t) := by
  refine replyGone_sound <| Sound.send <| h.onBuffers (LineIf.quotasHold.of_le fun q => ?_) rfl
  have := LineIf.count_endTransmission p b q t.line hb
  omega

@[simp] theorem cutOff_sound {p : LinePort} (h : Sound s t) : Sound s (cutOff p t) := by
  unfold cutOff
  split
  · exact h.send
  · exact h

@[simp] theorem tearDown_sound {p : LinePort} (h : Sound s t) : Sound s (tearDown p t) :=
  replyGone_sound <| (cutOff_sound h).onBuffers (LineIf.quotasHold.of_le fun q => LineIf.count_tearDown_le p q _) rfl

@[simp] theorem takeLink_sound {p : LinePort} {up : Bool} (h : Sound s t) : Sound s (takeLink p up t) := by
  have hlink : Sound s (t.onLine fun l => { l with link := l.link.put p up, linkFilter := l.linkFilter.put p none }) :=
    h.onLine id id
  simp only [takeLink]
  split
  · exact hlink
  · exact tearDown_sound hlink

@[simp] theorem heardHead_sound (h : Sound s t) : Sound s (heardHead t) := h.onLine id id

/-! ### Taking a frame -/

@[simp] theorem testSwitch_line (s : State) : (testSwitch s).line = s.line := by
  unfold testSwitch
  split <;> simp

@[simp] theorem lapseWaited_line (d : Direction) (s : State) :
    (lapseWaited d s).line.address = s.line.address ∧ (lapseWaited d s).line.link = s.line.link ∧
    (lapseWaited d s).line.linkFilter = s.line.linkFilter ∧ (lapseWaited d s).line.receiving = s.line.receiving ∧
    (lapseWaited d s).line.relayQ = s.line.relayQ ∧ (lapseWaited d s).line.tx = s.line.tx ∧
    (lapseWaited d s).line.turn = s.line.turn ∧ (lapseWaited d s).line.connected = s.line.connected ∧
    (lapseWaited d s).line.silenceTimer = s.line.silenceTimer := by
  unfold lapseWaited
  generalize List.filter _ _ = l
  induction l generalizing s with
  | nil => simp
  | cons c rest ih => simpa using ih (lapse d c .wait s)

@[simp] theorem replaceParams_line (q : Params) (s : State) :
    (replaceParams q s).line.address = s.line.address ∧ (replaceParams q s).line.link = s.line.link ∧
    (replaceParams q s).line.linkFilter = s.line.linkFilter ∧ (replaceParams q s).line.receiving = s.line.receiving ∧
    (replaceParams q s).line.relayQ = s.line.relayQ ∧ (replaceParams q s).line.tx = s.line.tx ∧
    (replaceParams q s).line.turn = s.line.turn ∧ (replaceParams q s).line.connected = s.line.connected ∧
    (replaceParams q s).line.silenceTimer = s.line.silenceTimer := by
  simp only [replaceParams]
  split <;> simp

@[simp] theorem stageSwitched_line (e : Option ServiceTime) (s : State) : (stageSwitched e s).2.line = s.line := by
  simp only [stageSwitched, acceptSwitch, retimeSwitch]
  repeat' split
  all_goals simp

@[simp] theorem stageLoaded_line (tag segment part : Nat) (b : List Byte) (s : State) :
    (stageLoaded tag segment part b s).2.line = s.line := by
  unfold stageLoaded
  repeat' split
  all_goals simp

/-- A line command leaves the line as it is, but for the copies it sends. -/
@[simp] theorem execute_line (c : LineCommand) (s : State) :
    (execute c s).state.line.address = s.line.address ∧ (execute c s).state.line.link = s.line.link ∧
    (execute c s).state.line.linkFilter = s.line.linkFilter ∧ (execute c s).state.line.receiving = s.line.receiving ∧
    (execute c s).state.line.relayQ = s.line.relayQ ∧ (execute c s).state.line.tx = s.line.tx ∧
    (execute c s).state.line.turn = s.line.turn ∧ (execute c s).state.line.connected = s.line.connected ∧
    (execute c s).state.line.silenceTimer = s.line.silenceTimer := by
  cases c with
  | time date secs =>
    simp only [execute, runTime, unchanged, setClock]
    split <;> simp
  | set entries =>
    simp only [execute, runSet, unchanged]
    split <;> simp
  | query => simp [execute, runQuery]
  | stageOpen tag =>
    simp only [execute, bare, stageOpened]
    split <;> simp
  | stageLoad tag segment part values => simp [execute, bare]
  | stageSwitch effective => simp [execute, bare]
  | stageDiscard => simp [execute]
  | denyAdd cardId reason action =>
    simp only [execute, runDenyAdd, unchanged, putDeny]
    repeat' split
    all_goals simp
  | denyDrop cardId =>
    simp only [execute, runDenyDrop, unchanged]
    split <;> simp
  | collect k => simp [execute, runCollect]
  | trim firstSeq n =>
    simp only [execute, runTrim, unchanged]
    split <;> simp
  | laneMode m =>
    simp only [execute, withModes, laneModeTaken]
    repeat' split
    all_goals simp
  | ackStart => simp [execute, runAckStart]
  | restart => simp [execute, runRestart]

theorem runAddressed_sound {p : LinePort} {tag : Byte} {c : LineCommand} (h : Sound s t) (hc : c.datesFit)
    (hp : t.line.receiving.get p = true) : Sound s (runAddressed p tag c t) :=
  holdReception_sound (execute_sound h hc) (by simpa using hp)

theorem takeAddressed_sound {p : LinePort} {f : Frame} (h : Sound s t) (hp : t.line.receiving.get p = true) :
    Sound s (takeAddressed p f t) := by
  unfold takeAddressed
  split
  next hc => exact runAddressed_sound h (parseBody_datesFit hc) hp
  next => exact holdReception_sound h hp
  next => exact holdReception_sound h hp
  next => exact freeReception_sound <| takeSight_sound h
  next => exact freeReception_sound <| takeSuspect_sound h
  next => exact freeReception_sound h
  next => exact freeReception_sound h

theorem actOnBroadcast_sound {f : Frame} (h : Sound s t) : Sound s (actOnBroadcast f t) := by
  unfold actOnBroadcast
  split
  next hc =>
    split
    · exact execute_sound h (parseBody_datesFit hc)
    · exact h
  next => exact takeSight_sound h
  next => exact takeSuspect_sound h
  all_goals exact h

@[simp] theorem takeSuspect_line (x : SuspectPayload) (s : State) : (takeSuspect x s).line = s.line := by
  simp only [takeSuspect]
  split <;> simp

@[simp] theorem actOnBroadcast_receiving (f : Frame) (s : State) : (actOnBroadcast f s).line.receiving = s.line.receiving := by
  unfold actOnBroadcast
  repeat' split
  all_goals simp

theorem takeBroadcast_sound {p : LinePort} {f : Frame} (h : Sound s t) (hp : t.line.receiving.get p = true) :
    Sound s (takeBroadcast p f t) := by
  simp only [takeBroadcast]
  split
  · exact relay_sound (actOnBroadcast_sound h) (by simpa using hp)
  · exact freeReception_sound <| actOnBroadcast_sound h

theorem setAddress_sound {k : Nat} (h : Sound s t) (hk : k ≤ 62) : Sound s (t.onLine fun l => { l with address := k }) :=
  h.onLine id fun _ => hk

theorem runEnumerate_sound {n : Byte} (h : Sound s t) (hp : t.line.receiving.get .up = true) : Sound s (runEnumerate n t) := by
  simp only [runEnumerate]
  split
  · exact freeReception_sound h
  split
  next hk => split <;> exact holdReception_sound (setAddress_sound h hk) hp
  next => exact holdReception_sound (setAddress_sound h (Nat.zero_le _)) hp

theorem takeEnumerate_sound {f : Frame} (h : Sound s t) (hp : t.line.receiving.get .up = true) : Sound s (takeEnumerate f t) := by
  unfold takeEnumerate
  split
  · exact runEnumerate_sound h hp
  · exact freeReception_sound h

/-- R166 to R170: whatever a good frame does keeps the invariants. -/
theorem goodFrame_sound {p : LinePort} {f : Frame} (h : Sound s t) (hp : t.line.receiving.get p = true) :
    Sound s (goodFrame p f t) := by
  cases p with
  | up =>
    have hheard := heardHead_sound h
    simp only [goodFrame, routeUp]
    split
    · exact takeEnumerate_sound hheard hp
    split
    · exact takeBroadcast_sound hheard hp
    split
    · exact takeAddressed_sound hheard hp
    split
    · exact freeReception_sound hheard
    · exact relay_sound hheard hp
  | down =>
    simp only [goodFrame, routeDown]
    split
    · exact freeReception_sound h
    split
    · exact takeBroadcast_sound h hp
    split
    · exact takeAddressed_sound h hp
    split
    · exact freeReception_sound h
    · exact relay_sound h hp

theorem endReception_sound {p : LinePort} {bytes : List Byte} {endMark : Bool} (h : Sound s t)
    (hp : t.line.receiving.get p = true) : Sound s (endReception p bytes endMark t) := by
  unfold endReception
  split
  · exact goodFrame_sound h hp
  · exact freeReception_sound h

theorem arrive_sound {a : Arrival} {kind : Byte} {payload : List Byte} {u : State} (h : Sound s t)
    (hu : arrive a kind payload t = some u) : Sound s u := by
  simp only [arrive] at hu
  split at hu
  · cases hu
  split at hu
  next hp =>
    cases hu
    exact goodFrame_sound h hp
  next hp =>
    have hstart := startReception_sound h (Bool.eq_false_iff.mpr hp)
    split at hu
    · cases hu
    · cases hu
      split
      next hreceived => exact goodFrame_sound hstart hreceived
      next => exact hstart

end Sys2Proof.Machine

/-! PROOFS. What the resets, the timebase and every command keep, and the statements on the credit account, the line's quotas, the mode
and the flaps, and the capacities and numbers (`StepsKeep…`). -/

namespace Sys2Proof.Machine

open Sys2Proof Sound

variable {s t : State}

/-! ### The resets -/

@[simp] theorem cutOffAll_sound (h : Sound s t) : Sound s (cutOffAll t) := cutOff_sound <| cutOff_sound h

theorem sendDrives_sound (h : Sound s t) : Sound s (sendDrives t) :=
  (((((h.send).send).send).send).send).send

theorem resetFlap_cases (pins : Pins) : resetFlap pins = .closed ∨ resetFlap pins = .opened ∨ resetFlap pins = .closing := by
  unfold resetFlap
  split <;> simp

/-- R114, R117, R131 to R135: the lane after a reset. -/
theorem resetLane_sound {n : Nat} (h : Sound s t) (hn : s.lane.inBounds → n ≤ 65535) :
    Sound s { t with lane := resetLane t.params t.pins t.beam.faults n } := by
  refine { h with numbers := fun hs => ?_, account := fun _ d => ?_, served := fun _ => ?_, mode := fun _ => ?_, flaps := fun _ => ?_ }
  · exact ⟨by simp [resetLane], hn hs, by simp [resetLane], Beams.faults_le _⟩
  · cases d <;> rfl
  · exact fun _ => ⟨rfl, rfl⟩
  · exact ⟨rfl, rfl⟩
  · rcases resetFlap_cases t.pins with hflap | hflap | hflap <;> simp [Lane.flapsSafe, resetLane, hflap]

theorem startWork_sound {n : Nat} (h : Sound s t) (hn : s.lane.inBounds → n ≤ 65535) : Sound s (startWork n t) :=
  sendSample_sound <| sendDrives_sound <| openTest_sound <| resetLane_sound h hn

/-! The cold values meet each block's invariants. -/

theorem Standing.withinCapacity_cold : ({} : Standing).withinCapacity :=
  ⟨.nil, Nat.zero_le _, .nil, Nat.zero_le _, Nat.zero_le _⟩

theorem BeamRecord.inRange_cold : ({} : BeamRecord).inRange := by simp [BeamRecord.inRange]

theorem Beams.inBounds_cold {n : Nat} (h : tagInRange n) : ({ senseTag := n } : Beams).inBounds := by
  refine ⟨⟨fun r hr => ?_, nofun, nofun, h, Nat.zero_le _⟩, Nat.zero_le _⟩
  obtain rfl : r = {} := by simpa [Six.toList] using hr
  exact BeamRecord.inRange_cold

theorem Lane.inBounds_cold : ({} : Lane).inBounds := by simp [Lane.inBounds]

theorem Lane.accountHolds_cold : ({} : Lane).accountHolds := fun d => by cases d <;> rfl

theorem Lane.queuesServed_cold : ({} : Lane).queuesServed := fun _ => ⟨rfl, rfl⟩

theorem Lane.modeDerived_cold : ({} : Lane).modeDerived := ⟨rfl, rfl⟩

theorem Lane.flapsSafe_cold : ({} : Lane).flapsSafe := by simp [Lane.flapsSafe]

theorem Journal.inBounds_cold : ({} : Journal).inBounds := ⟨by decide, trivial⟩

theorem LineIf.inBounds_idle (address : Nat) (link : ByLine Bool) (connected : Bool) (silence : Timer) :
    ({ address := address, link := link, connected := connected, silenceTimer := silence } : LineIf).inBounds := by
  refine ⟨⟨Nat.zero_le _, Nat.zero_le _, Nat.zero_le _⟩, fun p => ?_⟩
  cases p <;> exact ⟨nofun, fun _ => (by decide : 0 < Config.holdAssert)⟩

theorem Params.inRange_cold : ({} : Params).inRange := by
  refine ⟨fun n lo hi h => ?_, by decide, by decide⟩
  unfold paramRange at h
  split at h
  case h_39 => cases h
  all_goals cases h; decide

@[simp] theorem coldValues_sound (h : Sound s t) : Sound s (coldValues t) where
  pending := h.pending
  tags _ := ⟨fun p => by cases p <;> simp [coldValues, State.reset, tagInRange, ByPort.get], by simp [coldValues, State.reset, tagInRange]⟩
  standing _ := Standing.withinCapacity_cold
  tariff _ := nofun
  beam _ _ := Beams.inBounds_cold (by simp [tagInRange])
  numbers _ := Lane.inBounds_cold
  account _ := Lane.accountHolds_cold
  served _ := Lane.queuesServed_cold
  mode _ := Lane.modeDerived_cold
  flaps _ := Lane.flapsSafe_cold
  journal _ := Journal.inBounds_cold
  line _ := LineIf.inBounds_idle ..
  address _ := Nat.zero_le _
  mgmt _ := ⟨Nat.zero_le _, rfl⟩
  params _ := Params.inRange_cold

@[simp] theorem coldReset_sound (h : Sound s t) : Sound s (coldReset t) := by
  simp only [coldReset]
  split
  · simp [h]
  · exact startWork_sound (coldValues_sound (cutOffAll_sound h)) fun _ => Nat.zero_le _

theorem warmRecord_inRange {r : BeamRecord} (h : r.inRange) : (warmRecord r).inRange := by
  obtain ⟨hlevel, href, hdrive, -⟩ := h
  simp only [warmRecord]
  split
  · exact ⟨hlevel, href, hdrive, Nat.zero_le _, Nat.zero_le _, Nat.zero_le _⟩
  · exact ⟨hlevel, href, hdrive, Nat.zero_le _, Nat.zero_le _, Nat.zero_le _⟩
  · exact ⟨hlevel, hlevel, hdrive, Nat.zero_le _, Nat.zero_le _, Nat.zero_le _⟩
  · split <;> exact ⟨hlevel, href, hdrive, Nat.zero_le _, Nat.zero_le _, Nat.zero_le _⟩

theorem Beams.inBounds_warm {b : Beams} (h : b.inBounds) : b.warm.inBounds := by
  obtain ⟨⟨hrecords, -, -, htag, -⟩, -⟩ := h
  refine ⟨⟨fun r hr => ?_, nofun, nofun, htag, Nat.zero_le _⟩, Nat.zero_le _⟩
  obtain ⟨x, hx, rfl⟩ := Six.mem_map hr
  exact warmRecord_inRange (hrecords x hx)

/-- R26, R182, R193: the blocks after a warm reset. -/
theorem warmValues_sound (h : Sound s t) : Sound s (warmValues t) where
  pending := h.pending
  tags hs := by
    obtain ⟨hport, hproof⟩ := h.tags hs
    exact ⟨fun p => by cases p <;> [exact hport .a; exact hport .b], hproof⟩
  standing := h.standing
  tariff _ := nofun
  beam hq hs := Beams.inBounds_warm (h.beam hq hs)
  numbers := h.numbers
  account := h.account
  served := h.served
  mode := h.mode
  flaps := h.flaps
  journal := h.journal
  line _ := LineIf.inBounds_idle ..
  address := h.address
  mgmt := h.mgmt
  params := h.params

theorem recordOutstanding_sound {p : Port} (h : Sound s t) : Sound s (recordOutstanding p t) := by
  unfold recordOutstanding
  split
  · have hsilent : Sound s { t with params := { t.params with eventMask := 0 } } :=
      h.trans { Sound.refl t with
        beam := fun _ => id, pending := rfl
        params := fun ⟨hown, hdep⟩ => ⟨Params.inOwnRanges_unclamped t.params.markOnClone 0 hown, hdep⟩ }
    exact { recordTorn_sound hsilent with params := h.params }
  · exact h

@[simp] theorem warmReset_sound (h : Sound s t) : Sound s (warmReset t) :=
  startWork_sound (warmValues_sound <| cutOffAll_sound <| recordOutstanding_sound <| recordOutstanding_sound h)
    fun hs => (h.numbers hs).2.1

/-! ### What follows every step, and the timebase -/

@[simp] theorem follow_sound (h : Sound s t) : Sound s (follow t) := by
  have hbrisk : Sound s (followBrisk t) := by
    unfold followBrisk
    split
    · exact h.onLane (LaneKept.of_eq rfl rfl rfl rfl rfl rfl rfl rfl rfl rfl rfl id)
    · exact h
  have hdormant : Sound s (followDormant (followBrisk t)) := by
    unfold followDormant
    split
    · split
      · exact hbrisk.onLane (LaneKept.of_eq rfl rfl rfl rfl rfl rfl rfl rfl rfl rfl rfl id)
      · exact hbrisk
    · exact hbrisk.onLane (LaneKept.of_eq rfl rfl rfl rfl rfl rfl rfl rfl rfl rfl rfl id)
  unfold follow followTried
  split
  · exact hdormant
  · refine hdormant.onBeam fun _ hb => hb.withRecords fun r hr => ?_
    obtain ⟨x, hx, rfl⟩ := Six.mem_map hr
    exact hb.1.1 x hx

theorem Lane.tickCredits_length (l : Lane) (d : Direction) : (l.tickCredits d).length = (l.credits.get d).length := by
  unfold Lane.tickCredits
  repeat' split
  all_goals simp_all

theorem Lane.tick_kept (l : Lane) : LaneKept l l.tick where
  numbers := id
  account h d := by
    have := h d
    rw [← Lane.tickCredits_length] at this
    cases d <;> exact this
  served h hout := by
    obtain ⟨hin, hoo⟩ := h hout
    have hlen := Lane.tickCredits_length l
    exact ⟨List.length_eq_zero_iff.mp ((hlen .inbound).trans (by simp [ByDir.get, hin])),
      List.length_eq_zero_iff.mp ((hlen .outbound).trans (by simp [ByDir.get, hoo]))⟩
  mode := id
  flaps h := by simpa [Lane.flapsSafe, Lane.tick, Timer.tick] using h

theorem tick_sound (h : Sound s t) : Sound s (tick t) where
  pending := h.pending
  tags hs := by
    obtain ⟨hport, hproof⟩ := h.tags hs
    exact ⟨fun p => by cases p <;> [exact hport .a; exact hport .b], hproof⟩
  standing hs := by
    obtain ⟨hdeny, hlen, hsight, hslen, hrec⟩ := h.standing hs
    exact ⟨hdeny, hlen, hsight, hslen, by simpa [tick] using hrec⟩
  tariff := h.tariff
  beam := h.beam
  numbers hs := (Lane.tick_kept t.lane).numbers (h.numbers hs)
  account hs := (Lane.tick_kept t.lane).account (h.account hs)
  served hs := (Lane.tick_kept t.lane).served (h.served hs)
  mode hs := (Lane.tick_kept t.lane).mode (h.mode hs)
  flaps hs := (Lane.tick_kept t.lane).flaps (h.flaps hs)
  journal := h.journal
  line := h.line
  address := h.address
  mgmt := h.mgmt
  params := h.params

end Sys2Proof.Machine

/-! PROOFS. What every command keeps, and with it every step: the statements on the credit account, the line's quotas, the mode and the
flaps, the capacities and the numbers. -/

namespace Sys2Proof.Machine

open Sys2Proof Sound

variable {s t u : State} {p : Port}

/-! ### The answers of verbs (chapter 1) -/

@[simp] theorem pollAgain_sound (h : Sound s t) : Sound s (pollAgain p t) := by
  unfold pollAgain
  split <;> simp [h]

@[simp] theorem senseFound_sound {r : SenseResult} (h : Sound s t) : Sound s (senseFound p r t) := by
  unfold senseFound
  repeat' split
  all_goals simp [h]

@[simp] theorem senseFailed_sound (h : Sound s t) : Sound s (senseFailed p t) := retryOr_sound h (toIdle_sound h)

@[simp] theorem readFailed_sound (h : Sound s t) : Sound s (readFailed p t) := retryOr_sound h (tryAgain_sound h)

@[simp] theorem proveFailed_sound (h : Sound s t) : Sound s (proveFailed p t) := retryOr_sound h (tryAgain_sound h)

@[simp] theorem imageRead_sound {b : List Byte} (h : Sound s t) : Sound s (imageRead p b t) := by
  unfold imageRead
  repeat' split
  all_goals simp [h, keepImage]

@[simp] theorem proofGiven_sound {challenge proof : BitVec 64} (h : Sound s t) : Sound s (proofGiven p challenge proof t) :=
  enqueueProof_sound h.onCtx

@[simp] theorem confirmEnds_sound {e : Ending} (h : Sound s t) : Sound s (confirmEnds p e t) := by
  unfold confirmEnds
  repeat' split
  all_goals simp [h]

/-- R5 to R8, R16 to R18, R24: however a verb ends by answer. -/
theorem onEnd_sound {v : Purpose} {o : Outstanding} {e : Ending} (h : Sound s t) (hu : onEnd p v o e t = some u) : Sound s u := by
  cases v with
  | sense =>
    cases e with
    | answered b =>
      obtain ⟨r, -, rfl⟩ := Option.map_eq_some_iff.mp hu
      exact senseFound_sound h
    | fieldLost => cases hu; exact toIdle_sound h
    | garbled => cases hu; exact senseFailed_sound h
  | read =>
    cases e with
    | answered b =>
      cases hu
      repeat' split
      all_goals simp [h]
    | fieldLost => cases hu; exact tryAgain_sound h
    | garbled => cases hu; exact readFailed_sound h
  | prove =>
    cases e with
    | answered b =>
      obtain ⟨x, -, rfl⟩ := Option.map_eq_some_iff.mp hu
      exact proofGiven_sound h
    | fieldLost => cases hu; exact tryAgain_sound h
    | garbled => cases hu; exact proveFailed_sound h
  | commit =>
    cases e with
    | answered b =>
      obtain ⟨r, -, rfl⟩ := Option.map_eq_some_iff.mp hu
      cases r <;> simp [h]
    | fieldLost => cases hu; exact enterConfirming_sound h
    | garbled => cases hu; exact enterConfirming_sound h
  | confirmRead => cases hu; exact confirmEnds_sound h
  | reissue =>
    cases e with
    | answered b =>
      obtain ⟨r, -, rfl⟩ := Option.map_eq_some_iff.mp hu
      cases r <;> simp [h]
    | fieldLost => cases hu; exact enterConfirming_sound h
    | garbled => cases hu; exact enterConfirming_sound h
  | mark =>
    simp only [onEnd, markEndsBy] at hu
    repeat' split at hu
    all_goals cases hu
    all_goals exact markEnds_sound h

theorem onAnswer_sound {v : Purpose} {m : List Byte} (h : Sound s t) (hu : onAnswer p v m (onEnd p v) t = some u) : Sound s u := by
  unfold onAnswer at hu
  repeat' split at hu
  all_goals try cases hu
  · exact droppedVerbEnds_sound h
  · exact onEnd_sound (endVerb_sound h) hu

theorem noAnswer_sound {v : Purpose} (h : Sound s t) : Sound s (noAnswer p v t) := by
  cases v <;> simp [noAnswer, h]

theorem deadlineExpires_sound {o : Outstanding} (h : Sound s t) : Sound s (deadlineExpires p o t) := by
  unfold deadlineExpires
  split
  · exact droppedVerbEnds_sound h
  · exact noAnswer_sound (endVerb_sound h)

theorem pollExpires_sound (h : Sound s t) : Sound s (pollExpires p t) := issueFirst_sound h.onCtx

theorem checkAnswered_sound {m : List Byte} (h : Sound s t) (hu : checkAnswered m t = some u) : Sound s u := by
  unfold checkAnswered at hu
  repeat' split at hu
  all_goals cases hu
  exact checkEnds_sound h

theorem proofExpires_sound (h : Sound s t) : Sound s (proofExpires t) := by
  unfold proofExpires
  split
  · exact checkEnds_sound h
  · exact h.onDialog id

theorem motionExpires_sound (h : Sound s t) : Sound s (motionExpires t) := by
  unfold motionExpires
  split
  · exact jamMotion_sound h
  · exact jamMotion_sound h
  all_goals
    refine h.onLane (LaneKept.of_eq rfl rfl rfl rfl rfl rfl rfl rfl rfl rfl rfl ?_)
    simp_all [Lane.flapsSafe]

/-! ### Every command -/

/-- How a command takes effect keeps what its effect keeps. -/
theorem effect_sound {c : Instr} {r : State → Option State} (h : effect c s r = .next t) (hr : ∀ u, r s = some u → Sound s u) :
    Sound s t := effect_keeps (fun _ => follow_sound) hr (Sound.refl s) h

/-- A command that takes effect by `effect`, with its own equation. -/
theorem sound_of_exec {c : Instr} {r : State → Option State} (heq : exec c s = effect c s r) (h : exec c s = .next t)
    (hr : ∀ u, r s = some u → Sound s u) : Sound s t := effect_sound (heq ▸ h) hr

theorem arriveCommand_sound {a : Arrival} {tag : Byte} {c : LineCommand} {i : Instr}
    (h : effect i s (arriveCommand a tag c) = .next t) : Sound s t := effect_sound h fun _ => arrive_sound (Sound.refl s)

theorem answerCommand_sound {v : Purpose} {m : List Byte} (h : exec (v.answerCommand p m) s = .next t) : Sound s t := by
  rw [exec_answerCommand] at h
  exact effect_sound h fun _ => onAnswer_sound (Sound.refl s)

/-- An effect that is taken when a condition holds. -/
theorem sound_of_when {b : Prop} [Decidable b] (hf : b → Sound s t) (h : (if b then some t else none) = some u) : Sound s u := by
  split at h
  next hb => cases h; exact hf hb
  next => cases h

/-- An effect that is taken when there is something for it to act on. -/
theorem sound_of_map {α : Type} {o : Option α} {f : α → State} (hf : ∀ x, o = some x → Sound s (f x)) (h : o.map f = some u) :
    Sound s u := by
  obtain ⟨x, hx, rfl⟩ := Option.map_eq_some_iff.mp h
  exact hf x hx

theorem servedCredit_mem {d : Direction} {c : Credit} (h : s.servedCredit = some (d, c)) : c ∈ s.lane.credits.get d := by
  unfold State.servedCredit at h
  repeat' split at h
  all_goals try cases h
  obtain ⟨x, hx, he⟩ := Option.map_eq_some_iff.mp h
  cases he
  exact List.mem_of_mem_head? hx

theorem waitedCredit_mem {d : Direction} {c : Credit} (h : s.waitedCredit d = some c) : c ∈ s.lane.credits.get d := by
  unfold State.waitedCredit at h
  split at h
  · cases h
  · exact List.mem_of_mem_head? (Option.filter_eq_some_iff.mp h).1

theorem exec_sound {c : Instr} (h : exec c s = .next t) : Sound s t := by
  have hs := Sound.refl s
  cases c with
  | coldReset cause =>
    cases cause with
    | powerOn => cases h; exact coldReset_sound hs
    | pinAsserted => cases h; exact coldReset_sound hs.onPins
    | pinReleased =>
      cases h
      split
      · exact coldReset_sound hs.onPins
      · exact hs
  | warmReset => exact sound_of_exec (exec_warmReset s) h fun _ => sound_of_when fun _ => warmReset_sound hs
  | emergencyPinChange asserted =>
    rw [exec_emergencyPinChange] at h
    split at h
    · cases h; exact hs.onPins
    · refine effect_sound h fun u hu => ?_
      split at hu <;> cases hu
      exact hs.onPins.onLane (LaneKept.of_eq rfl rfl rfl rfl rfl rfl rfl rfl rfl rfl rfl id)
  | emergencyTaken => exact sound_of_exec (exec_emergencyTaken s) h fun _ => sound_of_when fun _ => takeEmergency_sound hs
  | linkPinChange port up =>
    rw [exec_linkPinChange] at h
    split at h
    · cases h; exact hs.onPins
    · refine effect_sound h fun u hu => ?_
      split at hu <;> cases hu
      exact hs.onPins.onLine id id
  | linkTaken port => exact sound_of_exec (exec_linkTaken port s) h fun _ => sound_of_when fun _ => takeLink_sound hs
  | holdInputChange port asserted =>
    rw [exec_holdInputChange] at h
    split at h
    · cases h; exact hs.onPins
    · refine effect_sound h fun u hu => ?_
      cases hu
      exact hs.onPins
  | frameStart port => exact sound_of_exec (exec_frameStart port s) h fun _ => sound_of_when fun hb => startReception_sound hs hb.2
  | frameEnd port bytes endMark => exact sound_of_exec (exec_frameEnd port bytes endMark s) h fun _ => sound_of_when fun hb => endReception_sound hs hb
  | transmissionBegin port =>
    refine sound_of_exec (exec_transmissionBegin port s) h fun _ => sound_of_when fun hb => pick_sound hs ?_
    simp only [State.transmits, Bool.and_eq_true, Option.isNone_iff_eq_none] at hb
    exact hb.1.1.1
  | transmissionEnd port => exact sound_of_exec (exec_transmissionEnd port s) h fun _ => sound_of_map fun _ hb => endTransmission_sound hs hb
  | heldConversion => exact sound_of_exec (exec_heldConversion s) h fun u hu => by cases hu; exact convertOne_sound hs
  | silenceTimerExpiry => exact sound_of_exec (exec_silenceTimerExpiry s) h fun _ => sound_of_when fun _ => hs.onLine id id
  | enumerate n => exact sound_of_exec (exec_enumerate n s) h fun _ => arrive_sound hs
  | time arrival tag date secs => exact arriveCommand_sound h
  | set arrival tag entries => exact arriveCommand_sound h
  | query arrival tag => exact arriveCommand_sound h
  | stageOpen arrival tag bankTag => exact arriveCommand_sound h
  | stageLoad arrival tag bankTag segment part values => exact arriveCommand_sound h
  | stageSwitch arrival tag effective => exact arriveCommand_sound h
  | stageDiscard arrival tag => exact arriveCommand_sound h
  | denyAdd arrival tag cardId reason action => exact arriveCommand_sound h
  | denyDrop arrival tag cardId => exact arriveCommand_sound h
  | collect arrival tag k => exact arriveCommand_sound h
  | trim arrival tag firstSeq n => exact arriveCommand_sound h
  | laneMode arrival tag mode => exact arriveCommand_sound h
  | ackStart arrival tag => exact arriveCommand_sound h
  | restart arrival tag => exact arriveCommand_sound h
  | unknownKind arrival kind payload => exact sound_of_exec (exec_unknownKind arrival kind payload s) h fun _ => arrive_sound hs
  | sight arrival payload => exact sound_of_exec (exec_sight arrival payload s) h fun _ => arrive_sound hs
  | suspect arrival payload => exact sound_of_exec (exec_suspect arrival payload s) h fun _ => arrive_sound hs
  | clockAdvance => exact sound_of_exec (exec_clockAdvance s) h fun _ => sound_of_when fun _ => advanceClock_sound hs
  | timeAgeExpiry => exact sound_of_exec (exec_timeAgeExpiry s) h fun _ => sound_of_when fun _ => staleClock_sound hs
  | switchApplication => exact sound_of_exec (exec_switchApplication s) h fun _ => sound_of_map fun _ _ => applySwitch_sound hs
  | recoveryExpiry cardId =>
    refine sound_of_exec (exec_recoveryExpiry cardId s) h fun u hu => ?_
    repeat' split at hu
    all_goals cases hu
    exact resolveUnresolved_sound hs
  | pollTimerExpiry port => exact sound_of_exec (exec_pollTimerExpiry port s) h fun _ => sound_of_when fun _ => pollExpires_sound hs
  | senseAnswer port message => exact answerCommand_sound (v := .sense) h
  | readAnswer port message => exact answerCommand_sound (v := .read) h
  | proveAnswer port message => exact answerCommand_sound (v := .prove) h
  | checkAnswer message => exact sound_of_exec (exec_checkAnswer message s) h fun _ => checkAnswered_sound hs
  | proofTimeoutExpiry => exact sound_of_exec (exec_proofTimeoutExpiry s) h fun _ => sound_of_when fun _ => proofExpires_sound hs
  | verbDeadlineExpiry port =>
    refine sound_of_exec (exec_verbDeadlineExpiry port s) h fun u hu => ?_
    repeat' split at hu
    all_goals cases hu
    exact deadlineExpires_sound hs
  | recheckBeforeCommit port =>
    refine sound_of_exec (exec_recheckBeforeCommit port s) h fun u hu => ?_
    split at hu
    · obtain ⟨i, -, rfl⟩ := Option.map_eq_some_iff.mp hu
      exact recheck_sound hs
    · cases hu
  | markAnswer port message => exact answerCommand_sound (v := .mark) h
  | commitAnswer port message => exact answerCommand_sound (v := .commit) h
  | confirmingReadAnswer port message => exact answerCommand_sound (v := .confirmRead) h
  | reissuedCommitAnswer port message => exact answerCommand_sound (v := .reissue) h
  | sampleTimerExpiry => exact sound_of_exec (exec_sampleTimerExpiry s) h fun _ => sound_of_when fun _ => sendSample_sound <| missPeriod_sound hs
  | sampleSet message =>
    refine sound_of_exec (exec_sampleSet message s) h fun u hu => ?_
    split at hu
    next hparsed =>
      split at hu <;> cases hu
      exact processSample_sound hs (parseSample_levels hparsed)
    next => cases hu
  | anomaly => exact sound_of_exec (exec_anomaly s) h fun _ => sound_of_when fun _ => intrusion_sound <| markReported_sound _ hs
  | creditLifeExpiry =>
    refine sound_of_exec (exec_creditLifeExpiry s) h fun u hu => ?_
    split at hu
    next hserved =>
      exact sound_of_when (fun _ => lapse_sound (servedCredit_mem hserved) hs) hu
    next => cases hu
  | waitLimitExpiry direction =>
    exact sound_of_exec (exec_waitLimitExpiry direction s) h fun _ => sound_of_map fun _ hc => lapse_sound (waitedCredit_mem hc) hs
  | limitAsserted atOpen atClosed =>
    rw [exec_limitAsserted] at h
    split at h
    · cases h; exact hs.onPins
    · refine effect_sound h fun u hu => ?_
      cases hu
      exact readLimits_sound hs.onPins
  | closeDelayExpiry =>
    exact sound_of_exec (exec_closeDelayExpiry s) h fun _ => sound_of_when fun _ =>
      closeTest_sound <| hs.onLane (LaneKept.of_eq rfl rfl rfl rfl rfl rfl rfl rfl rfl rfl rfl id)
  | motionTimerExpiry => exact sound_of_exec (exec_motionTimerExpiry s) h fun _ => sound_of_when fun _ => motionExpires_sound hs
  | briskTimerExpiry =>
    exact sound_of_exec (exec_briskTimerExpiry s) h fun _ => sound_of_when fun _ => hs.onLane (LaneKept.of_eq rfl rfl rfl rfl rfl rfl rfl rfl rfl rfl rfl id)
  | dormantTimerExpiry =>
    exact sound_of_exec (exec_dormantTimerExpiry s) h fun _ => sound_of_when fun _ => hs.onLane (LaneKept.of_eq rfl rfl rfl rfl rfl rfl rfl rfl rfl rfl rfl id)
  | tallyGapExpiry => exact sound_of_exec (exec_tallyGapExpiry s) h fun _ => sound_of_when fun _ => hs.onLane (Lane.tallyGap_kept _ _)

/-! ### Every step -/

/-- The queue of waiting commands apart: a step takes its front, or the part puts its own step there. -/
theorem Sound.apart {q : List Instr} (h : Sound s t) : Sound { s with pending := q } { t with pending := q } :=
  { h with pending := rfl }

theorem idle_sound (s : State) : Sound { s with pending := [] } { idle s with pending := [] } := by
  unfold idle
  split
  · exact Sound.refl _
  split
  · exact Sound.refl _
  · exact (tick_sound (Sound.refl s)).apart

theorem step_sound (h : step s = .next t) : Sound { s with pending := [] } { t with pending := [] } := by
  obtain ⟨c, rest, -, hexec⟩ | ⟨-, rfl⟩ := step_next h
  · exact (exec_sound hexec).apart
  · exact idle_sound s

/-- Settles O56. -/
theorem stepsKeepTheCreditAccount : Obligations.StepsKeepTheCreditAccount := by
  rintro s t ⟨haccount, hserved⟩ h
  have hsound := step_sound h
  exact ⟨hsound.account haccount, hsound.served hserved⟩

/-- Settles O57. -/
theorem stepsKeepTheLineQuotas : Obligations.StepsKeepTheLineQuotas :=
  fun _ _ hline h => (step_sound h).line hline

/-- Settles O58. -/
theorem stepsKeepTheModeAndTheFlaps : Obligations.StepsKeepTheModeAndTheFlaps := by
  rintro s t ⟨hmode, hflaps⟩ h
  have hsound := step_sound h
  exact ⟨hsound.mode hmode, hsound.flaps hflaps⟩

/-- Settles O59. -/
theorem stepsKeepCapacitiesAndNumbers : Obligations.StepsKeepCapacitiesAndNumbers := by
  rintro s t ⟨⟨hstanding, hbodies, htally⟩, hnumbers, hparams, hnumbered⟩ h
  obtain ⟨ha, hb, hproof, hbeam, hcredit, hfree, hfault, hseq, hseqmax, haddress, hevent, hclock, hswitch⟩ := hnumbers
  have hsound := step_sound h
  obtain ⟨htags, hproof'⟩ := hsound.tags ⟨fun p => by cases p <;> assumption, hproof⟩
  obtain ⟨hbeam', hbodies'⟩ := hsound.beam hparams ⟨hbeam, hbodies⟩
  obtain ⟨htally', hcredit', hfree', hfault'⟩ := hsound.numbers ⟨htally, hcredit, hfree, hfault⟩
  obtain ⟨⟨hseq', hseqmax'⟩, hnumbered'⟩ := hsound.journal ⟨⟨hseq, hseqmax⟩, hnumbered⟩
  obtain ⟨hevent', hclock'⟩ := hsound.mgmt ⟨hevent, hclock⟩
  exact ⟨⟨hsound.standing hstanding, hbodies', htally'⟩,
    ⟨htags .a, htags .b, hproof', hbeam', hcredit', hfree', hfault', hseq', hseqmax', hsound.address haddress, hevent', hclock',
      hsound.tariff hswitch⟩,
    hsound.params hparams, hnumbered'⟩

/-! ### Completeness and the queue -/

theorem effect_completes {c : Instr} {r : State → Option State} (hw : c.wf = true) : ∃ t, effect c s r = .next t := by
  unfold effect
  repeat' split
  case _ hill => simp [hw] at hill
  all_goals exact ⟨_, rfl⟩

/-- The resets and the changes of input pins, which the part meets even while RESET is asserted (log 6). -/
def atPins : Instr → Bool
  | .coldReset _ | .emergencyPinChange _ | .linkPinChange _ _ | .holdInputChange _ _ | .limitAsserted _ _ => true
  | _ => false

theorem wf_of_atPins {c : Instr} (h : atPins c = true) : c.wf = true := by
  cases c with
  | coldReset _ | emergencyPinChange _ | linkPinChange _ _ | holdInputChange _ _ | limitAsserted _ _ => rfl
  | _ => cases h

/-- Every other command takes effect by `effect`. -/
theorem exec_eq_effect {c : Instr} (h : atPins c = false) (s : State) : ∃ r, exec c s = effect c s r :=
  match c with
  | .warmReset => ⟨_, exec_warmReset s⟩
  | .emergencyTaken => ⟨_, exec_emergencyTaken s⟩
  | .linkTaken port => ⟨_, exec_linkTaken port s⟩
  | .frameStart port => ⟨_, exec_frameStart port s⟩
  | .frameEnd port bytes endMark => ⟨_, exec_frameEnd port bytes endMark s⟩
  | .transmissionBegin port => ⟨_, exec_transmissionBegin port s⟩
  | .transmissionEnd port => ⟨_, exec_transmissionEnd port s⟩
  | .heldConversion => ⟨_, exec_heldConversion s⟩
  | .silenceTimerExpiry => ⟨_, exec_silenceTimerExpiry s⟩
  | .enumerate n => ⟨_, exec_enumerate n s⟩
  | .time arrival tag date secs => ⟨_, exec_time arrival tag date secs s⟩
  | .set arrival tag entries => ⟨_, exec_set arrival tag entries s⟩
  | .query arrival tag => ⟨_, exec_query arrival tag s⟩
  | .stageOpen arrival tag bankTag => ⟨_, exec_stageOpen arrival tag bankTag s⟩
  | .stageLoad arrival tag bankTag segment part values => ⟨_, exec_stageLoad arrival tag bankTag segment part values s⟩
  | .stageSwitch arrival tag effective => ⟨_, exec_stageSwitch arrival tag effective s⟩
  | .stageDiscard arrival tag => ⟨_, exec_stageDiscard arrival tag s⟩
  | .denyAdd arrival tag cardId reason action => ⟨_, exec_denyAdd arrival tag cardId reason action s⟩
  | .denyDrop arrival tag cardId => ⟨_, exec_denyDrop arrival tag cardId s⟩
  | .collect arrival tag k => ⟨_, exec_collect arrival tag k s⟩
  | .trim arrival tag firstSeq n => ⟨_, exec_trim arrival tag firstSeq n s⟩
  | .laneMode arrival tag mode => ⟨_, exec_laneMode arrival tag mode s⟩
  | .ackStart arrival tag => ⟨_, exec_ackStart arrival tag s⟩
  | .restart arrival tag => ⟨_, exec_restart arrival tag s⟩
  | .unknownKind arrival kind payload => ⟨_, exec_unknownKind arrival kind payload s⟩
  | .sight arrival payload => ⟨_, exec_sight arrival payload s⟩
  | .suspect arrival payload => ⟨_, exec_suspect arrival payload s⟩
  | .clockAdvance => ⟨_, exec_clockAdvance s⟩
  | .timeAgeExpiry => ⟨_, exec_timeAgeExpiry s⟩
  | .switchApplication => ⟨_, exec_switchApplication s⟩
  | .recoveryExpiry cardId => ⟨_, exec_recoveryExpiry cardId s⟩
  | .pollTimerExpiry port => ⟨_, exec_pollTimerExpiry port s⟩
  | .senseAnswer port message => ⟨_, exec_senseAnswer port message s⟩
  | .readAnswer port message => ⟨_, exec_readAnswer port message s⟩
  | .proveAnswer port message => ⟨_, exec_proveAnswer port message s⟩
  | .checkAnswer message => ⟨_, exec_checkAnswer message s⟩
  | .proofTimeoutExpiry => ⟨_, exec_proofTimeoutExpiry s⟩
  | .verbDeadlineExpiry port => ⟨_, exec_verbDeadlineExpiry port s⟩
  | .recheckBeforeCommit port => ⟨_, exec_recheckBeforeCommit port s⟩
  | .markAnswer port message => ⟨_, exec_markAnswer port message s⟩
  | .commitAnswer port message => ⟨_, exec_commitAnswer port message s⟩
  | .confirmingReadAnswer port message => ⟨_, exec_confirmingReadAnswer port message s⟩
  | .reissuedCommitAnswer port message => ⟨_, exec_reissuedCommitAnswer port message s⟩
  | .sampleTimerExpiry => ⟨_, exec_sampleTimerExpiry s⟩
  | .sampleSet message => ⟨_, exec_sampleSet message s⟩
  | .anomaly => ⟨_, exec_anomaly s⟩
  | .creditLifeExpiry => ⟨_, exec_creditLifeExpiry s⟩
  | .waitLimitExpiry direction => ⟨_, exec_waitLimitExpiry direction s⟩
  | .closeDelayExpiry => ⟨_, exec_closeDelayExpiry s⟩
  | .motionTimerExpiry => ⟨_, exec_motionTimerExpiry s⟩
  | .briskTimerExpiry => ⟨_, exec_briskTimerExpiry s⟩
  | .dormantTimerExpiry => ⟨_, exec_dormantTimerExpiry s⟩
  | .tallyGapExpiry => ⟨_, exec_tallyGapExpiry s⟩

theorem exec_completes {c : Instr} (hw : c.wf = true) (s : State) : ∃ t, exec c s = .next t := by
  cases hpins : atPins c with
  | false =>
    obtain ⟨r, hr⟩ := exec_eq_effect hpins s
    rw [hr]
    exact effect_completes hw
  | true =>
    cases c with
    | coldReset cause => cases cause <;> exact ⟨_, rfl⟩
    | emergencyPinChange asserted =>
      rw [exec_emergencyPinChange]
      split
      · exact ⟨_, rfl⟩
      · exact effect_completes rfl
    | linkPinChange port up =>
      rw [exec_linkPinChange]
      split
      · exact ⟨_, rfl⟩
      · exact effect_completes rfl
    | holdInputChange port asserted =>
      rw [exec_holdInputChange]
      split
      · exact ⟨_, rfl⟩
      · exact effect_completes rfl
    | limitAsserted atOpen atClosed =>
      rw [exec_limitAsserted]
      split
      · exact ⟨_, rfl⟩
      · exact effect_completes rfl
    | _ => cases hpins

theorem exec_illFormed {c : Instr} (hw : c.wf = false) (s : State) : exec c s = .refused .illFormed := by
  cases hpins : atPins c with
  | false =>
    obtain ⟨r, hr⟩ := exec_eq_effect hpins s
    rw [hr, effect_illFormed hw]
  | true => simp [wf_of_atPins hpins] at hw

/-- Settles O2. -/
theorem everyCommandCompletesAndKeepsTheQueue : Obligations.EveryCommandCompletesAndKeepsTheQueue := by
  refine fun c s => ⟨fun hw => ?_, fun hw => exec_illFormed hw s⟩
  obtain ⟨t, ht⟩ := exec_completes hw s
  exact ⟨t, ht, (exec_sound ht).pending⟩

/-- Settles O1. -/
theorem stepTakesTheFrontCommand : Obligations.StepTakesTheFrontCommand := by
  intro c rest s h
  rw [step, h]

end Sys2Proof.Machine

/-! PROOFS. What follows every step, the timebase, and the values after a cold and a warm reset (chapter 10). -/

namespace Sys2Proof.Machine

open Sys2Proof

variable {s t : State}

/-! ### What follows every step -/

/-- R97: what an idle period's end does to Tried. -/
def State.triedAfter (s : State) (r : BeamRecord) : BeamRecord := if s.laneIdle = true then r else { r with tried := false }

theorem followBrisk_eq (s : State) :
    followBrisk s = { s with lane := { s.lane with briskTimer :=
      if s.lane.tempo = .brisk ∧ s.lane.briskTimer = none ∧ s.beam.bodies = [] then some (s.params.briskHold * 1000)
      else s.lane.briskTimer } } := by
  unfold followBrisk
  split <;> rfl

theorem followDormant_eq (s : State) :
    followDormant s = { s with lane := { s.lane with dormantTimer :=
      if s.lane.tempo = .steady ∧ s.laneQuiet = true then some (s.lane.dormantTimer.getD (s.params.idleToDormant * 1000))
      else none } } := by
  unfold followDormant
  split
  · split
    next hstopped => simp [hstopped, State.onLane]
    next hruns =>
      obtain ⟨n, hn⟩ := Option.ne_none_iff_exists'.mp hruns
      simp [hn]
      rw [← hn]
  · rfl

theorem followTried_eq (s : State) :
    followTried s = { s with beam := { s.beam with records := s.beam.records.map s.triedAfter } } := by
  unfold followTried
  split
  next hidle =>
    have hid : s.triedAfter = id := funext fun r => if_pos hidle
    rw [hid]
    rfl
  next hbusy =>
    have hclear : s.triedAfter = fun r => { r with tried := false } := funext fun r => if_neg hbusy
    rw [hclear]
    rfl

/-- Settles O4. -/
theorem whatFollowsEveryStep : Obligations.WhatFollowsEveryStep := by
  refine fun s => ⟨_, _, s.triedAfter, ?_, rfl, rfl, fun r => rfl⟩
  rw [follow, followTried_eq, followDormant_eq, followBrisk_eq]
  rfl

/-! ### One millisecond -/

/-- R110, R111: the credit at a place of its queue after a millisecond. -/
theorem Lane.tickCredits_getElem? (l : Lane) (d : Direction) (n : Nat) :
    (l.tickCredits d)[n]? = (l.credits.get d)[n]?.map fun (c : Credit) =>
      { c with
        life := if n = 0 ∧ l.grant = some d ∧ l.flap = .opened then c.life - 1 else c.life
        wait := if l.grant = some d then c.wait else c.wait + 1 } := by
  unfold Lane.tickCredits
  split
  next hgrant =>
    split
    next hopen =>
      cases hq : l.credits.get d with
      | nil => rfl
      | cons c rest => cases n <;> simp [hgrant, hopen]
    next hshut => simp [hgrant, hshut]
  next hwaits => simp [hwaits]

/-- Settles O3. -/
theorem idlePartGivesItsOwnStepOrPassesAMillisecond : Obligations.IdlePartGivesItsOwnStepOrPassesAMillisecond := by
  intro s hpending hreset
  have hstep : step s = .next (idle s) := by rw [step, hpending]
  refine ⟨fun c hc => ?_, fun hnone => ⟨⟨s.lane.tickCredits .inbound, s.lane.tickCredits .outbound⟩, fun d n => ?_, ?_⟩⟩
  · rw [hstep, idle, hc, hreset]
    rfl
  · rw [← Lane.tickCredits_getElem?]
    cases d <;> rfl
  · rw [hstep, idle, hnone, hreset]
    rfl

/-! ### Starting to work after a reset -/

/-- R125, R131: the lane after a reset, its open condition tested. -/
def Lane.startedFrom (limit : Nat) (l : Lane) : Lane :=
  if l.eff.holdsOpen = true ∧ l.flap ≠ .opened then { l with flap := .opening, motionTimer := some limit } else l

theorem openTest_resetLane (q : Params) (pins : Pins) (faults n : Nat) (s : State) :
    openTest { s with lane := resetLane q pins faults n }
      = { s with lane := (resetLane q pins faults n).startedFrom s.params.flapMotionLimit } := by
  have hgrant : (resetLane q pins faults n).grantedCredit = false := rfl
  have hreverse : (resetLane q pins faults n).reverses = (resetLane q pins faults n).eff.holdsOpen := by
    rw [Lane.reverses, hgrant]
    cases (resetLane q pins faults n).eff <;> rfl
  unfold openTest Lane.startedFrom
  rcases resetFlap_cases pins with hflap | hflap | hflap
  · have hf : (resetLane q pins faults n).flap = .closed := hflap
    simp only [hf, Lane.openCondition, hgrant, Bool.false_or]
    split <;> simp_all [startMotion, State.onLane]
  · have hf : (resetLane q pins faults n).flap = .opened := hflap
    simp [hf]
  · have hf : (resetLane q pins faults n).flap = .closing := hflap
    simp only [hf, hreverse]
    split <;> simp_all [startMotion, State.onLane]

/-- R85, R87, R131: the whole state of a part that starts to work after a reset. -/
theorem startWork_eq (n : Nat) (s : State) :
    startWork n s = { s with
      lane := (resetLane s.params s.pins s.beam.faults n).startedFrom s.params.flapMotionLimit
      beam := { s.beam with
        senseTag := nextTag s.beam.senseTag, sampleTimer := some s.params.sampleSteady, answered := false }
      sent := .sample (nextTag s.beam.senseTag) :: ([6, 5, 4, 3, 2, 1].map fun i => .drive i (s.record i).drive) ++ s.sent } := by
  have htempo : ((resetLane s.params s.pins s.beam.faults n).startedFrom s.params.flapMotionLimit).tempo = .steady := by
    unfold Lane.startedFrom
    split <;> rfl
  rw [startWork, openTest_resetLane]
  simp [sendSample, sendDrives, State.onBeam, State.send, State.record, htempo, Params.samplePeriod]

theorem cutOffAll_eq (s : State) :
    cutOffAll s = { s with sent := s.line.tx.down.toList.map (fun b => .cutOff .down b.frame)
      ++ s.line.tx.up.toList.map (fun b => .cutOff .up b.frame) ++ s.sent } := by
  cases hup : s.line.tx.up <;> cases hdown : s.line.tx.down <;> simp [cutOffAll, cutOff, ByLine.get, State.send, hup, hdown]

/-! ### The cold reset -/

/-- R194: the whole state after a cold reset with the RESET pin released. -/
theorem coldReset_eq (s : State) (h : s.pins.reset = false) :
    coldReset s = { coldValues (cutOffAll s) with
      beam := {}
      lane := (resetLane {} s.pins 0 0).startedFrom 1500
      sent := coldSent ++ (cutOffAll s).sent } := by
  simp only [coldReset, h, startWork_eq, cutOffAll_eq]
  rfl

/-- R131: the flap state after a reset. -/
theorem resetLane_flap (q : Params) (pins : Pins) (faults n limit : Nat) :
    ((resetLane q pins faults n).startedFrom limit).flap =
      match pins.atOpen, pins.atClosed with
      | true, false => .opened
      | false, true => if pins.emergency = true ∨ 2 ≤ faults then .opening else .closed
      | _, _ => if pins.emergency = true ∨ 2 ≤ faults then .opening else .closing := by
  have hholds : (resetLane q pins faults n).eff.holdsOpen = true ↔ pins.emergency = true ∨ 2 ≤ faults := by
    simp only [resetLane, Lane.derived]
    split
    · simp [*, Mode.holdsOpen]
    · split <;> simp_all [Mode.holdsOpen]
  have hflap : (resetLane q pins faults n).flap = resetFlap pins := rfl
  simp only [Lane.startedFrom, hholds, hflap, resetFlap]
  by_cases hopen : pins.emergency = true ∨ 2 ≤ faults <;>
    cases hatOpen : pins.atOpen <;> cases hatClosed : pins.atClosed <;> simp [hopen, hflap, resetFlap, hatOpen, hatClosed]

theorem resetLane_motionTimer (q : Params) (pins : Pins) (faults n : Nat) :
    let l := (resetLane q pins faults n).startedFrom q.flapMotionLimit
    l.motionTimer = (if l.flap = .opening ∨ l.flap = .closing then some q.flapMotionLimit else none)
      ∧ l.closeTimer = (if l.flap = .opened then some q.closeDelay else none) := by
  have hflap : (resetLane q pins faults n).flap = resetFlap pins := rfl
  have hmotion : (resetLane q pins faults n).motionTimer = if resetFlap pins = .closing then some q.flapMotionLimit else none := rfl
  have hclose : (resetLane q pins faults n).closeTimer = if resetFlap pins = .opened then some q.closeDelay else none := rfl
  simp only [Lane.startedFrom]
  split
  next h =>
    rw [hflap] at h
    simp [hclose, h.2]
  next => rcases resetFlap_cases pins with h | h | h <;> simp [hflap, hmotion, hclose, h]

/-- The rest of the lane stands as a reset leaves it. -/
theorem Lane.startedFrom_rest (limit : Nat) (l : Lane) :
    ∃ f m, l.startedFrom limit = { l with flap := f, motionTimer := m } := by
  unfold Lane.startedFrom
  split
  · exact ⟨.opening, some limit, rfl⟩
  · exact ⟨l.flap, l.motionTimer, rfl⟩

/-- Settles O5. -/
theorem coldResetLeavesTheColdValues : Obligations.ColdResetLeavesTheColdValues := by
  intro s hreset
  have hflap := resetLane_flap {} s.pins 0 0 1500
  obtain ⟨hmotion, hclose⟩ := resetLane_motionTimer {} s.pins 0 0
  obtain ⟨f, m, hstarted⟩ := Lane.startedFrom_rest 1500 (resetLane {} s.pins 0 0)
  simp only [hstarted, nonpos_iff_eq_zero, OfNat.ofNat_ne_zero, or_false] at hflap hmotion hclose
  refine ⟨_, exec_coldReset .powerOn s, ?_⟩
  rw [coldReset_eq s hreset, hstarted, cutOffAll_eq]
  exact ⟨rfl, rfl, rfl, rfl, rfl, rfl, rfl, rfl, rfl, rfl, rfl, rfl, rfl, rfl, rfl, rfl, rfl, rfl, rfl, rfl, rfl, rfl, rfl, rfl,
    rfl, rfl, rfl, rfl, rfl, rfl, rfl, hflap, hclose, hmotion⟩

/-! ### The RESET pin -/

/-- R194: while RESET is asserted a command leaves everything but the pins as it stands. -/
theorem exec_underReset {c : Instr} {s : State} (hw : c.wf = true) (hc : ∀ cause, c ≠ .coldReset cause)
    (hr : s.pins.reset = true) : ∃ q : Pins, exec c s = .next { s with pins := q } ∧ q.reset = true := by
  cases hpins : atPins c with
  | false =>
    obtain ⟨r, hexec⟩ := exec_eq_effect hpins s
    exact ⟨s.pins, hexec.trans (effect_underReset hw hr), hr⟩
  | true =>
    cases c with
    | coldReset cause => exact absurd rfl (hc cause)
    | emergencyPinChange asserted => exact ⟨{ s.pins with emergency := asserted }, (exec_emergencyPinChange ..).trans (if_pos hr), hr⟩
    | linkPinChange port up => exact ⟨{ s.pins with link := s.pins.link.put port up }, (exec_linkPinChange ..).trans (if_pos hr), hr⟩
    | holdInputChange port asserted => exact ⟨{ s.pins with hold := s.pins.hold.put port asserted }, (exec_holdInputChange ..).trans (if_pos hr), hr⟩
    | limitAsserted atOpen atClosed => exact ⟨{ s.pins with atOpen := atOpen, atClosed := atClosed }, (exec_limitAsserted ..).trans (if_pos hr), hr⟩
    | _ => cases hpins

theorem coldReset_asserted (s : State) (h : s.pins.reset = true) : coldReset s = coldValues (cutOffAll s) := by
  simp only [coldReset, h, if_true]

/-- R181: what a reset cuts off is all it adds to what was sent, while RESET is asserted. -/
theorem mem_cutOffAll_sent {m : Sent} (h : m ∈ (cutOffAll s).sent) : m ∈ s.sent ∨ ∃ p f, m = .cutOff p f := by
  simp only [cutOffAll_eq, List.mem_append, List.mem_map] at h
  obtain (⟨b, -, rfl⟩ | ⟨b, -, rfl⟩) | h := h
  · exact .inr ⟨_, _, rfl⟩
  · exact .inr ⟨_, _, rfl⟩
  · exact .inl h

/-- Settles O7. -/
theorem resetPinHoldsThePart : Obligations.ResetPinHoldsThePart := by
  refine ⟨fun s => ⟨?_, fun hr => ?_, fun hr => ?_⟩, fun c s hw hc hr => ?_⟩
  · refine ⟨_, exec_coldReset .pinAsserted s, ?_⟩
    rw [coldReset_asserted _ rfl]
    have hcut := cutOffAll_eq (s.onPins fun p => { p with reset := true })
    refine ⟨by rw [hcut]; rfl, rfl, rfl, rfl, rfl, rfl, rfl, by rw [hcut]; rfl, by rw [hcut]; rfl, fun m hm => ?_⟩
    exact mem_cutOffAll_sent (s := s.onPins fun p => { p with reset := true }) hm
  · rw [exec_coldReset, exec_coldReset]
    simp only [hr, if_true]
    rfl
  · rw [exec_coldReset]
    simp [hr]
  · obtain ⟨q, hexec, hq⟩ := exec_underReset hw hc hr
    exact ⟨q, hexec, hq, by simp [State.flapOpenOut, hq], by simp [State.flapCloseOut, hq]⟩

/-! ### The state called reset -/

theorem State.reset_slotsHold : State.reset.slotsHold := by
  refine ⟨fun p => ⟨?_, ?_, ?_, ?_, ?_⟩, ?_, ?_⟩
  · cases p <;> exact ⟨rfl, by decide⟩
  · cases p <;> exact ⟨rfl, rfl⟩
  · cases p <;> exact ⟨nofun, nofun, by decide, fun _ => .inl rfl⟩
  · cases p <;> exact nofun
  · cases p <;> exact nofun
  · exact ⟨rfl, rfl, by decide, by decide⟩
  · exact ⟨by decide, nofun, fun p => Nat.zero_le _, nofun⟩

/-- Settles O8. -/
theorem resetStateIsColdAndMeetsTheInvariants : Obligations.ResetStateIsColdAndMeetsTheInvariants := by
  have hbeam : State.reset.beam.inBounds := Beams.inBounds_cold (by simp [tagInRange])
  obtain ⟨hquotas, hhold⟩ : State.reset.line.inBounds := LineIf.inBounds_idle ..
  obtain ⟨hseq, hnumbered⟩ := Journal.inBounds_cold
  have htag : tagInRange 1 := by simp [tagInRange]
  refine ⟨fun s hpins htx => ?_, ⟨Lane.accountHolds_cold, Lane.queuesServed_cold⟩, ⟨hquotas, hhold⟩,
    ⟨Lane.modeDerived_cold, Lane.flapsSafe_cold⟩, ⟨?_, ?_, Params.inRange_cold, hnumbered⟩, State.reset_slotsHold⟩
  · rw [exec_coldReset, coldReset_eq s (by rw [hpins]), cutOffAll_eq, hpins, htx]
    simp only [coldValues, Option.toList_none, List.map_nil, List.nil_append]
    rfl
  · exact ⟨Standing.withinCapacity_cold, hbeam.2, Nat.zero_le _⟩
  · exact ⟨htag, htag, htag, hbeam.1, Nat.zero_le _, Nat.zero_le _, Nat.zero_le _, hseq.1, hseq.2, Nat.zero_le _, Nat.zero_le _,
      rfl, nofun⟩

/-! ### The warm reset -/

theorem Six.get_map {α β : Type} (f : α → β) (x : Six α) (i : Nat) : (x.map f).get i = f (x.get i) := by
  unfold Six.get
  split <;> rfl

theorem warmRecord_drive (r : BeamRecord) : (warmRecord r).drive = r.drive := by
  simp only [warmRecord]
  repeat' split
  all_goals rfl

/-- R91, R193: the whole state after a warm reset, once the torn writes have been recorded. -/
theorem startWork_warmValues (n : Nat) (s : State) :
    startWork n (warmValues (cutOffAll s)) = { s with
      dialog := s.dialog.warm s.params.pollSteady
      standing := { s.standing with inFlight := ⟨none, none⟩ }
      tariff := s.tariff.warm
      beam := { s.beam.warm with senseTag := nextTag s.beam.senseTag, sampleTimer := some s.params.sampleSteady, answered := false }
      lane := (resetLane s.params s.pins s.beam.warm.faults n).startedFrom s.params.flapMotionLimit
      journal := { s.journal with reserved := 0, overflow := false }
      line := s.line.warm s.pins.link
      mgmt := s.mgmt.warm
      sent := .sample (nextTag s.beam.senseTag) :: ([6, 5, 4, 3, 2, 1].map fun i => .drive i (s.record i).drive)
        ++ (cutOffAll s).sent } := by
  have hdrive : ∀ i, ((warmValues s).record i).drive = (s.record i).drive := fun i => by
    rw [State.record, warmValues, Beams.warm, Six.get_map, warmRecord_drive, State.record]
  rw [startWork_eq, cutOffAll_eq]
  simp only [← hdrive]
  rfl

/-- R97, R142, R143: what a reset leaves nothing to follow. -/
theorem follow_of_quiet {s : State} (htempo : s.lane.tempo = .steady) (hquiet : s.laneQuiet = true)
    (hdormant : s.lane.dormantTimer ≠ none) (htried : s.beam.records.map (fun r => { r with tried := false }) = s.beam.records) :
    follow s = s := by
  have hbrisk : followBrisk s = s := by simp [followBrisk, htempo]
  have hdormant' : followDormant s = s := by simp [followDormant, htempo, hquiet, hdormant]
  rw [follow, hbrisk, hdormant', followTried]
  split
  · rfl
  · rw [State.onBeam, htried]

/-- R91: a beam's record after a warm reset, field by field. -/
theorem warmRecord_eq (r : BeamRecord) :
    warmRecord r = { r with
      state := if r.state = .fault ∧ r.cause = some .trim then .fault else .clear
      cause := if r.state = .fault ∧ r.cause = some .trim then some .trim else none
      ref := if r.state = .trimming then r.level else r.ref
      count := 0, steps := 0, settle := 0, tried := false } := by
  simp only [warmRecord]
  split
  next h => simp [h]
  next h => simp [h]
  next h => simp [h]
  next h => split <;> simp_all

/-- R91: the faulty beams that a warm reset leaves. -/
theorem Beams.faults_warm (b : Beams) :
    b.warm.faults = b.records.toList.countP (fun r => decide (r.state = .fault ∧ r.cause = some .trim)) := by
  have hmap : b.warm.records.toList = b.records.toList.map warmRecord := rfl
  rw [Beams.faults, hmap, List.countP_map]
  congr
  funext r
  simp only [Function.comp, warmRecord_eq]
  by_cases h : r.state = .fault ∧ r.cause = some .trim <;> simp [h]

/-- R193: the whole state after the warm reset of a part no write is outstanding in. -/
theorem warmReset_of_idle {s : State} (h : ∀ p, (s.ctx p).state ≠ .committing ∧ (s.ctx p).state ≠ .confirming) :
    warmReset s = startWork s.lane.nextCreditNo (warmValues (cutOffAll s)) := by
  have hidle : ∀ p, recordOutstanding p s = s := by
    intro p
    obtain ⟨hcommitting, hconfirming⟩ := h p
    have hwriting : (s.ctx p).state.writing = false := by
      cases hstate : (s.ctx p).state <;> simp_all [DialogState.writing]
    rw [recordOutstanding, hwriting]
    rfl
  simp only [warmReset, hidle]

theorem follow_startWork_warmValues (n : Nat) (s : State) :
    follow (startWork n (warmValues (cutOffAll s))) = startWork n (warmValues (cutOffAll s)) := by
  obtain ⟨f, m, hstarted⟩ :=
    Lane.startedFrom_rest s.params.flapMotionLimit (resetLane s.params s.pins s.beam.warm.faults n)
  rw [startWork_warmValues, hstarted]
  refine follow_of_quiet rfl rfl nofun ?_
  simp only [Beams.warm, Six.map, warmRecord_eq]

/-- Settles O9. -/
theorem warmResetKeepsWhatTheRulesName : Obligations.WarmResetKeepsWhatTheRulesName := by
  intro s hreset hpending hgone hidle
  have hflap := resetLane_flap s.params s.pins s.beam.warm.faults s.lane.nextCreditNo s.params.flapMotionLimit
  obtain ⟨hmotion, hclose⟩ := resetLane_motionTimer s.params s.pins s.beam.warm.faults s.lane.nextCreditNo
  obtain ⟨f, m, hstarted⟩ :=
    Lane.startedFrom_rest s.params.flapMotionLimit (resetLane s.params s.pins s.beam.warm.faults s.lane.nextCreditNo)
  have hrecords : s.beam.warm.records = s.beam.records.map _ := congrArg s.beam.records.map (funext warmRecord_eq)
  simp only [hstarted] at hflap hmotion hclose
  refine ⟨_, exec_warmReset_due hreset (by simp [State.restartDue, hpending, hgone]), ?_⟩
  rw [warmReset_of_idle hidle, follow_startWork_warmValues, startWork_warmValues, hstarted, cutOffAll_eq]
  refine ⟨rfl, rfl, rfl, rfl, rfl, rfl, rfl, rfl, rfl, rfl, rfl, rfl, rfl, rfl, rfl, rfl, rfl, rfl, rfl, ?_, hrecords, ?_⟩
  · simp [State.record]
  refine ⟨Beams.faults_warm _, rfl, rfl, rfl, ?_, rfl, rfl, rfl, rfl, rfl, rfl, rfl, rfl, rfl, hflap, hclose, hmotion, rfl, rfl,
    rfl, rfl, rfl, rfl, rfl, rfl⟩
  simp [resetLane, Lane.derived]

/-- R23, R150: the journal slots a context gives back. -/
theorem dropJournalRes_eq (p : Port) (s : State) :
    dropJournalRes p s = { s with
      dialog := { s.dialog with ctx := s.dialog.ctx.put p { s.ctx p with journalRes := 0 } }
      journal := { s.journal with reserved := s.journal.reserved - (s.ctx p).journalRes } } := rfl

theorem Context.without_creditRes {c : Context} (h : c.creditRes = false) : { c with creditRes := false } = c :=
  congrArg (fun b => { c with creditRes := b }) h.symm

/-- R23, step 1: the credit slot a context gives back. -/
theorem dropCreditRes_whole (p : Port) (s : State) :
    ∃ lane, dropCreditRes p s = { s with
      dialog := { s.dialog with ctx := s.dialog.ctx.put p { s.ctx p with creditRes := false } }
      lane := lane } := by
  unfold dropCreditRes
  split
  · exact ⟨_, rfl⟩
  next h =>
    rw [Context.without_creditRes (Bool.eq_false_iff.mpr h)]
    exact ⟨s.lane, by cases p <;> rfl⟩

theorem displace_of_room {s : State} (h : s.standing.recovery.length < Config.recoveryCapacity) : displace s = s := if_pos h

/-- R19, R39: what a torn write leaves, with room in the recovery list. -/
theorem recordTorn_eq {p : Port} {i : Intended} {cardId pre : Nat} {preBalance : Int} {s : State}
    (hi : (s.ctx p).intended = some i) (hc : (s.ctx p).cardId = some cardId) (hpre : (s.ctx p).preCounter = some pre)
    (hb : (s.ctx p).preBalance = some preBalance) (hroom : s.standing.recovery.length < Config.recoveryCapacity) :
    ∃ lane reserved, recordTorn p s = { s with
      lane := lane
      dialog := { s.dialog with ctx := s.dialog.ctx.put p { s.ctx p with creditRes := false, journalRes := 0 } }
      journal := { s.journal with held := s.journal.held + 1, reserved := reserved }
      standing := { s.standing with
        recovery := s.standing.recovery ++ [s.tornEntry p i cardId pre preBalance]
        sightings := enterSighting (s.ownSighting cardId pre preBalance .torn) s.standing.sightings } } := by
  obtain ⟨lane, hdrop⟩ :=
    dropCreditRes_whole p (dropJournalRes p (holdSlot (s.onCtx p fun c => { c with journalRes := c.journalRes - 1 })))
  refine ⟨lane, s.journal.reserved - 1 - ((s.ctx p).journalRes - 1), ?_⟩
  unfold recordTorn
  split
  next hi' hc' hpre' hb' =>
    cases hi.symm.trans hi'
    cases hc.symm.trans hc'
    cases hpre.symm.trans hpre'
    cases hb.symm.trans hb'
    dsimp only
    rw [hdrop, createRecovery, displace_of_room]
    · cases p <;> rfl
    · exact hroom
  next hnone => exact (hnone i cardId pre preBalance hi hc hpre hb).elim

theorem DialogState.writing_iff {d : DialogState} : d.writing = true ↔ d = .committing ∨ d = .confirming := by
  cases d <;> simp [DialogState.writing]

theorem recordOutstanding_of_idle {p : Port} {s : State} (h : (s.ctx p).state ≠ .committing ∧ (s.ctx p).state ≠ .confirming) :
    recordOutstanding p s = s := by
  rw [recordOutstanding, if_neg]
  rw [DialogState.writing_iff, not_or]
  exact h

theorem enterSighting_find (r : Sighting) (l : List Sighting) :
    findBy Sighting.cardId r.cardId (enterSighting r l) = some r := by
  unfold enterSighting
  repeat' split
  all_goals simp [findBy_putBy]

/-- Settles O10. -/
theorem warmResetRecordsAWriteAsTorn : Obligations.WarmResetRecordsAWriteAsTorn := by
  intro p i cardId pre preBalance s hreset hpending hgone hwriting hother hi hc hpre hb hroom
  obtain ⟨lane, reserved, htorn⟩ := recordTorn_eq (s := { s with params := { s.params with eventMask := 0 } }) hi hc hpre hb hroom
  have hrecord : recordOutstanding p s = _ := (if_pos (DialogState.writing_iff.mpr hwriting)).trans
    (congrArg (fun u : State => { u with params := s.params }) htorn)
  have hreset' : warmReset s = startWork s.lane.nextCreditNo (warmValues (cutOffAll (recordOutstanding p s))) := by
    cases p with
    | a =>
      have hb' : recordOutstanding .b (recordOutstanding .a s) = recordOutstanding .a s := by
        refine recordOutstanding_of_idle ?_
        rw [hrecord]
        exact hother
      simp only [warmReset, hb']
    | b =>
      have ha' : recordOutstanding .a s = s := recordOutstanding_of_idle hother
      simp only [warmReset, ha']
  refine ⟨_, exec_warmReset_due hreset (by simp [State.restartDue, hpending, hgone]), ?_⟩
  rw [hreset', follow_startWork_warmValues, startWork_warmValues, hrecord]
  exact ⟨rfl, rfl, rfl, rfl,
    enterSighting_find ⟨cardId, pre, preBalance, .torn, s.line.address, s.stamp⟩ s.standing.sightings, by cases p <;> rfl, rfl, rfl⟩

end Sys2Proof.Machine

/-! PROOFS. The input pins, the links and the buffers of the line (chapter 9): what each event does to the whole state. -/

namespace Sys2Proof.Machine

open Sys2Proof

variable {s t : State} {p : LinePort}

/-! ### Pins and links -/

theorem takeLink_up (p : LinePort) (s : State) :
    takeLink p true s = { s with line := { s.line with link := s.line.link.put p true, linkFilter := s.line.linkFilter.put p none } } :=
  rfl

/-- R163, R164: a link that goes DOWN. -/
theorem takeLink_down (p : LinePort) (s : State) :
    takeLink p false s = tearDown p { s with
      line := { s.line with link := s.line.link.put p false, linkFilter := s.line.linkFilter.put p none } } := rfl

theorem replyGone_eq (restart : Bool) (s : State) :
    replyGone restart s =
      { s with mgmt := { s.mgmt with restartReplyGone := s.mgmt.restartReplyGone || restart } } := by
  unfold replyGone
  split
  next h => simp [h, State.onMgmt]
  next h => simp [h]

theorem cutOff_eq (p : LinePort) (s : State) :
    cutOff p s = { s with sent := (s.line.tx.get p).toList.map (fun b => .cutOff p b.frame) ++ s.sent } := by
  unfold cutOff
  split <;> simp_all [State.send]

/-- R164: the whole state after a line teardown. -/
theorem tearDown_eq (p : LinePort) (s : State) :
    tearDown p s = { s with
      line := (s.line.tearDown p).setHold
      mgmt := { s.mgmt with restartReplyGone := s.mgmt.restartReplyGone || s.line.losesRestart p }
      sent := (s.line.tx.get p).toList.map (fun b => .cutOff p b.frame) ++ s.sent } := by
  rw [tearDown, replyGone_eq, cutOff_eq]
  rfl

/-- Settles O11. -/
theorem pinAndLinkLevelsAreTaken : Obligations.PinAndLinkLevelsAreTaken := by
  refine ⟨fun asserted s hr hne => ?_, fun p up s hr hne => ?_, fun p asserted s hr => ?_,
    fun p s hr hfilter => ⟨fun hup => ?_, fun hdown => ?_⟩⟩
  · rw [exec_emergencyPinChange, if_neg (by simp [hr])]
    exact effect_some rfl hr (if_neg hne)
  · rw [exec_linkPinChange, if_neg (by simp [hr])]
    exact effect_some rfl hr (if_neg hne)
  · rw [exec_holdInputChange, if_neg (by simp [hr])]
    exact effect_some rfl hr rfl
  · rw [exec_linkTaken]
    refine effect_some rfl hr ?_
    rw [if_pos (by rw [hfilter]; rfl), hup, takeLink_up]
  · refine ⟨follow (takeLink p false s), ?_, ?_⟩
    · rw [exec_linkTaken]
      refine effect_some rfl hr ?_
      rw [if_pos (by rw [hfilter]; rfl), hdown]
    · rw [takeLink_down, tearDown_eq]
      simp [LineIf.tearDown]

/-! ### Reception -/

/-- R166: what makes a received frame one to discard. -/
theorem parseFrame_eq_none {bytes : List Byte} {endMark : Bool}
    (h : endMark = false ∨ checked bytes = none ∨ ∃ body, checked bytes = some body ∧
      (body.length < 5 ∨ 62 < (body.getD 3 0).toNat ∨ 240 < (body.getD 4 0).toNat ∨ (body.getD 4 0).toNat ≠ body.length - 5)) :
    parseFrame bytes endMark = none := by
  unfold parseFrame
  split
  next kind dest src hops length payload hc =>
    refine if_neg fun ⟨hmark, hlen, hpayload, hhops⟩ => ?_
    obtain rfl | hbad | ⟨body, hbody, hbad⟩ := h
    · cases hmark
    · cases hc.symm.trans hbad
    · cases hbody.symm.trans hc
      simp at hbad
      omega
  next => rfl

theorem exec_frameEnd_discarded {bytes : List Byte} {endMark : Bool} (hw : (Instr.frameEnd p bytes endMark).wf = true)
    (hr : s.pins.reset = false) (hp : s.line.receiving.get p = true) (hf : parseFrame bytes endMark = none) :
    exec (.frameEnd p bytes endMark) s = .next (follow (freeReception p s)) := by
  rw [exec_frameEnd]
  refine effect_some hw hr ?_
  rw [if_pos hp, endReception, hf]

/-- Settles O13. -/
theorem frameIsReceivedOrDiscarded : Obligations.FrameIsReceivedOrDiscarded := by
  refine ⟨fun p s hr hlink hidle => ⟨fun ⟨hfree, hquota⟩ => ?_, fun hfull => ?_⟩, fun p bytes endMark s hr hw hp hbad => ?_⟩
  · have hreceives : s.line.receives p = true := by simp [LineIf.receives, Config.portQuota, hfree, hquota]
    constructor
    · rw [exec_frameStart]
      exact effect_some rfl hr (by rw [if_pos ⟨hlink, hidle⟩, startReception_of_receives hreceives])
    · rw [LineIf.taking, LineIf.count_setHold, LineIf.count_receive _ _ _ hidle, if_pos rfl]
  · rw [exec_frameStart]
    refine effect_some rfl hr ?_
    rw [if_pos ⟨hlink, hidle⟩, startReception, if_neg]
    · rfl
    · simpa [LineIf.receives, Config.portQuota, and_comm] using hfull
  · exact exec_frameEnd_discarded hw hr hp (parseFrame_eq_none hbad)

/-! ### Transmission -/

theorem exec_transmissionBegin_of (hr : s.pins.reset = false) (htx : s.line.tx.get p = none) (hlink : s.line.link.get p = true)
    (hhold : s.pins.hold.get p = false) (hqueued : s.line.relayQ.get p ≠ [] ∨ s.line.localQ.get p ≠ []) :
    exec (.transmissionBegin p) s = .next (follow (s.onBuffers (LineIf.pick p))) := by
  rw [exec_transmissionBegin]
  refine effect_some rfl hr (if_pos ?_)
  simp only [State.transmits, htx, hlink, hhold, Option.isNone_none, Bool.not_false, Bool.and_self, Bool.true_and,
    Bool.not_eq_true', Bool.and_eq_false_iff, List.isEmpty_eq_false_iff]
  exact hqueued

theorem LineIf.pick_relay {l : LineIf} {b : Buffered} {rest : List Buffered} (hb : l.relayQ.get p = b :: rest)
    (hturn : l.localQ.get p = [] ∨ l.turn.get p = .own) : l.pick p = l.pickRelay p b rest := by
  unfold LineIf.pick
  obtain hempty | hturn := hturn
  · rw [hb, hempty]
  · rw [hb, hturn]
    cases l.localQ.get p <;> rfl

theorem LineIf.pick_local {l : LineIf} {b : Buffered} {rest : List Buffered} (hb : l.localQ.get p = b :: rest)
    (hturn : l.relayQ.get p = [] ∨ l.turn.get p = .relay) : l.pick p = l.pickLocal p b rest := by
  unfold LineIf.pick
  obtain hempty | hturn := hturn
  · rw [hb, hempty]
  · rw [hb, hturn]
    cases l.relayQ.get p <;> rfl

/-- Settles O15. -/
theorem arbiterPicksTheQueueTurnDoesNotName : Obligations.ArbiterPicksTheQueueTurnDoesNotName := by
  refine fun p s hr htx hlink hhold => ⟨fun b rest hb hturn => ?_, fun b rest hb hturn => ?_⟩
  · rw [exec_transmissionBegin_of hr htx hlink hhold (.inl (by simp [hb])), State.onBuffers, State.onLine, LineIf.pick_relay hb hturn]
    rfl
  · rw [exec_transmissionBegin_of hr htx hlink hhold (.inr (by simp [hb])), State.onBuffers, State.onLine, LineIf.pick_local hb hturn]
    rfl

/-- Settles O16. -/
theorem sentAndHeldFramesPassTheirBuffersOn : Obligations.SentAndHeldFramesPassTheirBuffersOn := by
  refine ⟨fun p b s hr hb => ⟨?_, ?_⟩, fun h rest s hr hheld hown => ⟨?_, ?_, ?_⟩⟩
  · rw [exec_transmissionEnd]
    refine effect_some rfl hr ?_
    rw [hb, Option.map_some, endTransmission, replyGone_eq]
    rfl
  · simpa using LineIf.count_endTransmission p b b.quota s.line hb
  · rw [exec_heldConversion]
    refine effect_some rfl hr ?_
    rw [convertOne, if_pos ⟨by simp [hheld], hown⟩, State.onBuffers, State.onLine, LineIf.convertHead, hheld]
  · simpa using LineIf.count_convertHead h rest .own s.line hheld
  · simpa using LineIf.count_convertHead h rest (.port h.source) s.line hheld

/-! ### What the part makes for the line -/

/-- R176: no held entry can be converted. -/
def LineIf.settled (l : LineIf) : Prop := l.held = [] ∨ Config.localQuota ≤ l.count .own

theorem convertOne_of_settled (h : s.line.settled) : convertOne s = s := by
  refine if_neg fun ⟨hheld, hroom⟩ => ?_
  obtain h | h := h
  · exact hheld h
  · exact absurd hroom (Nat.not_lt.mpr h)

theorem convertWaiting_of_settled (h : s.line.settled) : convertWaiting s = s := by
  simp only [convertWaiting, convertOne_of_settled h]

/-- R176: a conversion that takes place counts against the local quota. -/
theorem count_convertOne (h : ¬ s.line.settled) : (convertOne s).line.count .own = s.line.count .own + 1 := by
  rw [LineIf.settled, not_or, not_le] at h
  obtain ⟨e, rest, hheld⟩ := List.exists_cons_of_ne_nil h.1
  rw [convertOne, if_pos h]
  simpa [State.onBuffers] using LineIf.count_convertHead e rest .own s.line hheld

theorem settled_or_count_convertOne (s : State) (n : Nat) (h : s.line.settled ∨ n ≤ s.line.count .own) :
    (convertOne s).line.settled ∨ n + 1 ≤ (convertOne s).line.count .own := by
  by_cases hs : s.line.settled
  · exact .inl (by rwa [convertOne_of_settled hs])
  · rw [count_convertOne hs]
    exact .inr (Nat.succ_le_succ (h.resolve_left hs))

/-- R176: four conversions take every place there is. -/
theorem settled_convertWaiting (s : State) : (convertWaiting s).line.settled := by
  have h := settled_or_count_convertOne _ 3 <| settled_or_count_convertOne _ 2 <| settled_or_count_convertOne _ 1 <|
    settled_or_count_convertOne s 0 (.inr (Nat.zero_le _))
  exact h.elim id .inr

theorem convertWaiting_convertOne (s : State) : convertWaiting (convertOne s) = convertWaiting s :=
  convertOne_of_settled (settled_convertWaiting s)

theorem sendCopy_of_down {f : Frame} (h : s.line.link.get p = false) : sendCopy p f s = s := if_pos h

/-- R177: a copy that finds a place. -/
theorem sendCopy_of_room {f : Frame} (hlink : s.line.link.get p = true) (hheld : s.line.held = []) (hroom : s.line.count .own < 4) :
    sendCopy p f s = { s with line := s.line.queued p f } := by
  rw [sendCopy, if_neg (by simp [hlink]), convertWaiting_of_settled (.inl hheld)]
  exact if_pos hroom

/-- R177: a copy that finds none. -/
theorem sendCopy_of_full {f : Frame} (hlink : s.line.link.get p = true) (hfull : 4 ≤ s.line.count .own) :
    sendCopy p f s = s.dropping := by
  rw [sendCopy, if_neg (by simp [hlink]), convertWaiting_of_settled (.inr hfull)]
  exact if_neg (Nat.not_lt.mpr hfull)

/-- R176, R177: a held entry takes a free place before a copy does. -/
theorem sendCopy_of_held {f : Frame} (hheld : s.line.held ≠ []) (hroom : s.line.count .own < 4) (hlink : s.line.link.get p = true) :
    sendCopy p f s = sendCopy p f { s with line := s.line.convertHead.setHold } := by
  have hconvert : { s with line := s.line.convertHead.setHold } = convertOne s := (if_pos ⟨hheld, hroom⟩).symm
  have hlink' : s.line.convertHead.setHold.link.get p = true := by simpa using hlink
  simp only [hconvert, sendCopy, hlink, hlink', convertWaiting_convertOne, Bool.true_eq_false, if_false]

theorem LineIf.count_queued (f : Frame) (l : LineIf) : (l.queued p f).count .own = l.count .own + 1 := by
  rw [LineIf.queued, LineIf.count_setHold, LineIf.count_joinLocal, if_pos rfl]

/-- R177: a broadcast that finds no place. -/
theorem broadcast_of_full {kind : Byte} {payload : List Byte} (hfull : 4 ≤ s.line.count .own) :
    broadcast kind payload s = if s.line.link.up = true ∨ s.line.link.down = true then s.dropping else s := by
  simp only [broadcast]
  cases hup : s.line.link.up with
  | false =>
    rw [sendCopy_of_down (p := .up) hup]
    cases hdown : s.line.link.down with
    | false => rw [sendCopy_of_down (p := .down) hdown, if_neg (by simp)]
    | true => rw [sendCopy_of_full (p := .down) hdown hfull, if_pos (.inr rfl)]
  | true =>
    rw [sendCopy_of_full (p := .up) hup hfull, if_pos (.inl rfl)]
    cases hdown : s.line.link.down with
    | false => exact sendCopy_of_down (p := .down) hdown
    | true => exact sendCopy_of_full (p := .down) hdown hfull

/-- Settles O17. -/
theorem copiesAndEventsTakeALocalPlace : Obligations.CopiesAndEventsTakeALocalPlace := by
  refine ⟨fun p f s => ⟨sendCopy_of_down, fun hlink hheld hroom => ⟨sendCopy_of_room hlink hheld hroom, LineIf.count_queued ..⟩,
    sendCopy_of_full, sendCopy_of_held⟩, fun kind payload s => ⟨broadcast_of_full, fun hheld hroom => ⟨?_, ?_, ?_, ?_⟩⟩,
    fun e s => ⟨fun hoff => if_neg (by simp [hoff]), fun hon => ⟨?_, ?_, ?_⟩⟩⟩
  · intro hup hdown
    simp only [broadcast, sendCopy_of_down (p := .up) hup, sendCopy_of_down (p := .down) hdown]
  · intro hup hdown
    simp only [broadcast, sendCopy_of_room (p := .up) hup hheld hroom]
    exact sendCopy_of_down (p := .down) hdown
  · intro hup hdown
    simp only [broadcast, sendCopy_of_down (p := .up) hup, sendCopy_of_room (p := .down) hdown hheld hroom]
  · intro hup hdown
    simp only [broadcast, sendCopy_of_room (p := .up) hup hheld hroom]
    split
    next hlast => exact sendCopy_of_full (p := .down) hdown (by rw [LineIf.count_queued, hlast])
    next hmore => exact sendCopy_of_room (p := .down) hdown hheld (by rw [LineIf.count_queued]; omega)
  · intro hup
    rw [event, if_pos hon]
    exact sendCopy_of_down (p := .up) hup
  · intro hup hheld hroom
    rw [event, if_pos hon]
    exact sendCopy_of_room (p := .up) hup hheld hroom
  · intro hup hfull
    rw [event, if_pos hon]
    exact sendCopy_of_full (p := .up) hup hfull

/-! ### Enumeration -/

/-- R165: a frame arrives whole by a port that can receive one, as a broadcast or addressed to this gate. -/
theorem arrive_of_canReceive {a : Arrival} {kind : Byte} {payload : List Byte} {f : Frame} (h : s.canReceive a.port)
    (hf : s.arriving a kind payload = some f) :
    arrive a kind payload s = some (goodFrame a.port f { s with line := s.line.taking a.port }) := by
  obtain ⟨-, hlink, hidle, hroom⟩ := h
  have htaken : (s.line.taking a.port).receiving.get a.port = true := ByLine.get_put_same ..
  simp only [arrive, hf, hidle, hlink, startReception_of_receives hroom, htaken, Bool.false_eq_true, Bool.true_eq_false, if_true,
    if_false]

/-- Settles O18. -/
theorem enumerateAssignsTheAddress : Obligations.EnumerateAssignsTheAddress := by
  intro n s h
  have harrive := arrive_of_canReceive (a := ⟨.up, true, 0, 0⟩) (kind := 0) (payload := [n]) h rfl
  have hup : s.line.link.up = true := h.2.1
  refine ⟨_, (exec_enumerate n s).trans (effect_some rfl h.1 harrive), ?_⟩
  have hrun : goodFrame .up ⟨0, broadcastDest, 0, 0, [n]⟩ { s with line := s.line.taking .up } = runEnumerate n (s.onArrival .up) := rfl
  rw [hrun, runEnumerate]
  by_cases hzero : n.toNat = 0
  · simp [hzero, freeReception, State.onBuffers, State.onLine, State.onArrival, LineIf.heardOn, LineIf.taking]
  by_cases hassigned : n.toNat ≤ 62
  · cases hdown : s.line.link.down <;>
      simp [hzero, hassigned, Nat.not_lt.mpr hassigned, hdown, holdReception, hup, State.onBuffers, State.onLine,
        State.onArrival, LineIf.heardOn, LineIf.taking, ByLine.get]
  · simp [hzero, hassigned, Nat.not_le.mp hassigned, holdReception, hup, State.onBuffers, State.onLine,
      State.onArrival, LineIf.heardOn, LineIf.taking, ByLine.get]

end Sys2Proof.Machine

/-! PROOFS. What the part sends and what a link carries is read back as it is (chapter 11): frames, line commands, card images. -/

namespace Sys2Proof.Machine

open Sys2Proof

/-! ### Fields in front of others -/

/-- A field that stands first is read back. -/
theorem fieldAt_be {n v : Nat} (y : List Byte) (h : fits n v = true) : fieldAt (be n v ++ y) 0 n = v := by
  rw [fieldAt_first _ _ _ (length_be ..), ofBe_be h]

/-- A field is read behind the field in front of it. -/
theorem fieldAt_be_append {n : Nat} (v i m : Nat) (y : List Byte) (h : n ≤ i) : fieldAt (be n v ++ y) i m = fieldAt y (i - n) m :=
  fieldAt_behind _ _ _ _ _ (length_be ..) h

theorem drop_be_append {n : Nat} (v i : Nat) (y : List Byte) (h : n ≤ i) : (be n v ++ y).drop i = y.drop (i - n) := by
  rw [List.drop_append, List.drop_eq_nil_of_le (by simpa using h), length_be, List.nil_append]

theorem fieldAt_be_alone {n v : Nat} (h : fits n v = true) : fieldAt (be n v) 0 n = v := by
  rw [fieldAt_whole _ _ (length_be ..), ofBe_be h]

theorem fits_of_le {n v m : Nat} (h : v ≤ m) (hm : m < 256 ^ n) : fits n v = true := by
  simp only [fits, decide_eq_true_eq]
  omega

/-! ### Frames -/

theorem parseFrame_bytes {f : Frame} (hpayload : f.payload.length ≤ 240) (hhops : f.hops ≤ 62) :
    parseFrame f.bytes true = some f := by
  have hlen : (byte f.payload.length).toNat = f.payload.length := toNat_byte (by omega)
  have hops : (byte f.hops).toNat = f.hops := toNat_byte (by omega)
  simp [parseFrame, Frame.bytes, hlen, hops, hpayload, hhops]

/-! ### Line commands -/

theorem parseEntries_fields {entries : List (Byte × Int)} (h : ∀ e ∈ entries, fitsSigned 4 e.2 = true) :
    parseEntries entries.length (entries.flatMap fun e => e.1 :: beSigned 4 e.2) = some entries := by
  induction entries with
  | nil => rfl
  | cons e es ih =>
    obtain ⟨he, hes⟩ := List.forall_mem_cons.mp h
    have hread := ofBeSigned_beSigned he
    have hbytes : ∃ a b c d, beSigned 4 e.2 = [a, b, c, d] := ⟨_, _, _, _, rfl⟩
    obtain ⟨a, b, c, d, hb⟩ := hbytes
    rw [hb] at hread
    simp [parseEntries, hb, hread, ih hes]

/-- Section 11.2: a command read back from its payload after the Tag. -/
theorem parseBody_of_parse {c : LineCommand} (tag : Byte) (h : parseLineCommand c.kind.toNat c.fields = some c) :
    parseBody c.kind (tag :: c.fields) = .command tag c := by
  cases c <;> simp only [LineCommand.kind] at h ⊢ <;> simp_all [parseBody]

/-- The operands of a line command within the widths that section 11.2 gives them (R200). -/
def LineCommand.fits : LineCommand → Bool
  | .time date secs => Sys2Proof.fits 2 date && Sys2Proof.fits 3 secs
  | .set entries => decide (entries.length ≤ 47) && entries.all fun e => fitsSigned 4 e.2
  | .stageOpen bankTag => Sys2Proof.fits 4 bankTag
  | .stageLoad bankTag _ _ _ => Sys2Proof.fits 4 bankTag
  | .stageSwitch (some (date, secs)) => Sys2Proof.fits 2 date && Sys2Proof.fits 3 secs
  | .denyAdd cardId _ _ => Sys2Proof.fits 5 cardId
  | .denyDrop cardId => Sys2Proof.fits 5 cardId
  | .trim firstSeq n => Sys2Proof.fits 4 firstSeq && Sys2Proof.fits 2 n
  | .query | .stageSwitch none | .stageDiscard | .collect _ | .laneMode _ | .ackStart | .restart => true

/-- A well-formed instruction carries a command whose operands fit. -/
theorem fits_of_wf {i : Instr} {a : Arrival} {tag : Byte} {c : LineCommand} (hw : i.wf = true)
    (hi : asLineCommand i = some (a, tag, c)) : c.fits = true := by
  cases i
  case stageSwitch arrival tag effective =>
    cases hi
    obtain _ | ⟨date, secs⟩ := effective
    · rfl
    · exact ((Bool.and_eq_true ..).mp hw).2
  case set arrival tag entries =>
    cases hi
    simp only [Instr.wf, Bool.and_eq_true] at hw
    simpa only [LineCommand.fits, Bool.and_eq_true] using ⟨hw.1.2, hw.2⟩
  all_goals cases hi
  all_goals simp_all [Instr.wf, LineCommand.fits]

theorem parseLineCommand_fields {c : LineCommand} (h : c.fits = true) : parseLineCommand c.kind.toNat c.fields = some c := by
  cases c with
  | time date secs =>
    obtain ⟨hdate, hsecs⟩ := (Bool.and_eq_true ..).mp h
    have hd := fieldAt_be (be 3 secs) hdate
    have hs := (fieldAt_be_append date 2 3 (be 3 secs) le_rfl).trans (fieldAt_be_alone hsecs)
    simp [parseLineCommand, LineCommand.kind, LineCommand.fields, hd, hs]
  | set entries =>
    simp only [LineCommand.fits, Bool.and_eq_true, decide_eq_true_eq, List.all_eq_true] at h
    have hlen : (byte entries.length).toNat = entries.length := toNat_byte (by omega)
    simp [parseLineCommand, LineCommand.kind, LineCommand.fields, hlen, parseEntries_fields h.2]
  | stageOpen bankTag =>
    simp [parseLineCommand, LineCommand.kind, LineCommand.fields, fieldAt_be_alone (n := 4) h]
  | stageLoad bankTag segment part values =>
    have ht := fieldAt_be (n := 4) ([segment, part] ++ values) h
    have hs := fieldAt_be_append bankTag 4 1 ([segment, part] ++ values) le_rfl
    have hp := fieldAt_be_append (n := 4) bankTag 5 1 ([segment, part] ++ values) (by omega)
    have hv := drop_be_append (n := 4) bankTag 6 ([segment, part] ++ values) (by omega)
    simp [fieldAt_cons_one, fieldAt_cons_succ] at ht hs hp hv
    simp [parseLineCommand, LineCommand.kind, LineCommand.fields, ht, hs, hp, hv]
    omega
  | stageSwitch effective =>
    cases effective with
    | none => simp [parseLineCommand, LineCommand.kind, LineCommand.fields]
    | some e =>
      obtain ⟨date, secs⟩ := e
      obtain ⟨hdate, hsecs⟩ := (Bool.and_eq_true ..).mp h
      have hd := fieldAt_be (be 3 secs) hdate
      have hs := (fieldAt_be_append date 2 3 (be 3 secs) le_rfl).trans (fieldAt_be_alone hsecs)
      have hne : (1 : Byte) :: (be 2 date ++ be 3 secs) ≠ [0] := by simp
      simp [parseLineCommand, LineCommand.kind, LineCommand.fields, fieldAt_cons_succ, hd, hs]
  | denyAdd cardId reason action =>
    have hc := fieldAt_be (n := 5) [reason, action] h
    have hr := fieldAt_be_append cardId 5 1 [reason, action] le_rfl
    have ha := fieldAt_be_append (n := 5) cardId 6 1 [reason, action] (by omega)
    simp [fieldAt_cons_one, fieldAt_cons_succ] at hr ha
    simp [parseLineCommand, LineCommand.kind, LineCommand.fields, hc, hr, ha]
  | denyDrop cardId =>
    simp [parseLineCommand, LineCommand.kind, LineCommand.fields, fieldAt_be_alone (n := 5) h]
  | trim firstSeq n =>
    obtain ⟨hseq, hn⟩ := (Bool.and_eq_true ..).mp h
    have hq := fieldAt_be (be 2 n) hseq
    have hm := (fieldAt_be_append firstSeq 4 2 (be 2 n) le_rfl).trans (fieldAt_be_alone hn)
    simp [parseLineCommand, LineCommand.kind, LineCommand.fields, hq, hm]
  | query => rfl
  | stageDiscard => rfl
  | collect k => rfl
  | laneMode m => rfl
  | ackStart => rfl
  | restart => rfl

theorem parseBody_fields {c : LineCommand} (tag : Byte) (h : c.fits = true) : parseBody c.kind (tag :: c.fields) = .command tag c :=
  parseBody_of_parse tag (parseLineCommand_fields h)

/-- Settles O19. -/
theorem lineCommandPayloadsReadBack : Obligations.LineCommandPayloadsReadBack :=
  fun _ _ tag _ hw hi => parseBody_fields tag (fits_of_wf hw hi)

/-! ### Card images -/

/-- R200: what the ranges of the card image table say. -/
theorem Image.inRange_iff (i : Image) : i.inRange = true ↔
    namesCard i.cardId = true ∧ i.keyGen ≤ 15 ∧ i.cls ≤ 7 ∧ i.classExpiry ≤ 65535 ∧ -50000 ≤ i.balance ∧ i.balance ≤ 500000
      ∧ i.counter ≤ 65535 ∧ i.entry.all TripEntry.inRange = true ∧ i.lastExit.all ServiceTime.inRange = true
      ∧ i.dailyDate ≤ 65535 ∧ i.dailySpent ≤ 65535 := by
  simp [Image.inRange, and_assoc]

theorem fieldAt_beSigned_append (n : Nat) (v : Int) (i m : Nat) (y : List Byte) (h : n ≤ i) :
    fieldAt (beSigned n v ++ y) i m = fieldAt y (i - n) m :=
  fieldAt_be_append _ i m y h

theorem take_beSigned (n : Nat) (v : Int) (y : List Byte) : (beSigned n v ++ y).take n = beSigned n v := by
  simp

/-- The fields of an image are read from their places, whether or not the optional ones stand among them. -/
theorem imageFields_bytes {i : Image} (h : i.inRange = true) : imageFields i.bytes = some i := by
  obtain ⟨cardId, keyGen, cls, classExpiry, status, balance, counter, entry, lastExit, dailyDate, dailySpent⟩ := i
  obtain ⟨hcard, hkey, hcls, hexpiry, hlow, hhigh, hcounter, hentry, hexit, hdate, hspent⟩ := (Image.inRange_iff _).mp h
  simp only [namesCard, Config.noCard, Bool.and_eq_true, decide_eq_true_eq] at hcard hkey hcls hexpiry hlow hhigh hcounter hdate hspent
  have h5 : fits 5 cardId = true := by simp [fits]; omega
  have hk : fits 1 keyGen = true := fits_of_le hkey (by norm_num)
  have hc : fits 1 cls = true := fits_of_le hcls (by norm_num)
  have hx : fits 2 classExpiry = true := fits_of_le hexpiry (by norm_num)
  have hn : fits 2 counter = true := fits_of_le hcounter (by norm_num)
  have hd : fits 2 dailyDate = true := fits_of_le hdate (by norm_num)
  have hs : fits 2 dailySpent = true := fits_of_le hspent (by norm_num)
  have hb : ofBeSigned (beSigned 3 balance) = balance := ofBeSigned_beSigned (by simp [fitsSigned]; omega)
  have ht : fits 1 (firstCode (status == .active)) = true := by cases status <;> rfl
  have h0 : fits 1 0 = true := rfl
  have h1 : fits 1 1 = true := rfl
  have h2 : fits 1 2 = true := rfl
  have h3 : fits 1 3 = true := rfl
  have hstatus : (if firstCode (status == .active) = 0 then CardStatus.active else .blocked) = status := by cases status <;> rfl
  have hcode : ¬1 < firstCode (status == .active) := by cases status <;> decide
  have hin : ∀ e, entry = some e → fits 2 e.station = true ∧ fits 1 e.group = true ∧ fits 2 e.date = true ∧ fits 3 e.secs = true
      ∧ fits 1 e.band = true := by
    rintro e rfl
    simp only [Option.all_some, TripEntry.inRange, Bool.and_eq_true, decide_eq_true_eq] at hentry
    obtain ⟨⟨⟨⟨hst, hg⟩, hda⟩, hse⟩, hba⟩ := hentry
    exact ⟨fits_of_le hst (by norm_num), fits_of_le hg (by norm_num), fits_of_le hda (by norm_num), fits_of_le hse (by norm_num),
      fits_of_le hba (by norm_num)⟩
  have hout : ∀ r, lastExit = some r → fits 2 r.date = true ∧ fits 3 r.secs = true := by
    rintro r rfl
    simp only [Option.all_some, ServiceTime.inRange, Bool.and_eq_true, decide_eq_true_eq] at hexit
    exact ⟨fits_of_le hexit.1 (by norm_num), fits_of_le hexit.2 (by norm_num)⟩
  clear hentry hexit
  obtain _ | ⟨station, group, date, secs, band⟩ := entry <;> obtain _ | ⟨exitDate, exitSecs⟩ := lastExit
  all_goals
    simp only [Option.some.injEq, forall_eq', reduceCtorEq, IsEmpty.forall_iff, implies_true] at hin hout
    simp [Image.bytes, tripBytes, optionBytes, ServiceTime.bytes, bitsValue, yesCode, imageFields, imageLength, fieldAt_be_append,
      fieldAt_be, fieldAt_be_alone, fieldAt_beSigned_append, drop_be_append, *]

/-- Settles O20. -/
theorem framesAndCardImagesReadBack : Obligations.FramesAndCardImagesReadBack :=
  ⟨fun _ hpayload hhops => parseFrame_bytes hpayload hhops, fun i h => by simp [parseImage, imageFields_bytes h, h]⟩

end Sys2Proof.Machine

/-! PROOFS. A good frame is routed, and a line command taken (chapters 9 and 10): addressed it is executed and answered, as a
broadcast it acts and goes on. -/

namespace Sys2Proof.Machine

open Sys2Proof

variable {i : Instr} {a : Arrival} {tag kind : Byte} {c : LineCommand} {payload : List Byte} {f : Frame} {p : LinePort} {s : State}

/-! ### What a frame carries -/

/-- Log 4: a row that stands for a frame brings it whole. -/
theorem exec_asFrame (hi : asFrame i = some (a, kind, payload)) (s : State) : exec i s = effect i s (arrive a kind payload) := by
  cases i
  all_goals cases hi
  all_goals rfl

theorem asFrame_of_asLineCommand (hi : asLineCommand i = some (a, tag, c)) : asFrame i = some (a, c.kind, tag :: c.fields) := by
  cases i
  all_goals cases hi
  all_goals rfl

theorem exec_asLineCommand (hi : asLineCommand i = some (a, tag, c)) (s : State) : exec i s = effect i s (arriveCommand a tag c) :=
  exec_asFrame (asFrame_of_asLineCommand hi) s

theorem hops_of_asFrame (hw : i.wf = true) (hi : asFrame i = some (a, kind, payload)) : a.hops ≤ 62 := by
  cases i
  all_goals cases hi
  all_goals simp_all [Instr.wf, Arrival.wf]

/-- R165: the payload of a row's frame fits. -/
theorem payload_of_asFrame (hw : i.wf = true) (hi : asFrame i = some (a, kind, payload)) : payload.length ≤ 240 := by
  have hframe : Laws.framePayload i = some payload := by
    cases i
    all_goals cases hi
    all_goals rfl
  cases i
  case enumerate => exact Laws.PayloadFits.enumerate _ hw _ hframe
  case time => exact Laws.PayloadFits.time _ _ _ _ hw _ hframe
  case set => exact Laws.PayloadFits.set _ _ _ hw _ hframe
  case query => exact Laws.PayloadFits.query _ _ hw _ hframe
  case stageOpen => exact Laws.PayloadFits.stageOpen _ _ _ hw _ hframe
  case stageLoad => exact Laws.PayloadFits.stageLoad _ _ _ _ _ _ hw _ hframe
  case stageSwitch => exact Laws.PayloadFits.stageSwitch _ _ _ hw _ hframe
  case stageDiscard => exact Laws.PayloadFits.stageDiscard _ _ hw _ hframe
  case denyAdd => exact Laws.PayloadFits.denyAdd _ _ _ _ _ hw _ hframe
  case denyDrop => exact Laws.PayloadFits.denyDrop _ _ _ hw _ hframe
  case collect => exact Laws.PayloadFits.collect _ _ _ hw _ hframe
  case trim => exact Laws.PayloadFits.trim _ _ _ _ hw _ hframe
  case laneMode => exact Laws.PayloadFits.laneMode _ _ _ hw _ hframe
  case ackStart => exact Laws.PayloadFits.ackStart _ _ hw _ hframe
  case restart => exact Laws.PayloadFits.restart _ _ hw _ hframe
  case unknownKind => exact Laws.PayloadFits.unknownKind _ _ _ hw _ hframe
  case sight => exact Laws.PayloadFits.sight _ _ hw _ hframe
  case suspect => exact Laws.PayloadFits.suspect _ _ hw _ hframe
  all_goals cases hi

/-! ### Routing (R167, R168) -/

/-- R166: the end of a reception by a good frame. -/
theorem exec_frameEnd_good (hr : s.pins.reset = false) (hp : s.line.receiving.get p = true) (hpayload : f.payload.length ≤ 240)
    (hhops : f.hops ≤ 62) : exec (.frameEnd p f.bytes true) s = .next (follow (goodFrame p f s)) := by
  rw [exec_frameEnd]
  have hlen : f.bytes.length = f.payload.length + 7 := by simp [Frame.bytes, withCheck, be]
  refine effect_some ?_ hr ?_
  · simp [Instr.wf, hlen]
    omega
  · rw [if_pos hp, endReception, parseFrame_bytes hpayload hhops]

/-- A good frame as its port hears it. -/
theorem goodFrame_eq (p : LinePort) (f : Frame) (s : State) :
    goodFrame p f s = match p with
      | .up => routeUp f { s with line := s.line.heardOn s.params .up }
      | .down => routeDown f { s with line := s.line.heardOn s.params .down } := by
  cases p <;> rfl

theorem goodFrame_broadcast (hk : f.kind ≠ 0) (hd : f.dest = broadcastDest) :
    goodFrame p f s = takeBroadcast p f { s with line := s.line.heardOn s.params p } := by
  rw [goodFrame_eq]
  cases p
  · exact (if_neg hk).trans (if_pos hd)
  · exact (if_neg hk).trans (if_pos hd)

theorem LineIf.heardOn_address (q : Params) (p : LinePort) (l : LineIf) : (l.heardOn q p).address = l.address := by cases p <;> rfl

/-- R168: a good frame for another gate, or from below for the line head. -/
theorem goodFrame_relayed (hk : f.kind ≠ 0) (hd : f.dest.toNat ≤ 62) (hhead : f.dest.toNat = 0 → p = .down)
    (hself : s.line.addressed f = false) : goodFrame p f s = relay p f { s with line := s.line.heardOn s.params p } := by
  have hb : f.dest ≠ broadcastDest := fun h => by
    rw [h] at hd
    exact absurd hd (by decide)
  rw [goodFrame_eq]
  cases p
  · have hdest : ¬(f.dest = 0 ∨ 63 < f.dest.toNat) := by
      rintro (h | h)
      · cases hhead (by rw [h]; rfl)
      · omega
    have ha : ¬({ s with line := s.line.heardOn s.params .up } : State).line.addressed f = true := by
      rw [Bool.not_eq_true]
      exact hself
    exact (if_neg hk).trans <| (if_neg hb).trans <| (if_neg ha).trans <| if_neg hdest
  · have ha : ¬s.line.addressed f = true := by simp [hself]
    exact (if_neg hk).trans <| (if_neg hb).trans <| (if_neg ha).trans <| if_neg (by omega)

/-- Kinds meant for the line head: nothing is done with them here. -/
theorem takeAddressed_inert (h : parseBody f.kind f.payload = .inert) : takeAddressed p f s = freeReception p s := by
  simp only [takeAddressed, h]

theorem byte_eq_of_toNat {b : Byte} {n : Nat} (h : b.toNat = n) : b = byte n := by rw [← h, byte_toNat]

/-- R169, R170, log 10: a good frame that is disregarded. -/
theorem goodFrame_disregarded (haddress : s.line.address ≤ 62)
    (h : ((f.kind = 1 ∨ f.kind = 16 ∨ f.kind = 17) ∧ 1 ≤ s.line.address ∧ f.dest.toNat = s.line.address)
      ∨ (p = .down ∧ f.kind = 0) ∨ (p = .up ∧ f.kind ≠ 0 ∧ f.dest = 0) ∨ (f.kind ≠ 0 ∧ 63 < f.dest.toNat)) :
    goodFrame p f s = freeReception p { s with line := s.line.heardOn s.params p } := by
  obtain ⟨hkind, hset, hdest⟩ | ⟨rfl, hk⟩ | ⟨rfl, hk, hd⟩ | ⟨hk, hd⟩ := h
  · have hk : f.kind ≠ 0 := by
      obtain h | h | h := hkind <;> rw [h] <;> decide
    have hb : f.dest ≠ broadcastDest := fun h => by
      rw [h] at hdest
      have : (63 : Nat) = s.line.address := hdest
      omega
    rw [goodFrame_addressed _ _ _ hk hb, takeAddressed_inert]
    · obtain h | h | h := hkind <;> rw [h] <;> rfl
    · have : s.line.address ≠ 0 := by omega
      simp [LineIf.addressed, hdest, this]
  · exact if_pos hk
  · have hb : f.dest ≠ broadcastDest := by rw [hd]; decide
    have ha : ¬(heardHead s).line.addressed f = true := by
      intro ha
      simp only [LineIf.addressed, Bool.and_eq_true, bne_iff_ne, beq_iff_eq] at ha
      exact ha.1 (by rw [← ha.2, hd]; rfl)
    exact (if_neg hk).trans <| (if_neg hb).trans <| (if_neg ha).trans <| if_pos (.inl hd)
  · have hb : f.dest ≠ broadcastDest := fun h => by
      rw [h] at hd
      exact absurd hd (by decide)
    have ha : ∀ t : State, t.line.address = s.line.address → ¬t.line.addressed f = true := by
      intro t ht ha
      simp only [LineIf.addressed, Bool.and_eq_true, bne_iff_ne, beq_iff_eq] at ha
      omega
    cases p
    · exact (if_neg hk).trans <| (if_neg hb).trans <| (if_neg (ha _ rfl)).trans <| if_pos (.inr hd)
    · exact (if_neg hk).trans <| (if_neg hb).trans <| (if_neg (ha _ rfl)).trans <| if_pos hd

/-- The frame that a row brings to a gate it can be addressed to. -/
theorem arriving_eq (h : a.broadcast = false → 1 ≤ s.line.address) :
    s.arriving a kind payload = some ⟨kind, if a.broadcast then broadcastDest else byte s.line.address, a.src, a.hops, payload⟩ := by
  cases hb : a.broadcast with
  | true => simp [State.arriving, hb]
  | false =>
    have : s.line.address ≠ 0 := Nat.one_le_iff_ne_zero.mp (h hb)
    simp [State.arriving, hb, this]

/-- Settles O14. -/
theorem goodFrameIsRelayedOrTaken : Obligations.GoodFrameIsRelayedOrTaken := by
  refine ⟨fun p f s hr hp hpayload hhops hk hd hhead hself => ?relayed, fun i a kind payload s hw hi hr haddress => ?taken,
    fun p f s hr hp hpayload hhops haddress h => ?disregarded⟩
  case relayed =>
    have hnot : s.line.addressed f = false := by
      rw [LineIf.addressed, Bool.and_eq_false_iff]
      by_cases hz : s.line.address = 0
      · exact .inl (by simp [hz])
      · exact .inr (by simpa using fun h => hz (hself h))
    rw [exec_frameEnd_good hr hp hpayload hhops, goodFrame_relayed hk hd hhead hnot]
    have hb : f.dest ≠ broadcastDest := fun h => by
      rw [h] at hd
      exact absurd hd (by decide)
    simp only [relay, if_neg hb]
    split
    · rfl
    · rfl
  case taken =>
    have hpayload := payload_of_asFrame hw hi
    have hhops := hops_of_asFrame hw hi
    have harr := arriving_eq (kind := kind) (payload := payload) fun h => (haddress h).1
    refine ⟨fun hp => ?_, fun hc => ?_⟩
    · rw [exec_frameEnd_good hr hp hpayload hhops, exec_asFrame hi]
      refine (effect_some hw hr ?_).symm
      simp only [arrive, harr, hp, if_true]
    · rw [exec_frameEnd_good (s := { s with line := s.line.taking a.port }) hr (ByLine.get_put_same ..) hpayload hhops, exec_asFrame hi]
      exact (effect_some hw hr (arrive_of_canReceive hc harr)).symm
  case disregarded =>
    rw [exec_frameEnd_good hr hp hpayload hhops, goodFrame_disregarded haddress h, freeReception, State.onBuffers, State.onLine]
    simp only [LineIf.heardOn_receiving]

/-! ### Line commands addressed and broadcast -/

/-- Settles O21. -/
theorem addressedCommandIsExecutedAndAnswered : Obligations.AddressedCommandIsExecutedAndAnswered := by
  intro i a tag c s hw hi h
  rw [exec_asLineCommand hi]
  refine effect_some hw h.1.1 ?_
  have hlink : (execute c (s.onArrival a.port)).state.line.link.up = true := by
    rw [(execute_line c _).2.1, State.onArrival, LineIf.heardOn_link]
    exact h.2.2.2.2
  rw [arriveCommand, arrive_addressed _ _ _ _ c.kind_ne_zero h, takeAddressed]
  simp only [parseBody_fields tag (fits_of_wf hw hi), runAddressed]
  rw [holdReception, if_pos (show (execute c (s.onArrival a.port)).state.line.link.get .up = true from hlink)]
  rfl

/-- R168: the buffer of a broadcast passes on, whatever link and Hops say. -/
theorem takeBroadcast_eq (hd : f.dest = broadcastDest) :
    takeBroadcast p f s = (actOnBroadcast f s).onBuffers fun l =>
      let m : LineIf := { l with receiving := l.receiving.put p false }
      if 0 < f.hops ∧ (actOnBroadcast f s).line.link.get (otherLine p) = true then
        { m with
          relayQ := m.relayQ.put (otherLine p) (m.relayQ.get (otherLine p) ++ [⟨{ f with hops := f.hops - 1 }, .port p, false⟩]) }
      else m := by
  rw [takeBroadcast]
  by_cases hh : 0 < f.hops
  · cases hl : (actOnBroadcast f s).line.link.get (otherLine p) <;> simp [relay, freeReception, hh, hl, hd]
  · simp [freeReception, hh]

/-- Settles O22. -/
theorem broadcastCommandActsAndGoesOn : Obligations.BroadcastCommandActsAndGoesOn := by
  intro i a tag c s hw hi h hb
  rw [exec_asLineCommand hi]
  refine effect_some hw h.1 ?_
  have harr := arriving_eq (s := s) (a := a) (kind := c.kind) (payload := tag :: c.fields) (fun e => by simp [hb] at e)
  rw [hb] at harr
  rw [arriveCommand, arrive_of_canReceive h harr, goodFrame_broadcast c.kind_ne_zero rfl, takeBroadcast_eq rfl]
  have hact : actOnBroadcast ⟨c.kind, broadcastDest, a.src, a.hops, tag :: c.fields⟩ (s.onArrival a.port)
      = if c.actsAsBroadcast then (execute c (s.onArrival a.port)).state else s.onArrival a.port := by
    simp only [actOnBroadcast, parseBody_fields tag (fits_of_wf hw hi)]
  have hlink : (actOnBroadcast ⟨c.kind, broadcastDest, a.src, a.hops, tag :: c.fields⟩ (s.onArrival a.port)).line.link = s.line.link := by
    rw [hact]
    split
    · exact (execute_line c _).2.1.trans (LineIf.heardOn_link ..)
    · exact LineIf.heardOn_link ..
  have hact' := congrArg some (congrArg (fun x : State => x.onBuffers fun l =>
      let m : LineIf := { l with receiving := l.receiving.put a.port false }
      if 0 < a.hops ∧ s.line.link.get (otherLine a.port) = true then
        { m with
          relayQ := m.relayQ.put (otherLine a.port) (m.relayQ.get (otherLine a.port) ++
            [⟨⟨c.kind, 63, a.src, a.hops - 1, tag :: c.fields⟩, .port a.port, false⟩]) }
      else m) hact)
  rw [← hact', ← hlink]
  rfl

/-- R184, R169: a frame of unknown Kind. -/
theorem parseBody_unknown (h : 20 ≤ kind.toNat) : parseBody kind payload = .unknown := by
  unfold parseBody
  split
  all_goals simp_all
  all_goals omega

theorem exec_unknownKind_arrives (hw : (Instr.unknownKind a kind payload).wf = true) (hr : s.pins.reset = false) {t : State}
    (h : arrive a kind payload s = some t) : exec (.unknownKind a kind payload) s = .next (follow t) := by
  rw [exec_unknownKind]
  exact effect_some hw hr h

/-- The buffers when a reception has begun and its buffer is free again. -/
theorem LineIf.count_taking_freed (q : Quota) (r : Params) (l : LineIf) (h : l.receiving.get p = false) :
    ({ (l.taking p).heardOn r p with receiving := ((l.taking p).heardOn r p).receiving.put p false } : LineIf).count q = l.count q := by
  have hput : (l.receiving.put p true).put p false = l.receiving := by
    rw [ByLine.put_put, ← h, ByLine.put_get]
  rw [LineIf.heardOn_receiving]
  cases p
  all_goals simp only [LineIf.taking, LineIf.heardOn, LineIf.setHold, hput]
  all_goals rfl

/-- Settles O34. -/
theorem unknownKindIsAnsweredUnknown : Obligations.UnknownKindIsAnsweredUnknown := by
  intro a kind payload s hw
  have hkind : 20 ≤ kind.toNat := by
    simp only [Instr.wf, Bool.and_eq_true, decide_eq_true_eq] at hw
    exact hw.1.2
  have hk : kind ≠ 0 := fun h => by
    rw [h] at hkind
    exact absurd hkind (by decide)
  refine ⟨fun h => ?addressed, fun h hb hhops => ?broadcast⟩
  case addressed =>
    have harrive := arrive_addressed a kind payload s hk h
    rw [takeAddressed] at harrive
    simp only [parseBody_unknown hkind] at harrive
    rw [holdReception_reply h.1.2.2.1 h.2.2.2.2 rfl] at harrive
    exact exec_unknownKind_arrives hw h.1.1 harrive
  case broadcast =>
    have harr := arriving_eq (s := s) (a := a) (kind := kind) (payload := payload) (fun e => by simp [hb] at e)
    rw [hb] at harr
    have harrive := arrive_of_canReceive h harr
    rw [goodFrame_broadcast hk rfl, takeBroadcast, if_neg (by simp [hhops]), actOnBroadcast] at harrive
    simp only [parseBody_unknown hkind] at harrive
    refine ⟨_, exec_unknownKind_arrives hw h.1 harrive, ?_⟩
    have hcount q := LineIf.count_taking_freed q s.params s.line h.2.2.1
    cases hp : a.port
    all_goals simp_all [LineIf.free, LineIf.heardOn, LineIf.taking]

end Sys2Proof.Machine

/-! PROOFS. The line commands that are answered at once (chapters 4, 8 and 10): QUERY, TIME, STAGE-SWITCH, COLLECT, TRIM, RESTART. -/

namespace Sys2Proof.Machine

open Sys2Proof

variable {i : Instr} {a : Arrival} {tag : Byte} {c : LineCommand} {p : LinePort} {s t : State}

/-- R169, R176, R184: a line command that leaves the line alone has its effect, and its REPLY is held; only the REPLY of a RESTART
can decide the warm reset. -/
theorem exec_lineCommand_answered (c : LineCommand) {x : Executed} (hi : asLineCommand i = some (a, tag, c)) (hw : i.wf = true)
    (h : s.canAnswer a) (hc : c ≠ .restart) (hx : execute c (s.onArrival a.port) = x) (hl : x.state.line = (s.onArrival a.port).line) :
    exec i s = .next (follow
      { x.state with line := s.line.answered s.params a.port ⟨c.kind, tag, x.status, x.contents⟩ false }) := by
  have hrestart : (c == .restart && !s.mgmt.restartPending) = false := by simp [hc]
  rw [exec_asLineCommand hi, ← hrestart]
  exact effect_arriveCommand_answered hw h (parseBody_fields tag (fits_of_wf hw hi)) hx hl

/-! ### QUERY -/

/-- Settles O25. -/
theorem queryReportsAndClearsTheFlags : Obligations.QueryReportsAndClearsTheFlags := by
  intro a tag s hw h
  have hanswered := exec_lineCommand_answered .query rfl hw h nofun rfl rfl
  exact ⟨hanswered, rfl, rfl, rfl, rfl, rfl⟩

/-! ### TIME and the clock -/

theorem State.switchReached_eq (s : State) :
    s.switchReached = s.tariff.switchAt.all fun e => s.clock.state != .unset && decide (e.absolute ≤ s.clock.time.absolute) := by
  unfold State.switchReached
  cases s.tariff.switchAt <;> rfl

theorem testSwitch_eq (s : State) :
    testSwitch s = { s with
      tariff := if s.tariff.switch = .waiting ∧ s.switchReached = true then { s.tariff with switch := .due } else s.tariff } := by
  unfold testSwitch
  split
  · rfl
  · rfl

/-- R79: the test of a switch by a clock that has been set. -/
theorem testSwitch_of_set (hc : s.clock.state ≠ .unset) :
    testSwitch s = { s with
      tariff := if s.tariff.switch = .waiting ∧ s.tariff.switchAt.all (fun e => decide (e.absolute ≤ s.clock.time.absolute)) = true then
          { s.tariff with switch := .due }
        else s.tariff } := by
  have hset : (s.clock.state != .unset) = true := by simpa using hc
  rw [testSwitch_eq, State.switchReached_eq]
  simp only [hset, Bool.true_and]

theorem exec_clockAdvance_due (hr : s.pins.reset = false) (hs : s.second = 0) :
    exec .clockAdvance s = .next (follow (advanceClock s)) := by
  rw [exec_clockAdvance]
  exact effect_some rfl hr (if_pos hs)

/-- Settles O23. -/
theorem timeIsSetAndAdvances : Obligations.TimeIsSetAndAdvances := by
  refine ⟨fun a tag date secs s hw h => ?set, fun s hr hs => ?second⟩
  case set =>
    by_cases hsecs : secs ≤ 86399
    · rw [if_pos hsecs]
      refine exec_lineCommand_answered (.time date secs) (x := ⟨.done, .nothing, setClock date secs (s.onArrival a.port)⟩) rfl hw h
        nofun (if_neg (Nat.not_lt.mpr hsecs)) ?_ |>.trans ?_
      · rw [setClock, testSwitch_eq]
        rfl
      · have hset : (ClockState.good : ClockState) ≠ .unset := by decide
        rw [setClock, testSwitch_of_set (by exact hset)]
        rfl
    · rw [if_neg hsecs]
      exact exec_lineCommand_answered (.time date secs) (x := unchanged .refusedValue (s.onArrival a.port)) rfl hw h nofun
        (if_pos (Nat.not_le.mp hsecs)) rfl
  case second =>
    rw [exec_clockAdvance_due hr hs]
    dsimp only
    unfold advanceClock
    split
    next hunset => rw [if_pos (by exact hunset)]
    next hset =>
      rw [if_neg (by exact hset), testSwitch_of_set (by exact hset)]
      rfl

/-! ### STAGE-SWITCH -/

theorem acceptSwitch_eq (effective : Option ServiceTime) (s : State) :
    acceptSwitch effective s = { s with
      tariff := { s.tariff with
        stage := { s.tariff.stage with state := .complete }
        switch := if effective.all (fun e => s.clock.state != .unset && decide (e.absolute ≤ s.clock.time.absolute)) then .due else .waiting
        switchAt := effective } } := by
  rw [acceptSwitch, testSwitch_eq, State.switchReached_eq, State.onTariff]
  simp only [true_and]
  split <;> rename_i hdue
  · rw [if_pos (by exact hdue)]
  · rw [if_neg (by exact hdue)]

theorem retimeSwitch_eq (effective : Option ServiceTime) (s : State) :
    retimeSwitch effective s = { s with
      tariff := { s.tariff with
        switch := if s.tariff.switch = .waiting
            ∧ effective.all (fun e => s.clock.state != .unset && decide (e.absolute ≤ s.clock.time.absolute)) = true then .due
          else s.tariff.switch
        switchAt := effective } } := by
  rw [retimeSwitch, testSwitch_eq, State.switchReached_eq, State.onTariff]
  dsimp only
  split <;> rename_i hdue
  · rw [if_pos (by exact hdue)]
  · rw [if_neg (by exact hdue)]

/-- Settles O28. -/
theorem stageSwitchIsTestedInOrder : Obligations.StageSwitchIsTestedInOrder := by
  intro a tag effective s hw h at' answer run hasCome
  have hanswered (x : Status × State) (hx : stageSwitched at' (s.onArrival a.port) = x) (hl : x.2.line = (s.onArrival a.port).line) :
      exec (.stageSwitch a tag effective) s =
        .next (follow { x.2 with line := s.line.answered s.params a.port ⟨7, tag, x.1, .nothing⟩ false }) := by
    have hrun : execute (.stageSwitch effective) (s.onArrival a.port) = bare x := congrArg bare hx
    have hreply := exec_lineCommand_answered (.stageSwitch effective) rfl hw h nofun hrun hl
    exact hreply
  have hbad (e : Nat × Nat) (he : effective = some e) (hsecs : 86399 < e.2) :
      (at'.any fun e => decide (86399 < e.secs)) = true := by simpa [at', he] using hsecs
  have hfine (he : ∀ e, effective = some e → e.2 ≤ 86399) : (at'.any fun e => decide (86399 < e.secs)) = false := by
    cases effective with
    | none => rfl
    | some e => simpa [at'] using he e rfl
  refine ⟨fun hclosed => ?_, fun hopen ⟨e, he, hsecs⟩ => ?_, fun hopened he => ⟨fun hb => ?_, fun b hb hsum => ?_, fun b hb hsum => ?_⟩,
    fun hcomplete he => ?_⟩
  · exact hanswered (.refusedState, s.onArrival a.port) (by simp only [stageSwitched, State.onArrival, hclosed]) rfl
  · refine hanswered (.refusedValue, s.onArrival a.port) ?_ rfl
    simp only [stageSwitched, State.onArrival, hbad e he hsecs, if_true]
    cases hstate : s.tariff.stage.state
    · exact absurd hstate hopen
    · rfl
    · rfl
  · refine hanswered (.incomplete, s.onArrival a.port) ?_ rfl
    simp only [stageSwitched, State.onArrival, hopened, hfine he, hb, Bool.false_eq_true, if_false]
  · refine hanswered (.badCheck, s.onArrival a.port) ?_ rfl
    have : b.checks = false := by simpa [Bank.checks] using hsum
    simp only [stageSwitched, State.onArrival, hopened, hfine he, hb, this, Bool.false_eq_true, if_false]
  · have : b.checks = true := by simpa [Bank.checks] using hsum
    refine (hanswered (.done, acceptSwitch at' (s.onArrival a.port)) ?_ (by rw [acceptSwitch_eq])).trans ?_
    · simp only [stageSwitched, State.onArrival, hopened, hfine he, hb, this, Bool.false_eq_true, if_false, if_true]
    · rw [acceptSwitch_eq]
      rfl
  · refine (hanswered (.done, retimeSwitch at' (s.onArrival a.port)) ?_ (by rw [retimeSwitch_eq])).trans ?_
    · simp only [stageSwitched, State.onArrival, hcomplete, hfine he, Bool.false_eq_true, if_false]
    · rw [retimeSwitch_eq]
      rfl

/-! ### COLLECT and TRIM -/

/-- R158: COLLECT copies a greatest number of the oldest records, whole and in order. -/
theorem copyRecords_greatest (k room : Nat) (l : List Record) :
    ∃ n ≤ k, copyRecords k room l = l.take n ∧ ((l.take n).map fun r => r.bytes.length).sum ≤ room
      ∧ (n < k → ∀ r, l[n]? = some r → room < ((l.take n).map fun r => r.bytes.length).sum + r.bytes.length) := by
  induction k generalizing room l with
  | zero => exact ⟨0, le_rfl, by simp [copyRecords]⟩
  | succ k ih =>
    cases l with
    | nil => exact ⟨0, by simp [copyRecords]⟩
    | cons r rs =>
      by_cases hfit : r.bytes.length ≤ room
      · obtain ⟨n, hn, hcopy, hsum, hgreatest⟩ := ih (room - r.bytes.length) rs
        refine ⟨n + 1, by omega, by simp [copyRecords, hfit, hcopy],
          by rw [List.take_succ_cons, List.map_cons, List.sum_cons]; omega, fun hlt x hx => ?_⟩
        have := hgreatest (by omega) x (by simpa using hx)
        rw [List.take_succ_cons, List.map_cons, List.sum_cons]
        omega
      · refine ⟨0, by omega, by simp [copyRecords, hfit], by simp, fun _ x hx => ?_⟩
        simp only [List.getElem?_cons_zero, Option.some.injEq] at hx
        subst hx
        simpa using hfit

/-- Settles O30. -/
theorem journalIsCollectedAndTrimmed : Obligations.JournalIsCollectedAndTrimmed := by
  refine ⟨fun a tag k s hw h => ?_, fun a tag firstSeq n s hw h => ⟨fun hbad => ?_, fun r rest hrecords hn hseq => ?_⟩⟩
  · obtain ⟨n, hn, hcopy, hsum, hgreatest⟩ := copyRecords_greatest k.toNat 224 s.journal.records
    refine ⟨n, hn, hsum, hgreatest, ?_⟩
    rw [← hcopy]
    have hreply := exec_lineCommand_answered (.collect k) rfl hw h nofun rfl rfl
    exact hreply
  · have hnot : ¬(s.onArrival a.port).journal.trims firstSeq n = true := by
      intro htrims
      have ⟨⟨hmost, hsome⟩, hseq⟩ : (n ≤ 512 ∧ s.journal.records ≠ []) ∧ s.journal.oldestSeq = firstSeq := by
        simpa [Journal.trims, State.onArrival] using htrims
      obtain h | h | h := hbad
      · exact hsome h
      · omega
      · exact h hseq
    have hrun : execute (.trim firstSeq n) (s.onArrival a.port) = unchanged .refusedValue (s.onArrival a.port) := if_neg hnot
    have hreply := exec_lineCommand_answered (.trim firstSeq n) rfl hw h nofun hrun rfl
    exact hreply
  · have htrims : (s.onArrival a.port).journal.trims firstSeq n = true := by
      simp [Journal.trims, State.onArrival, hrecords, hn, Journal.oldestSeq, hseq]
    have hrun : execute (.trim firstSeq n) (s.onArrival a.port) = _ := if_pos htrims
    have hreply := exec_lineCommand_answered (.trim firstSeq n) rfl hw h nofun hrun rfl
    rw [hreply]
    simp only [Journal.trim, State.onArrival, List.length_drop, State.onJournal]
    congr 6
    cases hd : s.journal.records.drop n <;> simp [Journal.oldestSeq]

/-! ### RESTART -/

theorem LineIf.losesRestart_iff (l : LineIf) (p : LinePort) : l.losesRestart p = true ↔
    (∃ b, b.restart = true ∧ (l.tx.get p = some b ∨ b ∈ l.relayQ.get p ∨ b ∈ l.localQ.get p))
      ∨ (∃ h ∈ l.held, h.bound = p ∧ h.restart = true) := by
  simp only [LineIf.losesRestart, Bool.or_eq_true, List.any_eq_true, List.mem_append, Option.mem_toList, Bool.and_eq_true, beq_iff_eq,
    or_assoc]
  constructor
  · rintro (⟨b, hb, hr⟩ | h)
    · exact .inl ⟨b, hr, hb⟩
    · exact .inr h
  · rintro (⟨b, hr, hb⟩ | h)
    · exact .inl ⟨b, hb, hr⟩
    · exact .inr h

theorem takeLink_mgmt_down (p : LinePort) (s : State) :
    (takeLink p false s).mgmt = { s.mgmt with restartReplyGone := s.mgmt.restartReplyGone || s.line.losesRestart p } := by
  rw [takeLink_down, tearDown_eq]
  rfl

/-- R176, R192: the REPLY of a RESTART is abandoned while the up link is DOWN. -/
theorem holdReception_abandoned {content : HeldContent} {restart : Bool} (h : s.line.link.up = false) :
    holdReception p .up content restart s = { s with
      line := ({ s.line with receiving := s.line.receiving.put p false } : LineIf).setHold
      mgmt := { s.mgmt with restartReplyGone := s.mgmt.restartReplyGone || restart } } := by
  rw [holdReception, if_neg (by simpa [ByLine.get] using h), replyGone_eq]
  rfl

theorem LineIf.heardOn_taking_freed (q : Params) (l : LineIf) (h : l.receiving.get p = false) :
    ({ (l.taking p).heardOn q p with receiving := ((l.taking p).heardOn q p).receiving.put p false } : LineIf)
      = { (l.taking p).heardOn q p with receiving := l.receiving } := by
  have hput : (l.receiving.put p true).put p false = l.receiving := by rw [ByLine.put_put, ← h, ByLine.put_get]
  rw [LineIf.heardOn_receiving]
  exact congrArg (fun r => ({ (l.taking p).heardOn q p with receiving := r } : LineIf)) hput

/-- R167: a frame with this gate's address is addressed to it. -/
theorem addressed_own (hlow : 1 ≤ s.line.address) (hhigh : s.line.address ≤ 62) (kind src : Byte) (hops : Nat) (payload : List Byte) :
    byte s.line.address ≠ broadcastDest ∧ s.line.addressed ⟨kind, byte s.line.address, src, hops, payload⟩ = true := by
  have hdest : (byte s.line.address).toNat = s.line.address := toNat_byte (by omega)
  have hset : s.line.address ≠ 0 := by omega
  refine ⟨fun h => ?_, by simp [LineIf.addressed, hdest, hset]⟩
  rw [h] at hdest
  have : (63 : Nat) = s.line.address := hdest
  omega

theorem State.onArrival_address (s : State) (p : LinePort) : (s.onArrival p).line.address = s.line.address :=
  LineIf.heardOn_address ..

/-- Settles O33. -/
theorem restartWaitsForItsReply : Obligations.RestartWaitsForItsReply := by
  refine ⟨fun a tag s hw h => ?answered, fun a tag s hw h hb hlow hhigh hdown => ?abandoned,
    fun p s hr hfilter hdown => ?tornDown, fun s hp hr hpending hgone => ?next⟩
  case answered =>
    have hanswered := effect_arriveCommand_answered hw h (parseBody_fields (c := .restart) tag rfl) rfl rfl
    exact (exec_restart ..).trans hanswered
  case abandoned =>
    have harr := arriving_eq (s := s) (a := a) (kind := 15) (payload := [tag]) fun _ => hlow
    rw [hb] at harr
    obtain ⟨hto, haddressed⟩ := addressed_own hlow hhigh 15 a.src a.hops [tag]
    have hgood : goodFrame a.port ⟨15, byte s.line.address, a.src, a.hops, [tag]⟩ { s with line := s.line.taking a.port } =
        runAddressed a.port tag .restart (s.onArrival a.port) :=
      goodFrame_addressed _ _ { s with line := s.line.taking a.port } (by simp) hto haddressed
    have hlink : (execute .restart (s.onArrival a.port)).state.line.link.up = false := by
      rw [(execute_line ..).2.1, State.onArrival, LineIf.heardOn_link]
      exact hdown
    have harrive := (arrive_of_canReceive h harr).trans (congrArg some hgood)
    rw [runAddressed, holdReception_abandoned hlink] at harrive
    have hexec := (exec_restart ..).trans (effect_some hw h.1 harrive)
    have hline : ({ (s.onArrival a.port).line with receiving := s.line.receiving } : LineIf).setHold = _ :=
      congrArg LineIf.setHold (LineIf.heardOn_taking_freed s.params s.line h.2.2.1).symm
    rw [hline]
    exact hexec
  case tornDown =>
    refine ⟨follow (takeLink p false s), ?_, fun hlost => ?_, fun hqueues hheld => ?_⟩
    · rw [exec_linkTaken]
      refine effect_some rfl hr ?_
      rw [if_pos (by rw [hfilter]; rfl), hdown]
    · simp [takeLink_mgmt_down, (s.line.losesRestart_iff p).mpr hlost]
    · have hkept : s.line.losesRestart p = false := by
        rw [Bool.eq_false_iff, ne_eq, LineIf.losesRestart_iff]
        rintro (⟨b, hb, hin⟩ | ⟨e, he, hbound, hr⟩)
        · rw [hqueues b hin] at hb
          cases hb
        · rw [hheld e he hbound] at hr
          cases hr
      simp [takeLink_mgmt_down, hkept]
  case next =>
    have hdue : s.restartDue = true := by simp [State.restartDue, hpending, hgone]
    have hown : s.ownStep = some .warmReset := by simp [State.ownStep, State.atOnce, hdue, whenDue]
    simp [step, hp, idle, hr, hown]

end Sys2Proof.Machine

/-! PROOFS. Records and credits: how the journal admits (chapter 8), how credits lapse (section 6.2), and SET (section 10.2). -/

namespace Sys2Proof.Machine

open Sys2Proof

variable {s t : State} {c : Content}

/-! ### The four ways a record is admitted -/

theorem appendOpenRefusal_of_room (h : 16 < s.journal.free) : appendOpenRefusal c s = appendRecord id c s := if_pos h

theorem appendOpenRefusal_of_full (h : s.journal.free ≤ 16) : appendOpenRefusal c s = s := if_neg (Nat.not_lt.mpr h)

theorem appendReserve_of_room (h : 1 ≤ s.journal.free) : appendReserve c s = appendRecord id c s := if_pos h

theorem appendReserve_of_full (h : s.journal.free = 0) :
    appendReserve c s = { s with journal := { s.journal with overflow := true } } := if_neg (by omega)

/-- R147: what an append adds, whatever slot it takes. -/
theorem appendRecord_grown {take : Journal → Journal} (hrecords : (take s.journal).records = s.journal.records)
    (hseq : (take s.journal).nextSeq = s.journal.nextSeq) (hover : (take s.journal).overflow = s.journal.overflow) :
    (appendRecord take c s).journal.records = s.journal.records ++ [s.recordOf c]
      ∧ (appendRecord take c s).journal.nextSeq = nextSeqOf s.journal.nextSeq
      ∧ (appendRecord take c s).journal.overflow = s.journal.overflow := by
  rw [appendRecord_journal]
  refine ⟨?_, ?_, hover⟩
  · simp only [Journal.append, hrecords, hseq]
    rfl
  · simp only [Journal.append, hseq]

/-- R149: what an append leaves in use. -/
theorem appendRecord_used (take : Journal → Journal) (c : Content) (s : State) :
    (appendRecord take c s).journal.records.length = (take s.journal).records.length + 1
      ∧ (appendRecord take c s).journal.held = (take s.journal).held
      ∧ (appendRecord take c s).journal.reserved = (take s.journal).reserved := by
  simp [appendRecord_journal, Journal.append]

/-- Settles O55. -/
theorem journalAdmitsByClass : Obligations.JournalAdmitsByClass := by
  intro c s used grown
  obtain ⟨hopen, hopenHeld, hopenReserved⟩ := appendRecord_used id c s
  obtain ⟨hres, hresHeld, hresReserved⟩ := appendRecord_used (fun j => { j with reserved := j.reserved - 1 }) c s
  obtain ⟨hheld, hheldHeld, hheldReserved⟩ := appendRecord_used (fun j => { j with held := j.held - 1 }) c s
  dsimp only [id] at hopen hopenHeld hopenReserved
  refine ⟨fun h => ⟨?_, ?_⟩, appendOpenRefusal_of_full, fun h => ⟨?_, ?_⟩, appendReserve_of_full, fun h => ⟨?_, ?_, ?_⟩,
    fun h => ⟨?_, ?_, ?_⟩, fun h => ⟨?_, ?_, fun h' => ?_, fun h' => ?_⟩⟩
  · rw [appendOpenRefusal_of_room h]
    exact appendRecord_grown rfl rfl rfl
  · rw [appendOpenRefusal_of_room h]
    simp only [Journal.free, hopen, hopenHeld, hopenReserved, Config.journalCapacity] at h ⊢
    omega
  · rw [appendReserve_of_room h]
    exact appendRecord_grown rfl rfl rfl
  · rw [appendReserve_of_room h]
    simp only [Journal.free, hopen, hopenHeld, hopenReserved, Config.journalCapacity] at h ⊢
    omega
  · exact appendRecord_grown rfl rfl rfl
  · simp only [appendReserved, Journal.free, hres, hresHeld, hresReserved]
    omega
  · simp only [appendReserved, hresReserved]
    omega
  · exact appendRecord_grown rfl rfl rfl
  · simp only [appendHeld, Journal.free, hheld, hheldHeld, hheldReserved]
    omega
  · simp only [appendHeld, hheldHeld]
    omega
  · by_cases hfree : 16 < s.journal.free
    · rw [appendOpenRefusal_of_room hfree]
      simp only [used, Journal.free, hopen, hopenHeld, hopenReserved, Config.journalCapacity] at hfree h ⊢
      omega
    · rwa [appendOpenRefusal_of_full (Nat.not_lt.mp hfree)]
  · by_cases hfree : 1 ≤ s.journal.free
    · rw [appendReserve_of_room hfree]
      simp only [used, Journal.free, hopen, hopenHeld, hopenReserved, Config.journalCapacity] at hfree h ⊢
      omega
    · rw [appendReserve_of_full (by omega)]
      exact h
  · simp only [used, appendReserved, hres, hresHeld, hresReserved] at h ⊢
    omega
  · simp only [used, appendHeld, hheld, hheldHeld, hheldReserved] at h ⊢
    omega

/-! ### The journal and the credits when a credit lapses -/

/-- The clock, the line state and Journal.NextSeq are what a record is made of. -/
theorem State.recordOf_congr (hj : t.journal.nextSeq = s.journal.nextSeq) (hm : t.mgmt.clock = s.mgmt.clock)
    (hl : t.line.connected = s.line.connected) (c : Content) : t.recordOf c = s.recordOf c := by
  unfold State.recordOf State.stamp State.clock
  rw [hj, hm, hl]

/-- R112: the record of a lapse. -/
theorem lapse_records (d : Direction) (c : Credit) (r : LapseReason) (s : State) :
    (lapse d c r s).journal.records = s.journal.records ++ if 1 ≤ s.journal.free then [s.recordOf (lapseContent c r)] else [] := by
  have hrecord := State.recordOf_congr (s := s) (t := lapseReport c.cardId d (s.onLane (Lane.dropLapsed d c))) (by simp) (by simp)
    (by simp) (lapseContent c r)
  simp [lapse, hrecord]

theorem lapse_overflow {d : Direction} {c : Credit} {r : LapseReason} (h : s.journal.free = 0) :
    (lapse d c r s).journal.overflow = true := by
  simp [lapse, appendReserve_of_full, h]

theorem appendReserve_free (c : Content) (s : State) : (appendReserve c s).journal.free = s.journal.free - 1 := by
  by_cases h : 1 ≤ s.journal.free
  · have := ((journalAdmitsByClass c s).2.2.1 h).2
    omega
  · rw [appendReserve_of_full (by omega)]
    show s.journal.free = _
    omega

theorem lapse_free (d : Direction) (c : Credit) (r : LapseReason) (s : State) :
    (lapse d c r s).journal.free = s.journal.free - 1 := by
  simp [lapse, appendReserve_free]

theorem lapse_counts (d : Direction) (c : Credit) (r : LapseReason) (s : State) :
    (lapse d c r s).lane.counts = s.lane.counts.put d { s.lane.counts.get d with lapsed := (s.lane.counts.get d).lapsed + 1 } := by
  simp [lapse, Lane.dropLapsed]

/-! The tests of grant and flaps leave the slots. -/

@[simp] theorem startMotion_slots (f : Flap) (s : State) :
    (startMotion f s).lane.reserved = s.lane.reserved ∧ (startMotion f s).lane.nextCreditNo = s.lane.nextCreditNo := ⟨rfl, rfl⟩

@[simp] theorem openTest_slots (s : State) :
    (openTest s).lane.reserved = s.lane.reserved ∧ (openTest s).lane.nextCreditNo = s.lane.nextCreditNo := by
  unfold openTest
  repeat' split
  all_goals simp

@[simp] theorem closeTest_slots (s : State) :
    (closeTest s).lane.reserved = s.lane.reserved ∧ (closeTest s).lane.nextCreditNo = s.lane.nextCreditNo := by
  unfold closeTest
  split <;> simp

@[simp] theorem arbitrate_slots (s : State) :
    (arbitrate s).lane.reserved = s.lane.reserved ∧ (arbitrate s).lane.nextCreditNo = s.lane.nextCreditNo := by
  unfold arbitrate
  split <;> simp

@[simp] theorem releaseTest_slots (s : State) :
    (releaseTest s).lane.reserved = s.lane.reserved ∧ (releaseTest s).lane.nextCreditNo = s.lane.nextCreditNo := by
  unfold releaseTest
  repeat' split
  all_goals simp

@[simp] theorem creditLeft_slots (d : Direction) (s : State) :
    (creditLeft d s).lane.reserved = s.lane.reserved ∧ (creditLeft d s).lane.nextCreditNo = s.lane.nextCreditNo := by
  unfold creditLeft
  split <;> simp

@[simp] theorem lapse_slots (d : Direction) (c : Credit) (r : LapseReason) (s : State) :
    (lapse d c r s).lane.reserved = s.lane.reserved ∧ (lapse d c r s).lane.nextCreditNo = s.lane.nextCreditNo := by
  simp [lapse, Lane.dropLapsed]

/-! ### The sighting of a lapsed card -/

theorem State.agedOut_eq_false {cardId : Nat} {r : Sighting} (h : s.stands cardId r) : s.agedOut r = false := by
  obtain ⟨-, h⟩ := h
  simp only [State.tooOld, not_and, Nat.not_lt] at h
  rw [State.agedOut, decide_eq_false_iff_not, Nat.not_lt, State.age]
  split
  next => exact Nat.zero_le _
  next hset => exact h hset

/-- R32: a touch leaves a record that has not aged out. -/
theorem touch_of_stands {cardId : Nat} {r : Sighting} (h : s.stands cardId r) : touch cardId s = s := by
  simp [touch, h.1, State.agedOut_eq_false h]

theorem touch_of_absent {cardId : Nat} (h : s.sighting cardId = none) : touch cardId s = s := by simp [touch, h]

theorem sighting_writeSighting (r : Sighting) (s : State) : (writeSighting r s).sighting r.cardId = some r :=
  enterSighting_find r s.standing.sightings

theorem State.sighting_cardId {cardId : Nat} {r : Sighting} (h : s.sighting cardId = some r) : r.cardId = cardId := by
  simpa using List.find?_some h

/-- R35: the sighting of a lapsed card. -/
theorem lapseReport_sighting {cardId : Nat} {r : Sighting} (d : Direction) (h : s.stands cardId r) :
    (lapseReport cardId d s).sighting cardId = some (if r.kind = admittedKind d ∧ r.gate = s.line.address then
      { r with kind := lapsedKind d, time := s.stamp } else r) := by
  rw [lapseReport, touch_of_stands h]
  simp only [h.1]
  split
  · have hcard := State.sighting_cardId h.1
    subst hcard
    exact sighting_writeSighting { r with kind := lapsedKind d, time := s.stamp } s
  · exact h.1

theorem lapseReport_of_absent {cardId : Nat} (d : Direction) (h : s.sighting cardId = none) : lapseReport cardId d s = s := by
  rw [lapseReport, touch_of_absent h]
  simp only [h]

theorem lapse_standing (d : Direction) (c : Credit) (r : LapseReason) (s : State) :
    (lapse d c r s).standing = (lapseReport c.cardId d (s.onLane (Lane.dropLapsed d c))).standing := by
  simp [lapse]

/-- Settles O50. -/
theorem creditLapses : Obligations.CreditLapses := by
  intro d c rest run why s hr hc hcause
  have hrun : exec run s = .next (follow (lapse d c why s)) := by
    obtain ⟨rfl, rfl, hgrant, hflap, hlife⟩ | ⟨rfl, rfl, hgrant, hwait⟩ := hcause
    · rw [exec_creditLifeExpiry]
      refine effect_some rfl hr ?_
      simp [State.servedCredit, hgrant, hflap, hc, hlife]
    · rw [exec_waitLimitExpiry]
      refine effect_some rfl hr ?_
      simp [State.waitedCredit, hgrant, hc, hwait]
  refine ⟨_, hrun, ?_⟩
  have hstands (r : Sighting) (h : s.stands c.cardId r) := lapseReport_sighting (s := s.onLane (Lane.dropLapsed d c)) d h
  refine ⟨by simp [hc], by simp [lapse_counts], by simp only [follow_frame, lapse_records]; rfl, fun h => by simp [lapse_overflow h],
    fun r h => ?_, fun h => ?_, by simp, by simp, by simp, by simp, by simp, by simp, by simp⟩
  · rw [State.sighting, (follow_frame _).2.1, lapse_standing]
    exact hstands r h
  · rw [(follow_frame _).2.1, lapse_standing, lapseReport_of_absent d (by exact h)]
    rfl

/-! ### Timers of single registers -/

/-- Settles O52. -/
theorem expiredTimersActOnTheirRegisters : Obligations.ExpiredTimersActOnTheirRegisters := by
  intro s hr
  refine ⟨fun h => ?_, fun h => ?_, fun h => ⟨fun d rest hphase htally => ?_, fun d rest hphase htally => ?_, fun hphase htally => ?_⟩,
    fun h => ?_, fun h => ?_⟩
  · rw [exec_briskTimerExpiry]
    refine effect_some rfl hr ?_
    simp [h, Timer.due, State.onLane]
  · rw [exec_dormantTimerExpiry]
    refine effect_some rfl hr ?_
    simp [h, Timer.due, State.onLane]
  · rw [exec_tallyGapExpiry]
    refine effect_some rfl hr ?_
    cases d <;> simp [h, Timer.due, State.onLane, Lane.tallyGap, hphase, htally, Lane.toggleTally, otherDirection]
  · rw [exec_tallyGapExpiry]
    refine effect_some rfl hr ?_
    cases d <;> simp [h, Timer.due, State.onLane, Lane.tallyGap, Lane.beginTally, hphase, htally, Lane.toggleTally]
  · rw [exec_tallyGapExpiry]
    refine effect_some rfl hr ?_
    simp [h, Timer.due, State.onLane, Lane.tallyGap, Lane.beginTally, hphase, htally]
  · rw [exec_silenceTimerExpiry]
    refine effect_some rfl hr ?_
    simp [h, Timer.due, State.onLine]
  · rw [exec_timeAgeExpiry]
    refine effect_some rfl hr ?_
    simp [h, Timer.due, staleClock, State.onMgmt]

end Sys2Proof.Machine

/-! PROOFS. SET (sections 10.1 and 10.2): the parameters replaced and clamped, and the credits that a lowered wait limit lapses. -/

namespace Sys2Proof.Machine

open Sys2Proof

variable {s t : State} {d : Direction} {q : Params} {n : Nat} {v lo hi : Int}

/-! ### Credits that lapse one after the other -/

/-- A list without the items that pass a test, taken away one by one. -/
theorem diff_filter {α : Type} [DecidableEq α] (f : α → Bool) (l : List α) : l.diff (l.filter f) = l.filter fun x => !f x := by
  induction l with
  | nil => rfl
  | cons x xs ih =>
    cases hf : f x with
    | true => simpa [List.filter_cons, hf] using ih
    | false =>
      have hx : x ∉ xs.filter f := by simp [hf]
      simpa [List.filter_cons, hf, List.cons_diff_of_not_mem hx] using ih

/-- R111: what credits that lapse one after the other leave of the lane's accounts and of the journal. -/
theorem foldl_lapse_accounts (d : Direction) (r : LapseReason) (l : List Credit) (s : State) :
    let t := l.foldl (fun t c => lapse d c r t) s
    t.lane.credits = s.lane.credits.put d ((s.lane.credits.get d).diff l)
      ∧ t.lane.counts = s.lane.counts.put d { s.lane.counts.get d with lapsed := (s.lane.counts.get d).lapsed + l.length }
      ∧ t.journal.records.map Record.content = s.journal.records.map Record.content ++ (l.take s.journal.free).map (lapseContent · r)
      ∧ t.journal.free = s.journal.free - l.length := by
  induction l generalizing s with
  | nil => exact ⟨(ByDir.put_get ..).symm, (ByDir.put_get ..).symm, by simp, by simp⟩
  | cons c l ih =>
    obtain ⟨hcredits, hcounts, hrecords, hfree⟩ := ih (lapse d c r s)
    refine ⟨?_, ?_, ?_, ?_⟩
    · rw [List.foldl_cons, hcredits]
      simp
    · rw [List.foldl_cons, hcounts, lapse_counts]
      simp [Nat.add_assoc, Nat.add_comm 1]
    · rw [List.foldl_cons, hrecords, lapse_records, lapse_free]
      cases s.journal.free with
      | zero => simp
      | succ k => simp [State.recordOf]
    · rw [List.foldl_cons, hfree, lapse_free, List.length_cons]
      omega

@[simp] theorem lapseWaited_frame (d : Direction) (s : State) :
    (lapseWaited d s).dialog = s.dialog ∧ (lapseWaited d s).tariff = s.tariff ∧ (lapseWaited d s).beam = s.beam ∧
    (lapseWaited d s).params = s.params ∧ (lapseWaited d s).pins = s.pins := by
  have h := foldl_frame (fun s : State => (s.dialog, s.tariff, s.beam, s.params, s.pins)) (fun t c => lapse d c .wait t) (by simp)
    ((s.lane.credits.get d).filter fun c => decide (s.params.waitLimit * 1000 ≤ c.wait)) s
  simpa [lapseWaited] using h

/-- R111: a direction's credits at or above the wait limit lapse. -/
theorem lapseWaited_accounts (d : Direction) (s : State) :
    let lapses (c : Credit) : Bool := decide (s.params.waitLimit * 1000 ≤ c.wait)
    (lapseWaited d s).lane.credits = s.lane.credits.put d ((s.lane.credits.get d).filter fun c => !lapses c)
      ∧ (lapseWaited d s).lane.counts = s.lane.counts.put d
        { s.lane.counts.get d with lapsed := (s.lane.counts.get d).lapsed + (s.lane.credits.get d).countP lapses }
      ∧ (lapseWaited d s).journal.records.map Record.content = s.journal.records.map Record.content
        ++ (((s.lane.credits.get d).filter lapses).take s.journal.free).map (lapseContent · .wait)
      ∧ (lapseWaited d s).journal.free = s.journal.free - ((s.lane.credits.get d).filter lapses).length := by
  have h := foldl_lapse_accounts d .wait ((s.lane.credits.get d).filter fun c => decide (s.params.waitLimit * 1000 ≤ c.wait)) s
  rw [diff_filter] at h
  simpa only [lapseWaited, List.countP_eq_length_filter] using h

/-- R111, R186: a lowered wait limit acts at once, IN first. -/
theorem replaceParams_lowered (h : q.waitLimit < s.params.waitLimit) :
    let lapses (c : Credit) : Bool := decide (q.waitLimit * 1000 ≤ c.wait)
    let t := replaceParams q s
    t.params = q
      ∧ (∀ d, t.lane.credits.get d = (s.lane.credits.get d).filter fun c => !lapses c)
      ∧ (∀ d, t.lane.counts.get d = { s.lane.counts.get d with
          lapsed := (s.lane.counts.get d).lapsed + (s.lane.credits.get d).countP lapses })
      ∧ t.journal.records.map Record.content = s.journal.records.map Record.content ++
          (((s.lane.credits.inbound ++ s.lane.credits.outbound).filter lapses).take s.journal.free).map (lapseContent · .wait)
      ∧ t.dialog = s.dialog ∧ t.tariff = s.tariff ∧ t.pins = s.pins ∧ t.beam = s.beam := by
  intro lapses t
  have ht : t = lapseWaited .outbound (lapseWaited .inbound { s with params := q }) := if_pos h
  obtain ⟨hin, hinCounts, hinRecords, hinFree⟩ := lapseWaited_accounts .inbound { s with params := q }
  obtain ⟨hout, houtCounts, houtRecords, houtFree⟩ := lapseWaited_accounts .outbound (lapseWaited .inbound { s with params := q })
  have hparams : (lapseWaited .inbound { s with params := q }).params = q := (lapseWaited_frame ..).2.2.2.1
  rw [hparams] at hout houtCounts houtRecords
  rw [ht]
  refine ⟨by simp, fun d => ?_, fun d => ?_, ?_, by simp, by simp, by simp, by simp⟩
  · rw [hout, hin]
    cases d <;> rfl
  · rw [houtCounts, hinCounts, hin]
    cases d <;> rfl
  · rw [houtRecords, hinRecords, hinFree, hin, List.filter_append, List.take_append, List.map_append, List.append_assoc]
    rfl

theorem lapseWaited_of_empty (h : s.lane.credits.get d = []) : lapseWaited d s = s := by simp [lapseWaited, h]

/-- R186: with the wait limit not lowered, or no credit queued, nothing but the parameters changes. -/
theorem replaceParams_kept (h : s.params.waitLimit ≤ q.waitLimit ∨ s.lane.credits = ⟨[], []⟩) :
    replaceParams q s = { s with params := q } := by
  dsimp only [replaceParams]
  split
  next hlow =>
    have hnil : s.lane.credits = ⟨[], []⟩ := h.resolve_left (Nat.not_le.mpr hlow)
    rw [lapseWaited_of_empty (s := { s with params := q }) (d := .inbound) (by simp [hnil, ByDir.get]),
      lapseWaited_of_empty (by simp [hnil, ByDir.get])]
  next => rfl

/-! ### One entry of SET -/

theorem Params.dependentBounds_of_held (h : q.releaseLevel + 50 ≤ q.blockLevel ∧ q.fastShift ≤ q.slowShift) :
    q.dependentBounds = (q, false) := by
  have hrelease : min q.releaseLevel (q.blockLevel - 50) = q.releaseLevel := by omega
  have hfast : min q.fastShift q.slowShift = q.fastShift := by omega
  simp [Params.dependentBounds, hrelease, hfast]

theorem clampInt_ne_iff (lo hi v : Int) : clampInt lo hi v ≠ v ↔ v < lo ∨ hi < v := by
  unfold clampInt
  repeat' split
  all_goals omega

/-- R92, R186: a SET of one parameter without a dependent bound. -/
theorem Params.set_single (hq : q.inRange) (hn : paramRange n = some (lo, hi)) (hfree : n ∉ [19, 20, 22, 23]) :
    q.set [(byte n, v)] = (q.write n (clampInt lo hi v).toNat, decide (clampInt lo hi v ≠ v)) := by
  obtain ⟨hlo, hle, hmax⟩ := paramRange_bounds hn
  have hbyte : (byte n).toNat = n := toNat_byte (by omega)
  have hne : n ≠ 15 ∧ n ≠ 40 := by
    constructor
    · rintro rfl
      cases hn
    · rintro rfl
      cases hn
  have hentry : q.applyEntry n v = (q.write n (clampInt lo hi v).toNat, decide (clampInt lo hi v ≠ v)) := by
    simp only [Params.applyEntry, hne.1, hne.2, if_false, hn]
  have hkeep (m : Nat) (hm : m ≠ n) : (q.write n (clampInt lo hi v).toNat).read m = q.read m := by
    rw [Params.read_write hn, if_neg hm]
  simp only [List.mem_cons, List.not_mem_nil, or_false, not_or] at hfree
  have h19 := hkeep 19 (Ne.symm hfree.1)
  have h20 := hkeep 20 (Ne.symm hfree.2.1)
  have h22 := hkeep 22 (Ne.symm hfree.2.2.1)
  have h23 := hkeep 23 (Ne.symm hfree.2.2.2)
  simp only [Params.read] at h19 h20 h22 h23
  obtain ⟨-, hrelease, hfast⟩ := hq
  have hbounds := Params.dependentBounds_of_held (q := q.write n (clampInt lo hi v).toNat) (by omega)
  simp [Params.set, Params.applyEntries, hbyte, hentry, hbounds]

/-- R184, R186: a SET that is taken. -/
theorem setTaken_of {entries : List (Byte × Int)} (hsome : entries ≠ []) (hmost : entries.length ≤ 47)
    (hknown : ∀ e ∈ entries, 1 ≤ e.1.toNat ∧ e.1.toNat ≤ 40) : setTaken entries = true := by
  have hlen := List.length_pos_iff.mpr hsome
  simpa [setTaken, knownParam, hmost, Nat.succ_le_of_lt hlen] using fun a b hab => hknown (a, b) hab

/-- Settles O24. -/
theorem setReplacesAndClampsTheParameters : Obligations.SetReplacesAndClampsTheParameters := by
  refine ⟨fun a tag entries s hw h => ⟨fun hbad => ?refused, fun hsome hmost hknown => ⟨fun hkept => ?kept, fun hlow => ?lowered⟩⟩,
    fun q entries hq => Params.inRange_set entries hq, fun q n v lo hi hq hn hfree => ?single⟩
  case refused =>
    have hnot : ¬setTaken entries = true := by
      simp only [setTaken, Bool.and_eq_true, decide_eq_true_eq, List.all_eq_true, knownParam]
      rintro ⟨⟨hlen, hmost⟩, hknown⟩
      obtain rfl | h | ⟨e, he, h⟩ := hbad
      · simp at hlen
      · omega
      · have := hknown e he
        omega
    have hrun : execute (.set entries) (s.onArrival a.port) = unchanged .refusedValue (s.onArrival a.port) := if_neg hnot
    have hreply := exec_lineCommand_answered (.set entries) rfl hw h nofun hrun rfl
    exact hreply
  case kept =>
    have hkept' := replaceParams_kept (s := s.onArrival a.port) (q := (s.params.set entries).1) hkept
    have hrun : execute (.set entries) (s.onArrival a.port) =
        ⟨if (s.params.set entries).2 then .clamped else .done, .set (entries.map fun e => (e.1, (s.params.set entries).1.read e.1.toNat)),
          { s.onArrival a.port with params := (s.params.set entries).1 }⟩ := by
      rw [← hkept']
      exact if_pos (setTaken_of hsome hmost hknown)
    have hreply := exec_lineCommand_answered (.set entries) rfl hw h nofun hrun rfl
    exact hreply
  case lowered =>
    intro lapses
    have hrun : execute (.set entries) (s.onArrival a.port) =
        ⟨if (s.params.set entries).2 then .clamped else .done, .set (entries.map fun e => (e.1, (s.params.set entries).1.read e.1.toNat)),
          replaceParams (s.params.set entries).1 (s.onArrival a.port)⟩ := if_pos (setTaken_of hsome hmost hknown)
    obtain ⟨hparams, hcredits, hcounts, hrecords, hdialog, htariff, hpins, hbeam⟩ := replaceParams_lowered (s := s.onArrival a.port) hlow
    have hexec := addressedCommandIsExecutedAndAnswered _ _ _ _ s hw rfl h
    simp only [hrun] at hexec
    refine ⟨_, hexec, ?_⟩
    have hbodies : (replaceParams (s.params.set entries).1 (s.onArrival a.port)).beam.bodies = s.beam.bodies :=
      congrArg Beams.bodies hbeam
    simp only [follow_frame, follow_laneRest, follow_beamRest]
    refine ⟨hparams, hcredits, hcounts, hrecords, ?_, hdialog, htariff, hpins, hbodies⟩
    simp [State.onBuffers]
    rfl
  case single =>
    have hset := Params.set_single (v := v) hq hn hfree
    obtain ⟨hlo, hle, -⟩ := paramRange_bounds hn
    have hclamp := clampInt_bounds hle v
    rw [hset]
    refine ⟨?_, by simpa using clampInt_ne_iff lo hi v, fun m hm => ?_⟩
    · rw [Params.read_write hn, if_pos rfl, Int.toNat_of_nonneg (by omega)]
      rfl
    · rw [Params.read_write hn, if_neg hm]

end Sys2Proof.Machine

/-! PROOFS. What the part has written and made stays: records stand in front of later ones, frames in front of later ones in their
local queues, and with no local place free the line stands (R147, R177). -/

namespace Sys2Proof.Machine

open Sys2Proof

/-- From `s` to `t` records and frames only join at the tails; a full local quota leaves the line as it is, SEND_DROP
stays set, and the clock stands. -/
structure Grows (s t : State) : Prop where
  records : s.journal.records <+: t.journal.records
  localQ : ∀ p, s.line.localQ.get p <+: t.line.localQ.get p
  full : Config.localQuota ≤ s.line.count .own → t.line = s.line
  dropped : s.mgmt.flags.sendDrop = true → t.mgmt.flags.sendDrop = true
  clock : t.mgmt.clock = s.mgmt.clock

namespace Grows

variable {s t u : State} {p : Port} {d : Direction} {c : Content}

@[refl] theorem refl (s : State) : Grows s s := ⟨List.prefix_rfl, fun _ => List.prefix_rfl, fun _ => rfl, id, rfl⟩

@[trans] theorem trans (h : Grows s t) (k : Grows t u) : Grows s u where
  records := h.records.trans k.records
  localQ q := (h.localQ q).trans (k.localQ q)
  full hf := (k.full (h.full hf ▸ hf)).trans (h.full hf)
  dropped := k.dropped ∘ h.dropped
  clock := k.clock.trans h.clock

/-- What leaves the journal, the line and the Management Unit alone. -/
theorem keeping (h : Grows s t) (hj : u.journal.records = t.journal.records) (hl : u.line = t.line)
    (hm : u.mgmt = t.mgmt) : Grows s u :=
  h.trans ⟨hj ▸ List.prefix_rfl, fun _ => hl ▸ List.prefix_rfl, fun _ => hl, fun hd => hm ▸ hd, hm ▸ rfl⟩

end Grows

section
variable {s t : State} {p : Port} {d : Direction} {c : Content}

/-! ### Sending -/

theorem convertOne_grows (h : Grows s t) : Grows s (convertOne t) := by
  refine h.trans ⟨by simp, fun q => ?_, fun hf => ?_, by simp, by simp⟩
  · unfold convertOne
    split
    · simp only [State.onBuffers, State.onLine_line, LineIf.setHold, LineIf.convertHead]
      split
      · exact List.prefix_rfl
      next e rest _ =>
        rw [ByLine.get_put]
        split
        next hq => exact hq ▸ List.prefix_append ..
        next => exact List.prefix_rfl
    · exact List.prefix_rfl
  · rw [convertOne_of_settled (.inr hf)]

theorem convertWaiting_grows (h : Grows s t) : Grows s (convertWaiting t) :=
  convertOne_grows <| convertOne_grows <| convertOne_grows <| convertOne_grows h

@[simp] theorem sendCopy_grows {q : LinePort} {f : Frame} (h : Grows s t) : Grows s (sendCopy q f t) := by
  unfold sendCopy
  split
  · exact h
  dsimp only
  have hw := convertWaiting_grows h
  split
  next hroom =>
    refine hw.trans ⟨List.prefix_rfl, fun r => ?_, fun hf => absurd hroom (Nat.not_lt.mpr hf), id, rfl⟩
    simp only [State.onBuffers, State.onLine_line, LineIf.setHold, ByLine.get_put]
    split
    next hq => exact hq ▸ List.prefix_append ..
    next => exact List.prefix_rfl
  next => exact hw.trans ⟨List.prefix_rfl, fun _ => List.prefix_rfl, fun _ => rfl, fun _ => rfl, rfl⟩

@[simp] theorem event_grows {e : Event} (h : Grows s t) : Grows s (event e t) := by
  unfold event
  split
  · exact sendCopy_grows (h.trans ⟨List.prefix_rfl, fun _ => List.prefix_rfl, fun _ => rfl, id, rfl⟩)
  · exact h

@[simp] theorem broadcast_grows {kind : Byte} {payload : List Byte} (h : Grows s t) : Grows s (broadcast kind payload t) :=
  sendCopy_grows (sendCopy_grows h)

@[simp] theorem broadcastSight_grows {r : Sighting} (h : Grows s t) : Grows s (broadcastSight r t) := broadcast_grows h

/-! ### The journal -/

theorem appendRecord_grows {take : Journal → Journal} (htake : ∀ j, (take j).records = j.records) (h : Grows s t) :
    Grows s (appendRecord take c t) := by
  have happend : Grows s (t.onJournal fun j => (take j).append c t.stamp (!t.line.connected) (t.clock.state != .good)) :=
    h.trans ⟨by simp [Journal.append, htake], fun _ => List.prefix_rfl, fun _ => rfl, id, rfl⟩
  unfold appendRecord fullEvent
  dsimp only
  repeat' split
  all_goals simp [happend]

@[simp] theorem appendReserved_grows (h : Grows s t) : Grows s (appendReserved c t) := appendRecord_grows (fun _ => rfl) h

@[simp] theorem appendHeld_grows (h : Grows s t) : Grows s (appendHeld c t) := appendRecord_grows (fun _ => rfl) h

@[simp] theorem appendOpenRefusal_grows (h : Grows s t) : Grows s (appendOpenRefusal c t) := by
  unfold appendOpenRefusal
  split
  · exact appendRecord_grows (fun _ => rfl) h
  · exact h

@[simp] theorem appendReserve_grows (h : Grows s t) : Grows s (appendReserve c t) := by
  unfold appendReserve
  split
  · exact appendRecord_grows (fun _ => rfl) h
  · exact h.keeping rfl rfl rfl

@[simp] theorem reserveJournal_grows (h : Grows s t) : Grows s (reserveJournal t) := by
  have hslot : Grows s (t.onJournal fun j => { j with reserved := j.reserved + 1 }) := h.keeping rfl rfl rfl
  unfold reserveJournal fullEvent
  split <;> simp [hslot]

/-! ### The lane -/

@[simp] theorem openTest_grows (h : Grows s t) : Grows s (openTest t) := h.keeping (by simp) (by simp) (by simp)
@[simp] theorem closeTest_grows (h : Grows s t) : Grows s (closeTest t) := h.keeping (by simp) (by simp) (by simp)
@[simp] theorem releaseTest_grows (h : Grows s t) : Grows s (releaseTest t) := h.keeping (by simp) (by simp) (by simp)

@[simp] theorem lapse_grows {x : Credit} {r : LapseReason} (h : Grows s t) : Grows s (lapse d x r t) := by
  unfold lapse
  refine Grows.keeping (t := appendReserve (lapseContent x r) (lapseReport x.cardId d (t.onLane (Lane.dropLapsed d x)))) ?_
    (by simp) (by simp) (by simp)
  exact appendReserve_grows (h.keeping (by simp) (by simp) (by simp))

@[simp] theorem flush_grows (h : Grows s t) : Grows s (flush d t) := by
  unfold flush
  generalize t.lane.credits.get d = l
  induction l generalizing t with
  | nil => exact h
  | cons c l ih => exact ih (lapse_grows h)

@[simp] theorem joinCredit_grows {kind : CreditKind} {cardId : Nat} (h : Grows s t) : Grows s (joinCredit d kind cardId t) := by
  unfold joinCredit
  dsimp only
  split
  · exact h.keeping (by simp) (by simp) (by simp)
  · exact lapse_grows (h.keeping (by simp) (by simp) (by simp))

/-! ### The dialogs -/

@[simp] theorem showNow_grows {w : Show} (h : Grows s t) : Grows s (showNow p w t) := h.keeping (by simp) (by simp) (by simp)
@[simp] theorem issue_grows {u : Purpose} (h : Grows s t) : Grows s (issue p u t) := h.keeping (by simp) (by simp) (by simp)
@[simp] theorem withdraw_grows (h : Grows s t) : Grows s (withdraw p t) := h.keeping (by simp) (by simp) (by simp)
@[simp] theorem toHolding_grows (h : Grows s t) : Grows s (toHolding p t) := h.keeping (by simp) (by simp) (by simp)
@[simp] theorem toIdle_grows (h : Grows s t) : Grows s (toIdle p t) := h.keeping (by simp) (by simp) (by simp)

@[simp] theorem dropCreditRes_grows (h : Grows s t) : Grows s (dropCreditRes p t) := h.keeping (by simp) (by simp) (by simp)

@[simp] theorem dropJournalRes_grows (h : Grows s t) : Grows s (dropJournalRes p t) :=
  h.keeping (by simp [dropJournalRes, releaseJournal]) (by simp) (by simp)

@[simp] theorem onCtx_grows {f : Context → Context} (h : Grows s t) : Grows s (t.onCtx p f) := h.keeping rfl rfl rfl

@[simp] theorem refusalRecord_grows {code : RefusalCode} (h : Grows s t) : Grows s (refusalRecord p code t) := by
  unfold refusalRecord
  dsimp only
  repeat' split
  · exact dropJournalRes_grows h
  · exact appendOpenRefusal_grows h
  · exact dropJournalRes_grows <| appendReserved_grows <| onCtx_grows h

@[simp] theorem refuse_grows {code : RefusalCode} {mark : Bool} {amount : Option Nat} (h : Grows s t) :
    Grows s (refuse p code mark amount t) := by
  have hrecord : Grows s (refusalRecord p code (dropCreditRes p t)) := refusalRecord_grows <| dropCreditRes_grows h
  unfold refuse
  dsimp only
  split
  · exact issue_grows <| onCtx_grows hrecord
  · exact toHolding_grows <| withdraw_grows <| showNow_grows hrecord

@[simp] theorem refuseByMode_grows {m : Mode} (h : Grows s t) : Grows s (refuseByMode m p t) := by
  unfold refuseByMode
  split
  · exact refuse_grows (h.keeping rfl rfl rfl)
  · exact h

@[simp] theorem dialogsTold_grows {m : Mode} (h : Grows s t) : Grows s (dialogsTold m t) := refuseByMode_grows (refuseByMode_grows h)

/-! ### The mode -/

@[simp] theorem reportMode_grows {m : Mode} (h : Grows s t) : Grows s (reportMode m t) :=
  event_grows (appendReserve_grows (h.keeping rfl rfl rfl))

/-- R136: what follows the report of a change of mode. -/
theorem afterReport_grows {left m : Mode} (h : Grows s t) :
    Grows s (closeTest (openTest (dialogsTold m (freshCount m (flushOnLeaving left m t))))) := by
  refine closeTest_grows <| openTest_grows <| dialogsTold_grows ?_
  have hflush : Grows s (flushOnLeaving left m t) := by
    unfold flushOnLeaving
    split <;> simp [h]
  unfold freshCount
  split
  · exact hflush.keeping rfl rfl rfl
  · exact hflush

@[simp] theorem deriveMode_grows (h : Grows s t) : Grows s (deriveMode t) := by
  unfold deriveMode
  split
  · exact h
  · exact afterReport_grows (reportMode_grows h)

end

end Sys2Proof.Machine

/-! PROOFS. The effective mode: what a derivation leaves of the lane, what EMERGENCY and LANE-MODE do to it, and the flaps at their
limits (sections 6.5 and 7.1 to 7.4). -/

namespace Sys2Proof.Machine

open Sys2Proof

variable {s t : State} {p : Port} {d : Direction} {m : Mode}

/-! ### An event asked for -/

theorem event_of_room {e : Event} (hon : s.params.eventMask.getLsbD e.row = true) (hup : s.line.link.up = true) (hheld : s.line.held = [])
    (hroom : s.line.count .own < 4) :
    event e s = { s with
      mgmt := { s.mgmt with eventNo := (s.mgmt.eventNo + 1) % 65536 }, line := s.line.queued .up (s.eventFrame e) } := by
  rw [event, if_pos hon]
  exact sendCopy_of_room (s := s.onMgmt fun m => { m with eventNo := (m.eventNo + 1) % 65536 }) hup hheld hroom

theorem event_of_full {e : Event} (hon : s.params.eventMask.getLsbD e.row = true) (hup : s.line.link.up = true)
    (hfull : 4 ≤ s.line.count .own) :
    event e s = ({ s with mgmt := { s.mgmt with eventNo := (s.mgmt.eventNo + 1) % 65536 } } : State).dropping := by
  rw [event, if_pos hon]
  exact sendCopy_of_full (s := s.onMgmt fun m => { m with eventNo := (m.eventNo + 1) % 65536 }) hup hfull

@[simp] theorem event_clock (e : Event) (s : State) : (event e s).mgmt.clock = s.mgmt.clock := (event_grows (Grows.refl s)).clock

/-- R177, R195: the frame of an event stands before whatever is made after it. -/
theorem event_then_grows {e : Event} (hon : s.params.eventMask.getLsbD e.row = true) (hup : s.line.link.up = true)
    (hgrows : Grows (event e s) t) :
    (s.line.held = [] → s.line.count .own < 4 →
        ∃ later, t.line.localQ.up = s.line.localQ.up ++ ⟨s.eventFrame e, .own, false⟩ :: later)
      ∧ (4 ≤ s.line.count .own → t.line.localQ = s.line.localQ ∧ t.mgmt.flags.sendDrop = true) := by
  refine ⟨fun hheld hroom => ?_, fun hfull => ?_⟩
  · obtain ⟨later, hlater⟩ := hgrows.localQ .up
    rw [event_of_room hon hup hheld hroom] at hlater
    refine ⟨later, ?_⟩
    simpa [LineIf.queued, LineIf.setHold, ByLine.get, ByLine.put] using hlater.symm
  · rw [event_of_full hon hup hfull] at hgrows
    exact ⟨congrArg LineIf.localQ (hgrows.full hfull), hgrows.dropped rfl⟩

/-! ### What a derivation leaves of the lane -/

/-- R25: of the lane a refusal gives back reserved slots alone. -/
theorem refuse_lane_eq (p : Port) (code : RefusalCode) (mark : Bool) (amount : Option Nat) (s : State) :
    ∃ r, (refuse p code mark amount s).lane = { s.lane with reserved := r } := by
  have hdrop : ∃ r, (dropCreditRes p s).lane = { s.lane with reserved := r } := by
    unfold dropCreditRes
    split
    · exact ⟨_, rfl⟩
    · exact ⟨s.lane.reserved, rfl⟩
  obtain ⟨r, hr⟩ := hdrop
  refine ⟨r, ?_⟩
  unfold refuse
  dsimp only
  split <;> simp [hr]

theorem refuseByMode_lane_eq (m : Mode) (p : Port) (s : State) : ∃ r, (refuseByMode m p s).lane = { s.lane with reserved := r } := by
  unfold refuseByMode
  split
  · exact refuse_lane_eq ..
  · exact ⟨s.lane.reserved, rfl⟩

theorem dialogsTold_lane_eq (m : Mode) (s : State) : ∃ r, (dialogsTold m s).lane = { s.lane with reserved := r } := by
  obtain ⟨ra, ha⟩ := refuseByMode_lane_eq m .a s
  obtain ⟨rb, hb⟩ := refuseByMode_lane_eq m .b (refuseByMode m .a s)
  exact ⟨rb, by rw [dialogsTold, hb, ha]⟩

/-- R136: a change of mode that leaves no service, before the flaps are tested. -/
theorem dialogsTold_freshCount_lane (m : Mode) (s : State) :
    ∃ r, (dialogsTold m (freshCount m s)).lane =
      { s.lane with reserved := r, freeCount := if m.holdsOpen then 0 else s.lane.freeCount } := by
  obtain ⟨r, hr⟩ := dialogsTold_lane_eq m (freshCount m s)
  refine ⟨r, ?_⟩
  rw [hr]
  unfold freshCount
  split
  next h => rfl
  next h => rfl

/-- R138: a change to a mode that holds the flaps open starts a fresh count of free crossings. -/
theorem deriveMode_freeCount (hne : s.lane.derived ≠ s.lane.eff) (hopen : s.lane.derived.holdsOpen = true) :
    (deriveMode s).lane.freeCount = 0 := by
  obtain ⟨r, hr⟩ := dialogsTold_freshCount_lane s.lane.derived (flushOnLeaving s.lane.eff s.lane.derived (reportMode s.lane.derived s))
  rw [deriveMode, if_neg hne]
  simp [changeMode, hr, hopen]

/-- R136: the MODE record is the first of what a change of mode writes. -/
theorem deriveMode_records (hne : s.lane.derived ≠ s.lane.eff) (hroom : 1 ≤ s.journal.free) :
    ∃ later, (deriveMode s).journal.records =
      s.journal.records ++ s.recordOf (modeContent s.lane.derived s.lane.countOfMode) :: later := by
  have hreport : (reportMode s.lane.derived s).journal.records
      = s.journal.records ++ [s.recordOf (modeContent s.lane.derived s.lane.countOfMode)] := by
    simp [reportMode, hroom]
  obtain ⟨later, hlater⟩ := (afterReport_grows (left := s.lane.eff) (m := s.lane.derived) (Grows.refl (reportMode s.lane.derived s))).records
  refine ⟨later, ?_⟩
  rw [deriveMode, if_neg hne, changeMode, ← hlater, hreport, List.append_assoc, List.singleton_append]

theorem Lane.countOfMode_eq (l : Lane) :
    l.countOfMode = if l.eff = .freeExit ∨ l.eff = .fault then l.freeCount else 0 := by
  simp [Lane.countOfMode, Mode.holdsOpen_iff]

theorem deriveMode_of_derived (h : s.lane.derived = s.lane.eff) : deriveMode s = s := if_pos h

theorem Mode.inService_of_holdsOpen (h : m.holdsOpen = true) : m.inService = false := by cases m <;> simp_all [Mode.holdsOpen, Mode.inService]

theorem ByDir.ext_fields {α : Type} {x : ByDir α} {a b : α} (hin : x.inbound = a) (hout : x.outbound = b) : x = ⟨a, b⟩ := by
  rw [← hin, ← hout]

/-! ### EMERGENCY -/

/-- Settles O12. The mode is the derivation's; queues out of service are empty by `Sound.served`; what is written and made first stands
first (`Grows`). -/
theorem emergencyTakenDerivesTheMode : Obligations.EmergencyTakenDerivesTheMode := by
  intro s hr hfilter hserved
  let u : State := { s with lane := { s.lane with emergency := s.pins.emergency, emergencyFilter := none } }
  let e : Event := if s.pins.emergency then .emergencyOn else .emergencyOff
  have hrun : exec .emergencyTaken s = .next (follow (deriveMode (event e u))) := by
    rw [exec_emergencyTaken]
    refine effect_some rfl hr ?_
    rw [if_pos (by rw [hfilter]; rfl)]
    rfl
  have hderived : (event e u).lane.derived = u.lane.derived := by simp
  have heff : (follow (deriveMode (event e u))).lane.eff = u.lane.derived := by simp
  have hkept : (event e u).lane.eff = s.lane.eff := by simp [u]
  have hchanged (hne : (follow (deriveMode (event e u))).lane.eff ≠ s.lane.eff) : (event e u).lane.derived ≠ (event e u).lane.eff := by
    rwa [hderived, hkept, ← heff]
  refine ⟨_, hrun, by simp [u], by simp [u], fun hon => ⟨?_, ?_⟩, fun hoff hjam hfault => ?_, fun hoff hbad => ?_, by simp [u], by simp [u],
    by simp [u], by simp [u], by simp [u], by simp [u], by simp [u], ⟨rfl, fun hmask hup => ?_⟩, fun hne => ⟨fun hroom => ?_, fun hopen => ?_⟩,
    fun hsame => ?_⟩
  · rw [heff]
    simp [Lane.derived, u, hon]
  · have hout : (follow (deriveMode (event e u))).lane.eff.inService = false := by
      rw [heff]
      simp [Lane.derived, u, hon, Mode.inService]
    have hsound : Sound u (follow (deriveMode (event e u))) := follow_sound <| deriveMode_sound <| event_sound <| Sound.refl u
    have hnil := hsound.served hserved (.inr hout)
    exact ByDir.ext_fields hnil.1 hnil.2
  · rw [heff]
    simp [Lane.derived, u, hoff, hjam, hfault]
  · rw [heff]
    simp [Lane.derived, u, hoff, hbad]
  · have hrow : e.row = if s.pins.emergency then 10 else 11 := by
      simp only [e]
      split <;> rfl
    have hon : u.params.eventMask.getLsbD e.row = true := by
      rw [hrow]
      exact hmask
    have hframes := event_then_grows (s := u) hon hup (deriveMode_grows (Grows.refl (event e u)))
    simp only [follow_frame]
    exact hframes
  · obtain ⟨later, hlater⟩ := deriveMode_records (hchanged hne) (by simpa [u] using hroom)
    refine ⟨later, ?_⟩
    have hrecord := State.recordOf_congr (s := s) (t := event e u) (by simp [u]) (by simp [u]) (by simp [u])
    rw [(follow_frame _).2.2.2.1, hlater, heff, hderived, hrecord, Lane.countOfMode_eq, (event_frame ..).2.2.2.2.1,
      (event_frame ..).2.2.2.2.2.1]
    rfl
  · have hopen' : (event e u).lane.derived.holdsOpen = true := by
      rw [hderived, Mode.holdsOpen_iff, ← heff]
      exact hopen
    simpa using deriveMode_freeCount (hchanged hne) hopen'
  · have hsame' : (event e u).lane.derived = (event e u).lane.eff := by rw [hderived, ← heff, hsame, hkept]
    rw [deriveMode_of_derived hsame']
    simp [u]

end Sys2Proof.Machine

/-! PROOFS. LANE-MODE and the flaps: the mode commanded, the retry of a jam (R130, R189). -/

namespace Sys2Proof.Machine

open Sys2Proof

variable {s t : State} {m : Mode} {b : Byte}

/-! ### The mode commanded -/

/-- R125: a motion started leaves the inputs of the mode. -/
@[simp] theorem flapRetry_lane (s : State) :
    (flapRetry s).lane.cmd = s.lane.cmd ∧ (flapRetry s).lane.eff = s.lane.eff ∧ (flapRetry s).lane.emergency = s.lane.emergency ∧
    (flapRetry s).lane.jam = s.lane.jam ∧ (flapRetry s).lane.faultBeams = s.lane.faultBeams := by
  unfold flapRetry
  split <;> simp

/-- R132, R135: the lane of a commanded mode, before the flaps are retried. -/
def commanded (m : Mode) (s : State) : State := if s.lane.cmd = m then s else deriveMode (s.onLane fun l => { l with cmd := m })

theorem commandMode_eq (m : Mode) (s : State) : commandMode m s = flapRetry (commanded m s) := rfl

theorem commanded_lane (m : Mode) (h : s.lane.modeDerived) :
    (commanded m s).lane.cmd = m ∧ (commanded m s).lane.eff = ({ s.lane with cmd := m } : Lane).derived
      ∧ (commanded m s).lane.emergency = s.lane.emergency ∧ (commanded m s).lane.jam = s.lane.jam
      ∧ (commanded m s).lane.faultBeams = s.lane.faultBeams := by
  unfold commanded
  split
  next hsame =>
    subst hsame
    exact ⟨rfl, h.2, rfl, rfl, rfl⟩
  next => simp [State.onLane]

theorem commanded_frame (m : Mode) (s : State) :
    (commanded m s).tariff = s.tariff ∧ (commanded m s).beam = s.beam ∧ (commanded m s).params = s.params ∧
    (commanded m s).pins = s.pins ∧ (commanded m s).mgmt.clock = s.mgmt.clock := by
  unfold commanded
  split
  · exact ⟨rfl, rfl, rfl, rfl, rfl⟩
  · have hclock := (deriveMode_grows (Grows.refl (s.onLane fun l => { l with cmd := m }))).clock
    exact ⟨by simp, by simp, by simp, by simp, hclock⟩

/-! ### What LANE-MODE answers -/

theorem laneModeOf_none (h : 3 < b.toNat) : laneModeOf b = none := by
  unfold laneModeOf
  obtain ⟨n, hn⟩ := Nat.exists_eq_add_of_le' h
  rw [hn]
  rfl

theorem laneModeOf_open (h : b.toNat < 3) : ∃ m, laneModeOf b = some m ∧ m ≠ .closed := by
  unfold laneModeOf
  interval_cases b.toNat
  · exact ⟨_, rfl, nofun⟩
  · exact ⟨_, rfl, nofun⟩
  · exact ⟨_, rfl, nofun⟩

/-- R191: the start-up conditions of a gate that has an address. -/
theorem startUpComplete_iff (hlow : 1 ≤ s.line.address) (hhigh : s.line.address ≤ 62) : s.startUpComplete = true ↔
    s.clock.state ≠ .unset ∧ s.tariff.active.isSome = true ∧ s.mgmt.freshStart = false := by
  simp [State.startUpComplete, hlow, hhigh, and_assoc]

theorem State.onArrival_startUp {a : Arrival} (h : s.canAnswer a) : (s.onArrival a.port).startUpComplete = true ↔
    s.clock.state ≠ .unset ∧ s.tariff.active.isSome = true ∧ s.mgmt.freshStart = false :=
  startUpComplete_iff (by rw [State.onArrival_address]; exact h.2.2.1) (by rw [State.onArrival_address]; exact h.2.2.2.1)

/-- R189: a LANE-MODE that is taken. -/
theorem exec_laneMode_taken {a : Arrival} {tag : Byte} (hw : (Instr.laneMode a tag b).wf = true) (h : s.canAnswer a)
    (hm : laneModeOf b = some m)
    (htaken : m = .closed ∨ (s.clock.state ≠ .unset ∧ s.tariff.active.isSome = true ∧ s.mgmt.freshStart = false)) :
    exec (.laneMode a tag b) s = .next (follow ((commandMode m (s.onArrival a.port)).onBuffers fun l =>
      { l with
        receiving := l.receiving.put a.port false
        held := l.held ++ [⟨a.port, .up, .reply ⟨13, tag, .done,
          .laneMode (commandMode m (s.onArrival a.port)).lane.cmd (commandMode m (s.onArrival a.port)).lane.eff⟩, false⟩] })) := by
  have hrun : execute (.laneMode b) (s.onArrival a.port) = withModes (.done, commandMode m (s.onArrival a.port)) := by
    have hcond : m = .closed ∨ (s.onArrival a.port).startUpComplete = true := htaken.imp id (State.onArrival_startUp h).mpr
    rw [execute, hm, laneModeTaken, if_pos hcond]
  have hexec := addressedCommandIsExecutedAndAnswered _ _ _ _ s hw rfl h
  simp only [hrun] at hexec
  exact hexec

/-! ### The retry of a jam -/

theorem Lane.grantedCredit_of_empty {l : Lane} (h : l.credits.inbound = [] ∧ l.credits.outbound = []) : l.grantedCredit = false := by
  unfold Lane.grantedCredit
  split
  next d _ => cases d <;> simp [ByDir.get, h]
  next => rfl

/-- R125, R130: the retry of a jam with no credit queued. -/
theorem flapRetry_jammed {motion : Motion} (hflap : s.lane.flap = .jammed) (hjam : s.lane.jam = some motion)
    (hempty : s.lane.credits.inbound = [] ∧ s.lane.credits.outbound = []) :
    (flapRetry s).lane.flap =
        (if motion = .towardClosed ∧ s.lane.flapZone = false ∧ s.lane.eff ≠ .freeExit then .closing else .opening)
      ∧ (flapRetry s).lane.motionTimer = some s.params.flapMotionLimit := by
  have hcredit : (startMotion s.lane.retryMotion s).lane.grantedCredit = false := Lane.grantedCredit_of_empty hempty
  have hretry : flapRetry s = openTest (startMotion s.lane.retryMotion s) := by
    unfold flapRetry
    simp only [hflap]
  by_cases hback : motion = .towardClosed ∧ s.lane.flapZone = false
  · have hmotion : s.lane.retryMotion = .closing := by simp [Lane.retryMotion, hjam, hback]
    have hreverses : (startMotion s.lane.retryMotion s).lane.reverses = decide (s.lane.eff = .freeExit) := by
      rw [Lane.reverses, hcredit]
      simp [startMotion, hjam]
      cases s.lane.eff <;> rfl
    rw [hretry, openTest]
    simp only [hreverses]
    rw [hmotion]
    by_cases hfree : s.lane.eff = .freeExit
    · simp [startMotion, hfree]
    · simp [startMotion, hfree, hback]
  · have hmotion : s.lane.retryMotion = .opening := by
      rw [Lane.retryMotion, if_neg]
      simpa [hjam] using hback
    rw [hretry, hmotion, if_neg (fun h => hback ⟨h.1, h.2.1⟩)]
    exact ⟨rfl, rfl⟩

/-- R135: a jam holds the lane in FAULT or FREE_EXIT, whatever mode is commanded. -/
theorem Lane.derived_of_jam {l : Lane} (h : l.jam.isSome = true) : l.derived = if l.emergency then .freeExit else .fault := by
  simp [Lane.derived, h]

theorem commanded_of_jam (m : Mode) (hjam : s.lane.jam.isSome = true) (hmode : s.lane.modeDerived) :
    commanded m s = { s with lane := { s.lane with cmd := m } } := by
  unfold commanded
  split
  next hsame =>
    subst hsame
    rfl
  next =>
    refine deriveMode_of_derived ?_
    have hjam' : ({ s.lane with cmd := m } : Lane).jam.isSome = true := hjam
    show ({ s.lane with cmd := m } : Lane).derived = s.lane.eff
    rw [hmode.2, Lane.derived_of_jam hjam', Lane.derived_of_jam hjam]

/-- Settles O31. -/
theorem laneModeIsTakenAndRetriesAJam : Obligations.LaneModeIsTakenAndRetriesAJam := by
  refine ⟨fun a tag mode s hw h => ⟨fun hbad => ?unknown, fun hlow hnot => ?early, fun m hm hmode htaken => ?taken⟩,
    fun a tag mode c m s hw h hc htaken hflap hjam hmode hserved => ?retry⟩
  case unknown =>
    have hrun : execute (.laneMode mode) (s.onArrival a.port) = withModes (.refusedValue, s.onArrival a.port) := by
      rw [execute, laneModeOf_none hbad, laneModeTaken]
    have hreply := exec_lineCommand_answered (.laneMode mode) rfl hw h nofun hrun rfl
    exact hreply
  case early =>
    obtain ⟨m, hm, hopen⟩ := laneModeOf_open hlow
    have hrun : execute (.laneMode mode) (s.onArrival a.port) = withModes (.refusedState, s.onArrival a.port) := by
      have hcond : ¬(m = .closed ∨ (s.onArrival a.port).startUpComplete = true) := by
        rw [not_or, State.onArrival_startUp h]
        exact ⟨hopen, hnot⟩
      rw [execute, hm, laneModeTaken, if_neg hcond]
    have hreply := exec_lineCommand_answered (.laneMode mode) rfl hw h nofun hrun rfl
    exact hreply
  case taken =>
    refine ⟨_, exec_laneMode_taken hw h hm htaken, ?_⟩
    obtain ⟨hcmd, heff, hemergency, hjam, hfault⟩ := commanded_lane (s := s.onArrival a.port) m hmode
    obtain ⟨htariff, hbeam, hparams, hpins, hclock⟩ := commanded_frame m (s.onArrival a.port)
    simp only [commandMode_eq, follow_lane, follow_frame, follow_beamRest, State.onBuffers, State.onLine_lane, State.onLine_tariff,
      State.onLine_beam, State.onLine_params, State.onLine_pins, State.onLine_mgmt, flapRetry_lane, flapRetry_frame]
    refine ⟨hcmd, heff, ?_, hemergency, hjam, hfault, htariff, hparams, hpins, congrArg Beams.bodies hbeam, hclock⟩
    simp [LineIf.setHold, hcmd]
  case retry =>
    refine ⟨_, exec_laneMode_taken hw h hc htaken, ?_⟩
    have hsome : s.lane.jam.isSome = true := by rw [hjam]; rfl
    have heff : s.lane.eff = if s.lane.emergency then .freeExit else .fault := hmode.2.trans (Lane.derived_of_jam hsome)
    have hcommanded := commanded_of_jam (s := s.onArrival a.port) c hsome hmode
    have hempty := hserved (.inr (by rw [heff]; split <;> rfl))
    obtain ⟨hmoved, htimer⟩ := flapRetry_jammed (s := commanded c (s.onArrival a.port)) (motion := m) (by rw [hcommanded]; exact hflap)
      (by rw [hcommanded]; exact hjam) (by rw [hcommanded]; exact hempty)
    simp only [commandMode_eq, follow_laneRest, State.onBuffers, State.onLine_lane, flapRetry_lane, hmoved, htimer]
    rw [hcommanded]
    refine ⟨?_, hjam, rfl, rfl, rfl⟩
    show (if m = .towardClosed ∧ s.lane.flapZone = false ∧ s.lane.eff ≠ .freeExit then Flap.closing else .opening) = _
    rw [heff]
    cases s.lane.emergency <;> simp

end Sys2Proof.Machine

/-! PROOFS. The flaps at their limits, at the end of the close delay, and jammed (section 6.5). -/

namespace Sys2Proof.Machine

open Sys2Proof

variable {s t : State} {m : Mode} {d : Direction}

/-! ### Flaps that no test moves -/

/-- R125 to R127: jammed flaps, and open ones whose close delay runs. -/
def Lane.still (l : Lane) : Prop := l.flap = .jammed ∨ (l.flap = .opened ∧ l.closeTimer.isSome = true)

theorem openTest_of_still (h : s.lane.still) : openTest s = s := by
  unfold openTest
  obtain h | ⟨h, -⟩ := h <;> simp only [h]

theorem closeTest_of_still (h : s.lane.still) : closeTest s = s := by
  refine if_neg ?_
  obtain h | ⟨h, hclose⟩ := h
  · simp [Lane.closeCondition, h]
  · simp [Lane.closeCondition, h, Option.isSome_iff_ne_none.mp hclose]

theorem releaseTest_of_flap (h : s.lane.flap ≠ .closed) : releaseTest s = s := by
  have hno (d : Direction) : s.releases d = false := by simp [State.releases, h]
  unfold releaseTest
  split
  · rw [if_neg (by simp [hno])]
  · rfl

theorem Lane.still.flap_ne {l : Lane} (h : l.still) : l.flap ≠ .closed := by
  obtain h | ⟨h, -⟩ := h <;> rw [h] <;> decide

theorem creditLeft_of_still (h : s.lane.still) : creditLeft d s = s := by
  unfold creditLeft
  split
  · rw [releaseTest_of_flap h.flap_ne, closeTest_of_still h]
  · exact closeTest_of_still h

/-- What the flaps and their timers show. -/
def Lane.flaps (l : Lane) : Flap × Timer × Timer := (l.flap, l.closeTimer, l.motionTimer)

theorem Lane.still_congr {l k : Lane} (h : l.flaps = k.flaps) : l.still ↔ k.still := by
  simp only [Lane.flaps, Prod.mk.injEq] at h
  simp only [Lane.still, h]

theorem lapse_of_still {c : Credit} {r : LapseReason} (h : s.lane.still) : (lapse d c r s).lane.flaps = s.lane.flaps := by
  have hlane : (appendReserve (lapseContent c r) (lapseReport c.cardId d (s.onLane (Lane.dropLapsed d c)))).lane = s.lane.dropLapsed d c := by
    simp
  rw [lapse, creditLeft_of_still (by rw [hlane]; exact h), hlane]
  rfl

theorem flush_of_still (h : s.lane.still) : (flush d s).lane.flaps = s.lane.flaps := by
  unfold flush
  generalize s.lane.credits.get d = l
  induction l generalizing s with
  | nil => rfl
  | cons c l ih =>
    have hc := lapse_of_still (d := d) (c := c) (r := .flush) h
    exact (ih ((Lane.still_congr hc).mpr h)).trans hc

theorem flushOnLeaving_of_still {left : Mode} (h : s.lane.still) : (flushOnLeaving left m s).lane.flaps = s.lane.flaps := by
  unfold flushOnLeaving
  split
  · have hin := flush_of_still (d := .inbound) h
    exact (flush_of_still ((Lane.still_congr hin).mpr h)).trans hin
  · rfl

/-- R136: flaps that no test moves stand through a change of mode. -/
theorem deriveMode_of_still (h : s.lane.still) : (deriveMode s).lane.flaps = s.lane.flaps := by
  unfold deriveMode
  split
  · rfl
  obtain ⟨r, hr⟩ := dialogsTold_freshCount_lane s.lane.derived (flushOnLeaving s.lane.eff s.lane.derived (reportMode s.lane.derived s))
  have hreport : (reportMode s.lane.derived s).lane.flaps = s.lane.flaps := by rw [reportMode_lane_eq]; rfl
  have htold : (dialogsTold s.lane.derived (freshCount s.lane.derived
      (flushOnLeaving s.lane.eff s.lane.derived (reportMode s.lane.derived s)))).lane.flaps = s.lane.flaps := by
    rw [hr]
    exact (flushOnLeaving_of_still ((Lane.still_congr hreport).mpr h)).trans hreport
  have hstill := (Lane.still_congr htold).mpr h
  rw [changeMode, openTest_of_still hstill, closeTest_of_still hstill]
  exact htold

/-! ### The flaps at CLOSED -/

/-- R125: what asks closed flaps to open. -/
theorem Lane.openCondition_iff (l : Lane) : l.openCondition = true ↔
    l.eff = .freeExit ∨ l.eff = .fault ∨ ∃ d, l.grant = some d ∧ l.credits.get d ≠ [] := by
  have hcredit : l.grantedCredit = true ↔ ∃ d, l.grant = some d ∧ l.credits.get d ≠ [] := by
    unfold Lane.grantedCredit
    cases l.grant <;> simp
  rw [Lane.openCondition, Bool.or_eq_true, hcredit, Mode.holdsOpen_iff, or_comm, or_assoc]

/-- R115, R116: the grant once its release has been tested at CLOSED, and the direction last served. -/
def State.grantAtClosed (s : State) : Option Direction × Option Direction :=
  match s.lane.grant with
  | some d =>
    if (s.lane.credits.get d).isEmpty && !s.beam.bodies.any (fun b => b.origin == originOf d) then
      (if s.lane.credits.get (otherDirection d) = [] then none else some (otherDirection d), some d)
    else (some d, s.lane.lastServed)
  | none => (none, s.lane.lastServed)

/-- The lane with closed flaps once the grant has been tested and the flaps asked. -/
def State.laneAtClosed (s : State) : Lane :=
  let l := { s.lane with grant := s.grantAtClosed.1, lastServed := s.grantAtClosed.2 }
  if l.openCondition then { l with flap := .opening, motionTimer := some s.params.flapMotionLimit } else l

theorem openTest_of_closed (h : s.lane.flap = .closed) :
    openTest s = if s.lane.openCondition then startMotion .opening s else s := by
  simp only [openTest, h]

theorem openTest_of_opening (h : s.lane.flap = .opening) : openTest s = s := by simp only [openTest, h]

theorem Lane.nextGrant_of_empty {l : Lane} (h : l.credits.get d = []) :
    l.nextGrant = if l.credits.get (otherDirection d) = [] then none else some (otherDirection d) := by
  unfold Lane.nextGrant
  cases d <;> simp only [ByDir.get, otherDirection] at h ⊢ <;> rw [h] <;> split <;> simp_all

theorem openTest_openTest (h : s.lane.flap = .closed) : openTest (openTest s) = openTest s := by
  rw [openTest_of_closed h]
  split
  · exact openTest_of_opening rfl
  next hno => rw [openTest_of_closed h, if_neg hno]

/-- R115, R116: the release of the grant, and what the arbiter makes of it, before the flaps are asked. -/
theorem releaseTest_of_closed (h : s.lane.flap = .closed) :
    releaseTest s = { s with lane := { s.lane with grant := s.grantAtClosed.1, lastServed := s.grantAtClosed.2 } }
      ∨ releaseTest s = openTest { s with lane := { s.lane with grant := s.grantAtClosed.1, lastServed := s.grantAtClosed.2 } } := by
  unfold releaseTest State.grantAtClosed
  cases hg : s.lane.grant with
  | none =>
    left
    simp only [← hg]
  | some d =>
    dsimp only
    have hreleases : s.releases d = ((s.lane.credits.get d).isEmpty && !s.beam.bodies.any fun b => b.origin == originOf d) := by
      simp [State.releases, h]
    cases hleft : s.releases d with
    | false =>
      left
      rw [← hreleases, hleft]
      simp only [Bool.false_eq_true, if_false, ← hg]
    | true =>
      rw [← hreleases, hleft]
      have hempty : s.lane.credits.get d = [] := by
        rw [hreleases, Bool.and_eq_true] at hleft
        simpa using hleft.1
      have hnext : (s.onLane fun l => { l with grant := none, lastServed := some d }).lane.nextGrant =
          if s.lane.credits.get (otherDirection d) = [] then none else some (otherDirection d) := Lane.nextGrant_of_empty hempty
      simp only [if_true, arbitrate, hnext]
      by_cases hother : s.lane.credits.get (otherDirection d) = []
      · left
        simp only [if_pos hother]
        rfl
      · right
        simp only [if_neg hother]
        rfl

/-- R115, R116, R125: the release of the grant and the open condition, at closed flaps. -/
theorem openTest_releaseTest (h : s.lane.flap = .closed) : openTest (releaseTest s) = { s with lane := s.laneAtClosed } := by
  have hclosed : ({ s with lane := { s.lane with grant := s.grantAtClosed.1, lastServed := s.grantAtClosed.2 } } : State).lane.flap = .closed := h
  have hrelease : openTest (releaseTest s) =
      openTest { s with lane := { s.lane with grant := s.grantAtClosed.1, lastServed := s.grantAtClosed.2 } } := by
    obtain hr | hr := releaseTest_of_closed h
    · rw [hr]
    · rw [hr, openTest_openTest hclosed]
  rw [hrelease, openTest_of_closed hclosed, State.laneAtClosed]
  dsimp only
  split
  · rfl
  · rfl

/-- R116, R125: what closed flaps are asked to do by a change of mode, the release of the grant asks them again. -/
theorem openTest_releaseTest_again (h : s.lane.flap = .closed) (hmode : s.lane.eff.holdsOpen = false) :
    openTest (releaseTest (closeTest (openTest s))) = openTest (releaseTest s) := by
  by_cases hopen : s.lane.openCondition = true
  · have hmoved : (startMotion .opening s).lane.flap = .opening := rfl
    have hnot : closeTest (startMotion .opening s) = startMotion .opening s := if_neg (by simp [Lane.closeCondition, hmoved])
    have hcredit : s.lane.grantedCredit = true := by simpa [Lane.openCondition, hmode] using hopen
    have hkept : releaseTest s = s := by
      unfold releaseTest
      cases hg : s.lane.grant with
      | none => rfl
      | some d =>
        have : s.releases d = false := by
          rw [Lane.grantedCredit] at hcredit
          simp only [hg] at hcredit
          simp [State.releases] at hcredit ⊢
          exact fun h => absurd h hcredit
        simp only [this, Bool.false_eq_true, if_false]
    rw [hkept, openTest_of_closed h, if_pos hopen, hnot, releaseTest_of_flap (by rw [hmoved]; decide), openTest_of_opening hmoved]
  · have hnot : closeTest s = s := if_neg (by simp [Lane.closeCondition, h])
    rw [openTest_of_closed h, if_neg hopen, hnot]

/-- Statement words of the grant at CLOSED (R115, R116). -/
theorem grantAtClosed_granted (s : State) :
    (s.lane.grant = none → s.grantAtClosed.1 = none ∧ s.grantAtClosed.2 = s.lane.lastServed)
      ∧ ∀ d, s.lane.grant = some d →
        ((s.lane.credits.get d = [] ∧ ∀ b ∈ s.beam.bodies, b.origin ≠ originOf d) → s.grantAtClosed.2 = some d
          ∧ s.grantAtClosed.1 = (if s.lane.credits.get (otherDirection d) = [] then none else some (otherDirection d)))
        ∧ (¬(s.lane.credits.get d = [] ∧ ∀ b ∈ s.beam.bodies, b.origin ≠ originOf d) → s.grantAtClosed.1 = some d
          ∧ s.grantAtClosed.2 = s.lane.lastServed) := by
  unfold State.grantAtClosed
  refine ⟨fun hg => by simp [hg], fun d hg => ?_⟩
  have hiff : ((s.lane.credits.get d).isEmpty && !s.beam.bodies.any fun b => b.origin == originOf d) = true ↔
      s.lane.credits.get d = [] ∧ ∀ b ∈ s.beam.bodies, b.origin ≠ originOf d := by simp
  simp only [hg]
  refine ⟨fun hleft => ?_, fun hstays => ?_⟩
  · rw [if_pos (hiff.mpr hleft)]
    exact ⟨rfl, rfl⟩
  · rw [if_neg (mt hiff.mp hstays)]
    exact ⟨rfl, rfl⟩

/-! ### The limits, the close delay, the jam -/

theorem exec_limitAsserted_of (atOpen atClosed : Bool) (hr : s.pins.reset = false) :
    exec (.limitAsserted atOpen atClosed) s = .next (follow
      (readLimits atOpen atClosed { s with pins := { s.pins with atOpen := atOpen, atClosed := atClosed } })) := by
  rw [exec_limitAsserted, if_neg (by simp [hr])]
  exact effect_some rfl hr rfl

theorem clearJam_of_none (h : s.lane.jam = none) : clearJam s = s := if_neg (by simp [h])

theorem clearJam_of_some (h : s.lane.jam.isSome = true) : clearJam s = deriveMode (s.onLane fun l => { l with jam := none }) := if_pos h

/-- R135: the mode once no jam stands. -/
theorem Lane.derived_of_noJam {l : Lane} (h : l.jam = none) :
    l.derived = if l.emergency then .freeExit else if 2 ≤ l.faultBeams then .fault else l.cmd := by
  simp [Lane.derived, h]

/-- R126, R130: a jam that ends at CLOSED. A mode that changes has left FAULT for the one commanded, and the flaps are asked twice,
to the same end. -/
theorem closed_after_jam (hflap : s.lane.flap = .closed) (hjam : s.lane.jam = none)
    (hmode : s.lane.eff = if s.lane.emergency then .freeExit else .fault) (hcmd : s.lane.cmd.commandable = true) :
    ∃ u : State, openTest (releaseTest (deriveMode s)) = openTest (releaseTest u) ∧ u.lane.flap = .closed
      ∧ u.lane.eff = s.lane.derived ∧ u.lane.grant = s.lane.grant ∧ u.lane.lastServed = s.lane.lastServed
      ∧ u.lane.credits = s.lane.credits ∧ u.lane.cmd = s.lane.cmd ∧ u.lane.motionTimer = s.lane.motionTimer ∧ u.lane.jam = s.lane.jam
      ∧ u.beam = s.beam ∧ u.params = s.params := by
  by_cases hsame : s.lane.derived = s.lane.eff
  · exact ⟨s, by rw [deriveMode_of_derived hsame], hflap, hsame.symm, rfl, rfl, rfl, rfl, rfl, rfl, rfl, rfl⟩
  have hd := Lane.derived_of_noJam hjam
  have ⟨hderived, heff⟩ : s.lane.derived = s.lane.cmd ∧ s.lane.eff = .fault := by
    cases hem : s.lane.emergency <;> simp only [hem, Bool.false_eq_true, if_true, if_false] at hd hmode
    · by_cases hbeams : 2 ≤ s.lane.faultBeams
      · rw [if_pos hbeams] at hd
        exact absurd (hd.trans hmode.symm) hsame
      · rw [if_neg hbeams] at hd
        exact ⟨hd, hmode⟩
    · exact absurd (hd.trans hmode.symm) hsame
  have hshut : s.lane.cmd.holdsOpen = false := by cases h : s.lane.cmd <;> simp_all [Mode.commandable, Mode.holdsOpen]
  have hflush : flushOnLeaving s.lane.eff s.lane.derived (reportMode s.lane.derived s) = reportMode s.lane.derived s := by
    refine if_neg ?_
    rw [heff]
    simp [Mode.inService]
  obtain ⟨r, hr⟩ := dialogsTold_freshCount_lane s.lane.derived (reportMode s.lane.derived s)
  rw [reportMode_lane_eq, hderived, hshut] at hr
  refine ⟨dialogsTold s.lane.cmd (freshCount s.lane.cmd (reportMode s.lane.cmd s)), ?_, ?_⟩
  · rw [deriveMode, if_neg hsame, changeMode, hflush, hderived, openTest_releaseTest_again]
    · rw [hr]
      exact hflap
    · rw [hr]
      exact hshut
  · rw [hr]
    exact ⟨hflap, hderived.symm, rfl, rfl, rfl, rfl, rfl, rfl, by simp, by simp⟩

/-- R116, R125: the lane at CLOSED, in the words of the statement. -/
theorem laneAtClosed_eq (h : s.lane.flap = .closed) (hmotion : s.lane.motionTimer = none) {opens : Prop} [Decidable opens]
    (hopens : opens ↔ s.lane.eff = .freeExit ∨ s.lane.eff = .fault ∨ ∃ d, s.grantAtClosed.1 = some d ∧ s.lane.credits.get d ≠ []) :
    s.laneAtClosed = { s.lane with
      flap := if opens then .opening else .closed
      motionTimer := if opens then some s.params.flapMotionLimit else none
      grant := s.grantAtClosed.1, lastServed := s.grantAtClosed.2 } := by
  have hiff := hopens.trans (Lane.openCondition_iff { s.lane with grant := s.grantAtClosed.1, lastServed := s.grantAtClosed.2 }).symm
  rw [State.laneAtClosed]
  by_cases ho : opens
  · simp only [hiff.mp ho, ho, if_true]
  · rw [if_neg ho, if_neg ho, if_neg (mt hiff.mpr ho), ← h, ← hmotion]

/-- Settles O51. -/
theorem flapsReachTheirLimits : Obligations.FlapsReachTheirLimits := by
  refine ⟨fun atOpen atClosed s hr => ?limits, fun s hr hclose => ?delay, fun m s hr hmotion hflap => ?jams⟩
  case limits =>
    intro run u
    have hrun : run = .next (follow (readLimits atOpen atClosed u)) := exec_limitAsserted_of atOpen atClosed hr
    refine ⟨fun hflap hat => ⟨fun hjam => ?_, fun hjam => ?_⟩, fun hflap hat => ?_, fun hnotOpen hnotClosed => ?_⟩
    · have hreach : readLimits atOpen atClosed u = reachOpen u := by
        rw [readLimits]
        simp only [show u.lane.flap = .opening from hflap, hat, if_true]
      rw [hrun, hreach, reachOpen, clearJam_of_none (by exact hjam)]
      rfl
    · have hreach : readLimits atOpen atClosed u = reachOpen u := by
        rw [readLimits]
        simp only [show u.lane.flap = .opening from hflap, hat, if_true]
      have hcleared := clearJam_of_some (s := startCloseDelay (u.onLane fun l => { l with flap := .opened, motionTimer := none })) hjam
      have hstill := deriveMode_of_still (s := (startCloseDelay (u.onLane fun l => { l with flap := .opened, motionTimer := none })).onLane
        fun l => { l with jam := none }) (.inr ⟨rfl, rfl⟩)
      simp only [Lane.flaps, Prod.mk.injEq] at hstill
      refine ⟨_, hrun, ?_⟩
      rw [hreach, reachOpen, hcleared]
      simp only [follow_laneRest, follow_lane, deriveMode_lane]
      exact ⟨hstill.1, rfl, hstill.2.2, hstill.2.1, Lane.derived_of_noJam rfl⟩
    · have hreach : readLimits atOpen atClosed u = reachClosed u := by
        rw [readLimits]
        simp only [show u.lane.flap = .closing from hflap, hat, if_true]
      intro opens left granted
      let v : State := u.onLane fun l => { l with flap := .closed, motionTimer := none }
      refine ⟨fun hjam => ⟨v.laneAtClosed, ?_⟩, fun hjam hmode => ?_⟩
      · have hlane : v.laneAtClosed = { v.lane with
            flap := if opens s.lane.eff v.grantAtClosed.1 then .opening else .closed
            motionTimer := if opens s.lane.eff v.grantAtClosed.1 then some s.params.flapMotionLimit else none
            grant := v.grantAtClosed.1, lastServed := v.grantAtClosed.2 } := laneAtClosed_eq rfl rfl Iff.rfl
        have hgrant : v.laneAtClosed.grant = v.grantAtClosed.1 := by rw [hlane]
        have hserved : v.laneAtClosed.lastServed = v.grantAtClosed.2 := by rw [hlane]
        have hstate : readLimits atOpen atClosed u = { v with lane := v.laneAtClosed } := by
          rw [hreach, reachClosed, clearJam_of_none (by exact hjam)]
          exact openTest_releaseTest rfl
        refine ⟨by rw [hrun, hstate]; rfl, ?_, ?_⟩
        · rw [hgrant, hserved]
          exact grantAtClosed_granted v
        · rw [hgrant, hserved]
          exact hlane
      · have hcleared := clearJam_of_some (s := v) hjam
        obtain ⟨w, hw, hwflap, hweff, hwgrant, hwserved, hwcredits, hwcmd, hwmotion, hwjam, hwbeam, hwparams⟩ :=
          closed_after_jam (s := v.onLane fun l => { l with jam := none }) rfl rfl (hmode.2.trans (Lane.derived_of_jam hjam)) hmode.1
        have hlane : w.laneAtClosed = { w.lane with
            flap := if opens w.lane.eff w.grantAtClosed.1 then .opening else .closed
            motionTimer := if opens w.lane.eff w.grantAtClosed.1 then some w.params.flapMotionLimit else none
            grant := w.grantAtClosed.1, lastServed := w.grantAtClosed.2 } := laneAtClosed_eq hwflap hwmotion (by rw [hwcredits]; rfl)
        have hstate : readLimits atOpen atClosed u = { w with lane := w.laneAtClosed } := by
          rw [hreach, reachClosed, hcleared, hw]
          exact openTest_releaseTest hwflap
        have hgranted := grantAtClosed_granted w
        rw [hwgrant, hwserved, hwcredits, hwbeam] at hgranted
        refine ⟨_, hrun, ?_⟩
        rw [hstate, hlane]
        simp only [follow_laneRest, follow_lane, follow_beamRest]
        refine ⟨hwjam, hweff.trans (Lane.derived_of_noJam rfl), hgranted, trivial, by rw [hwparams]; rfl, hwcredits, hwcmd,
          congrArg Beams.bodies hwbeam⟩
    · rw [hrun]
      congr 2
      unfold readLimits
      split
      · rw [if_neg]
        intro h
        exact hnotOpen ⟨by assumption, h⟩
      · rw [if_neg]
        intro h
        exact hnotClosed ⟨by assumption, h⟩
      · rfl
      · rfl
      · rfl
  case delay =>
    rw [exec_closeDelayExpiry]
    refine effect_some rfl hr ?_
    rw [if_pos (by rw [hclose]; rfl), closeTest]
    have hcredit : s.lane.grantedCredit = false ↔ ∀ d, s.lane.grant = some d → s.lane.credits.get d = [] := by
      unfold Lane.grantedCredit
      cases s.lane.grant <;> simp
    have hcond : (s.onLane fun l => { l with closeTimer := none }).lane.closeCondition = true ↔
        s.lane.flap = .opened ∧ (∀ d, s.lane.grant = some d → s.lane.credits.get d = []) ∧ s.lane.flapZone = false
          ∧ s.lane.eff ≠ .freeExit ∧ s.lane.eff ≠ .fault := by
      rw [← hcredit]
      have hopen : s.lane.eff.holdsOpen = false ↔ s.lane.eff ≠ .freeExit ∧ s.lane.eff ≠ .fault := by
        cases s.lane.eff <;> simp [Mode.holdsOpen]
      simp only [Lane.closeCondition, State.onLane_lane, Bool.and_eq_true, beq_iff_eq, Bool.not_eq_true', Option.isNone_none, and_true,
        hopen, and_assoc]
      rfl
    by_cases h : s.lane.flap = .opened ∧ (∀ d, s.lane.grant = some d → s.lane.credits.get d = []) ∧ s.lane.flapZone = false
        ∧ s.lane.eff ≠ .freeExit ∧ s.lane.eff ≠ .fault
    · rw [if_pos (hcond.mpr h), if_pos h]
      rfl
    · rw [if_neg (mt hcond.mp h), if_neg h]
      rfl
  case jams =>
    have hexpires : motionExpires s = jamMotion m s := by
      unfold motionExpires
      obtain ⟨h, rfl⟩ | ⟨h, rfl⟩ := hflap <;> simp only [h]
    have hrun : exec .motionTimerExpiry s = .next (follow (jamMotion m s)) := by
      rw [exec_motionTimerExpiry]
      refine effect_some rfl hr ?_
      rw [if_pos (by rw [hmotion]; rfl), hexpires]
    let u : State := s.onLane fun l => { l with flap := .jammed, motionTimer := none, jam := some m }
    let v : State := event (.flapFault m) (appendReserve { kind := .fault, direction := none, reason := some (.fault .flapJam) } u)
    have hv : v.lane = u.lane := by simp [v]
    have hjam : jamMotion m s = deriveMode v := rfl
    have hstill := deriveMode_of_still (s := v) (.inl (by rw [hv]; rfl))
    rw [Lane.flaps, Lane.flaps, hv] at hstill
    simp only [Prod.mk.injEq] at hstill
    obtain ⟨hflap', hclose', hmotion'⟩ := hstill
    have hflap' : (deriveMode v).lane.flap = .jammed := hflap'
    refine ⟨_, hrun, ?_⟩
    rw [hjam]
    refine ⟨by simpa using hflap', by simp [hv, u], by rw [(follow_laneRest _).2.2.2.2.2.2.2.2.2.1]; exact hmotion', by simp [State.flapOpenOut, hflap'],
      by simp [State.flapCloseOut, hflap'], ?_, fun hroom => ?_⟩
    · rw [(follow_lane _).2.1, (deriveMode_lane _).2.1, hv]
      exact Lane.derived_of_jam rfl
    · obtain ⟨later, hlater⟩ := (deriveMode_grows (Grows.refl v)).records
      refine ⟨later, ?_⟩
      rw [(follow_frame _).2.2.2.1, ← hlater, (event_frame ..).2.2.2.2.2.1, appendReserve_records, if_pos (by exact hroom),
        List.append_assoc]
      rfl

end Sys2Proof.Machine

/-! PROOFS. STAGE-LOAD (section 4.2): its tests in order, and the one segment it stores, each value set to its nearer bound. -/

namespace Sys2Proof.Machine

open Sys2Proof

variable {g h : Stage} {segment part n : Nat} {b : List Byte} {clamped : Bool}

/-! ### Values read from pieces of a segment -/

/-- The pieces of a segment's bytes, one after the other. -/
theorem pieces_eq (size n : Nat) (b : List Byte) : pieces size n b = (List.range n).map fun k => (b.drop (size * k)).take size := by
  induction n generalizing b with
  | zero => rfl
  | succ n ih =>
    rw [pieces, ih, List.range_succ_eq_map, List.map_cons, List.map_map, Nat.mul_zero, List.drop_zero]
    congr 1
    refine List.map_congr_left fun k _ => ?_
    simp [List.drop_drop, Nat.mul_succ, Nat.add_comm]

/-- A field of a piece, read in the whole. -/
theorem fieldAt_piece {i m size : Nat} (at' : Nat) (b : List Byte) (h : i + m ≤ size) :
    fieldAt ((b.drop at').take size) i m = fieldAt b (at' + i) m := by
  rw [fieldAt, fieldAt, List.drop_take, List.take_take, Nat.min_eq_left (by omega), List.drop_drop]

theorem fieldAt_drop (at' i m : Nat) (b : List Byte) : fieldAt (b.drop at') i m = fieldAt b (at' + i) m := by
  rw [fieldAt, fieldAt, List.drop_drop]

/-- Section 11.5: the bands as they arrive. -/
def arrivedBands (b : List Byte) : List Band :=
  (List.range (fieldAt b 0 1)).map fun k => ⟨fieldAt b (1 + 5 * k) 3, fieldAt b (4 + 5 * k) 2⟩

theorem arrivedBands_eq (b : List Byte) :
    (pieces 5 (fieldAt b 0 1) (b.drop 1)).map (fun x => (⟨fieldAt x 0 3, fieldAt x 3 2⟩ : Band)) = arrivedBands b := by
  rw [pieces_eq, List.map_map, arrivedBands]
  refine List.map_congr_left fun k _ => ?_
  have hstart := fieldAt_piece (i := 0) (m := 3) (size := 5) (5 * k) (b.drop 1) (by omega)
  have hfactor := fieldAt_piece (i := 3) (m := 2) (size := 5) (5 * k) (b.drop 1) (by omega)
  simp only [Function.comp_apply, hstart, hfactor, fieldAt_drop]
  congr 2
  omega

/-- A rising sequence rises from each of its items to the next. -/
theorem pairwise_range_map_iff (f : Nat → Band) (n : Nat) :
    ((List.range n).map f).Pairwise (fun x y => x.startSecs < y.startSecs) ↔ ∀ k, k + 1 < n → (f k).startSecs < (f (k + 1)).startSecs := by
  rw [List.pairwise_iff_getElem]
  constructor
  · intro hp k hk
    have hrise := hp k (k + 1) (by simp; omega) (by simpa using hk) (by omega)
    simpa only [List.getElem_map, List.getElem_range] using hrise
  · intro hnext i j hi hj hij
    simp only [List.length_map, List.length_range] at hi hj
    simp only [List.getElem_map, List.getElem_range]
    induction j, hij using Nat.le_induction with
    | base => exact hnext i hj
    | succ j _ ih => exact (ih (by simp; omega) (by omega)).trans (hnext j hj)

theorem bandsWellFormed_iff (l : List Band) : bandsWellFormed l = true ↔
    1 ≤ l.length ∧ l.length ≤ 4 ∧ (∀ x ∈ l, x.startSecs ≤ 86399) ∧ l.Pairwise fun x y => x.startSecs < y.startSecs := by
  simp [bandsWellFormed, and_assoc]

/-- R76: the structure of BANDS. -/
theorem bandsWellFormed_arrived (b : List Byte) : bandsWellFormed (arrivedBands b) = true ↔
    1 ≤ fieldAt b 0 1 ∧ fieldAt b 0 1 ≤ 4 ∧ (∀ k < fieldAt b 0 1, fieldAt b (1 + 5 * k) 3 ≤ 86399)
      ∧ ∀ k, k + 1 < fieldAt b 0 1 → fieldAt b (1 + 5 * k) 3 < fieldAt b (1 + 5 * (k + 1)) 3 := by
  rw [bandsWellFormed_iff, arrivedBands, pairwise_range_map_iff]
  simp only [List.length_map, List.length_range, List.forall_mem_map, List.mem_range]

/-- R75, R76: BANDS as it is stored. -/
theorem readBands_eq (b : List Byte) :
    readBands b = if b.length = 2 + 5 * fieldAt b 0 1 ∧ bandsWellFormed (arrivedBands b) = true then
        some (⟨(arrivedBands b).map fun x => { x with factor := clampNat 100 4000 x.factor },
            clampNat 0 (fieldAt b 0 1 - 1) (fieldAt b (1 + 5 * fieldAt b 0 1) 1)⟩,
          decide ((⟨(arrivedBands b).map fun x => { x with factor := clampNat 100 4000 x.factor },
            clampNat 0 (fieldAt b 0 1 - 1) (fieldAt b (1 + 5 * fieldAt b 0 1) 1)⟩ : BandsSeg)
              ≠ ⟨arrivedBands b, fieldAt b (1 + 5 * fieldAt b 0 1) 1⟩))
      else none := by
  simp only [readBands, arrivedBands_eq]

/-! ### The segment stored -/

/-- R74, R201: what a load that passes its tests stores. -/
inductive Stage.Stores (g : Stage) (part : Nat) (b : List Byte) : Nat → Stage → Bool → Prop
  | station (hp : part = 0) (hlen : b.length = 3) : Stores g part b 0 { g with station := some (readStation b).1 } (readStation b).2
  | bands (hp : part = 0) {seg : BandsSeg} {clamped : Bool} (hseg : readBands b = some (seg, clamped)) :
    Stores g part b 9 { g with bands := some seg } clamped
  | classes (hp : part = 0) (hlen : b.length = 32) : Stores g part b 10 { g with classes := some (readClasses b).1 } (readClasses b).2
  | rules (hp : part = 0) (hlen : b.length = 21) : Stores g part b 11 { g with rules := some (readRules b).1 } (readRules b).2
  | check (hp : part = 0) (hlen : b.length = 2) : Stores g part b 12 { g with check := some (fieldAt b 0 2) } false
  | matrix {segment : Nat} (hlow : 1 ≤ segment) (hhigh : segment ≤ 8) (hp : part ≤ 1) (hlen : b.length = 128) :
    Stores g part b segment { g with parts := g.parts.set (2 * (segment - 1) + part) (some ((pieces 2 64 b).map ofBe)) } false

theorem Stage.store_eq_some (hs : g.store segment part b = some (h, clamped)) : g.Stores part b segment h clamped := by
  unfold Stage.store at hs
  split at hs
  · split at hs
    next hc => cases hs; exact .station hc.1 hc.2
    next => cases hs
  · split at hs
    next hp =>
      split at hs
      next hseg => cases hs; exact .bands hp hseg
      next => cases hs
    next => cases hs
  · split at hs
    next hc => cases hs; exact .classes hc.1 hc.2
    next => cases hs
  · split at hs
    next hc => cases hs; exact .rules hc.1 hc.2
    next => cases hs
  · split at hs
    next hc => cases hs; exact .check hc.1 hc.2
    next => cases hs
  next h0 _ _ _ _ =>
    split at hs
    next hc => cases hs; exact .matrix (Nat.one_le_iff_ne_zero.mpr h0) hc.1 hc.2.1 hc.2.2
    next => cases hs

/-- R74: which loads pass their tests. -/
theorem Stage.store_isSome (g : Stage) (segment part : Nat) (b : List Byte) :
    (g.store segment part b).isSome = true ↔ (1 ≤ segment ∧ segment ≤ 8 ∧ part ≤ 1 ∧ b.length = 128)
      ∨ (part = 0 ∧ ((segment = 0 ∧ b.length = 3) ∨ (segment = 10 ∧ b.length = 32) ∨ (segment = 11 ∧ b.length = 21)
        ∨ (segment = 12 ∧ b.length = 2) ∨ (segment = 9 ∧ (readBands b).isSome = true))) := by
  unfold Stage.store
  split
  case h_1 => split <;> simp_all
  case h_2 =>
    split
    next hp => cases hr : readBands b <;> simp [hp]
    next hp => simp [hp]
  case h_3 => split <;> simp_all
  case h_4 => split <;> simp_all
  case h_5 => split <;> simp_all
  case h_6 h0 h9 h10 h11 h12 =>
    have hlow : 1 ≤ segment := Nat.one_le_iff_ne_zero.mpr h0
    split <;> simp_all

/-- Which segment's bit is set (section 4.2). -/
def Stage.segmentLoaded (g : Stage) (k : Nat) : Bool :=
  match k with
  | 0 => g.station.isSome
  | 9 => g.bands.isSome
  | 10 => g.classes.isSome
  | 11 => g.rules.isSome
  | 12 => g.check.isSome
  | k => decide (k ≤ 8) && g.matrixLoaded (k - 1)

theorem Stage.segmentLoaded_of_matrix (g : Stage) {k : Nat} (hlow : 1 ≤ k) (hhigh : k ≤ 8) :
    g.segmentLoaded k = g.matrixLoaded (k - 1) := by
  interval_cases k <;> rfl

theorem Stage.loaded_getD (g : Stage) (k : Nat) : g.loaded.getD k false = g.segmentLoaded k := by
  obtain hk | hk := Nat.lt_or_ge k 13
  · interval_cases k <;> simp [Stage.loaded, Stage.segmentLoaded, List.range_succ]
  · have hlen : g.loaded.length ≤ k := by simp [Stage.loaded]; omega
    obtain ⟨j, rfl⟩ := Nat.exists_eq_add_of_le' hk
    rw [List.getD_eq_default _ _ hlen]
    have hbig : decide (j + 13 ≤ 8) = false := by simp
    exact (congrArg (· && g.matrixLoaded (j + 13 - 1)) hbig).symm

/-- R74: a load leaves every other segment. -/
theorem Stage.Stores.frame (hs : g.Stores part b segment h clamped) :
    h.state = g.state ∧ h.tag = g.tag ∧ h.parts.length = g.parts.length
      ∧ (segment ≠ 0 → h.station = g.station) ∧ (segment ≠ 9 → h.bands = g.bands) ∧ (segment ≠ 10 → h.classes = g.classes)
      ∧ (segment ≠ 11 → h.rules = g.rules) ∧ (segment ≠ 12 → h.check = g.check)
      ∧ ∀ k, (segment = 0 ∨ 9 ≤ segment ∨ k ≠ 2 * (segment - 1) + part) → h.parts[k]? = g.parts[k]? := by
  cases hs
  case matrix hlow hhigh hp hlen =>
    refine ⟨rfl, rfl, List.length_set, fun _ => rfl, fun _ => rfl, fun _ => rfl, fun _ => rfl, fun _ => rfl, fun k hk => ?_⟩
    have hne : 2 * (segment - 1) + part ≠ k := by omega
    exact List.getElem?_set_ne hne
  all_goals simp

/-- R201: a load sets its own segment's bit, and no other. -/
theorem Stage.Stores.loaded (hs : g.Stores part b segment h clamped) :
    (∀ k, k ≠ segment → h.segmentLoaded k = g.segmentLoaded k)
      ∧ (segment = 0 ∨ 9 ≤ segment → h.segmentLoaded segment = true) := by
  cases hs
  case matrix hlow hhigh hp hlen =>
    refine ⟨fun k hk => ?_, fun h => by omega⟩
    have hmatrix : 1 ≤ k → k ≤ 8 →
        ({ g with parts := g.parts.set (2 * (segment - 1) + part) (some ((pieces 2 64 b).map ofBe)) } : Stage).matrixLoaded (k - 1)
          = g.matrixLoaded (k - 1) := by
      intro hk1 hk8
      have hfirst : 2 * (segment - 1) + part ≠ 2 * (k - 1) := by omega
      have hsecond : 2 * (segment - 1) + part ≠ 2 * (k - 1) + 1 := by omega
      simp only [Stage.matrixLoaded, List.getD_eq_getElem?_getD, List.getElem?_set_ne hfirst, List.getElem?_set_ne hsecond]
    by_cases hk : 1 ≤ k ∧ k ≤ 8
    · rw [Stage.segmentLoaded_of_matrix _ hk.1 hk.2, Stage.segmentLoaded_of_matrix _ hk.1 hk.2]
      exact hmatrix hk.1 hk.2
    · unfold Stage.segmentLoaded
      split
      case h_6 h0 _ _ _ _ =>
        have hbig : decide (k ≤ 8) = false := by
          have : k ≠ 0 := h0
          simp
          omega
        rw [hbig, Bool.false_and, Bool.false_and]
      all_goals rfl
  all_goals
    refine ⟨fun k hk => ?_, fun _ => rfl⟩
    unfold Stage.segmentLoaded
    split
  all_goals simp_all [Stage.matrixLoaded]

theorem Stage.Stores.station_iff (hs : g.Stores part b 0 h clamped) :
    h.station = some ⟨min 4095 (max 0 (fieldAt b 0 2)), min 31 (max 0 (fieldAt b 2 1))⟩
      ∧ (clamped = true ↔ 4095 < fieldAt b 0 2 ∨ 31 < fieldAt b 2 1) := by
  cases hs
  case station => 
    refine ⟨rfl, ?_⟩
    simp [readStation, clampNat]
  case matrix h => omega

theorem clampNat_eq_iff {lo hi v : Nat} (h : lo ≤ hi) : clampNat lo hi v = v ↔ lo ≤ v ∧ v ≤ hi := by
  unfold clampNat
  omega

/-- A list with one value of each item changed is the same list when no value has changed. -/
theorem map_range_eq_iff {α : Type} (f k : Nat → α) (n : Nat) : (List.range n).map f = (List.range n).map k ↔ ∀ i < n, f i = k i := by
  rw [List.map_inj_left]
  simp

theorem Stage.Stores.bands_iff (hs : g.Stores part b 9 h clamped) :
    h.bands = some ⟨(List.range (fieldAt b 0 1)).map fun k =>
        ⟨fieldAt b (1 + 5 * k) 3, min 4000 (max 100 (fieldAt b (4 + 5 * k) 2))⟩,
        min (fieldAt b 0 1 - 1) (max 0 (fieldAt b (1 + 5 * fieldAt b 0 1) 1))⟩
      ∧ (clamped = true ↔ fieldAt b 0 1 ≤ fieldAt b (1 + 5 * fieldAt b 0 1) 1
        ∨ ∃ k < fieldAt b 0 1, fieldAt b (4 + 5 * k) 2 < 100 ∨ 4000 < fieldAt b (4 + 5 * k) 2) := by
  cases hs
  case bands hp seg hseg =>
    rw [readBands_eq] at hseg
    split at hseg
    case isFalse => cases hseg
    case isTrue hok =>
      have hsome := ((bandsWellFormed_arrived b).mp hok.2).1
      simp only [Option.some.injEq, Prod.mk.injEq] at hseg
      obtain ⟨rfl, rfl⟩ := hseg
      refine ⟨?_, ?_⟩
      · simp only [arrivedBands, List.map_map]
        rfl
      · simp only [arrivedBands, List.map_map, decide_eq_true_eq, ne_eq, BandsSeg.mk.injEq, map_range_eq_iff, Function.comp_apply,
          Band.mk.injEq, true_and, clampNat_eq_iff (show 100 ≤ 4000 by omega), clampNat_eq_iff (Nat.zero_le _), Nat.zero_le, not_and_or,
          not_forall, not_le]
        constructor
        · rintro (⟨k, hk, hbad⟩ | hbad)
          · exact .inr ⟨k, hk, hbad⟩
          · exact .inl (by omega)
        · rintro (hbad | ⟨k, hk, hbad⟩)
          · exact .inr (by omega)
          · exact .inl ⟨k, hk, hbad⟩
  case matrix h => omega

/-- Section 11.5: the class rows as they arrive. -/
theorem arrivedClasses_eq (b : List Byte) :
    (pieces 4 8 b).map (fun x => (⟨fieldAt x 0 2, fieldAt x 2 2⟩ : ClassRow)) =
      (List.range 8).map fun k => ⟨fieldAt b (4 * k) 2, fieldAt b (4 * k + 2) 2⟩ := by
  rw [pieces_eq, List.map_map]
  refine List.map_congr_left fun k _ => ?_
  have hfactor := fieldAt_piece (i := 0) (m := 2) (size := 4) (4 * k) b (by omega)
  have hcap := fieldAt_piece (i := 2) (m := 2) (size := 4) (4 * k) b (by omega)
  simp only [Function.comp_apply, hfactor, hcap, Nat.add_zero]

theorem Stage.Stores.classes_iff (hs : g.Stores part b 10 h clamped) :
    h.classes = some ((List.range 8).map fun k => ⟨min 1000 (max 0 (fieldAt b (4 * k) 2)), fieldAt b (4 * k + 2) 2⟩)
      ∧ (clamped = true ↔ ∃ k < 8, 1000 < fieldAt b (4 * k) 2) := by
  cases hs
  case classes =>
    simp only [readClasses, arrivedClasses_eq, List.map_map]
    refine ⟨rfl, ?_⟩
    simp only [decide_eq_true_eq, ne_eq, map_range_eq_iff, Function.comp_apply, ClassRow.mk.injEq, and_true,
      clampNat_eq_iff (show 0 ≤ 1000 by omega), Nat.zero_le, true_and, not_forall, not_le, exists_prop]
  case matrix h => omega

theorem Stage.Stores.rules_iff (hs : g.Stores part b 11 h clamped) :
    h.rules = some
        { transferWindow := min 7200 (max 0 (fieldAt b 0 2)), transferDiscount := fieldAt b 2 2
          minEntryBalance := min 65535 (max (-50000) (ofBeSigned ((b.drop 4).take 3)))
          overdraft := min 50000 (max 0 (fieldAt b 7 2)), maxFare := fieldAt b 9 2
          unclosedCharge := fieldAt b 11 2, sameStationCharge := fieldAt b 13 2
          sameStationWindow := min 7200 (max 0 (fieldAt b 15 2))
          maxTrip := min 86399 (max 60 (fieldAt b 17 3)), fareStep := min 100 (max 1 (fieldAt b 20 1)) }
      ∧ (clamped = true ↔ 7200 < fieldAt b 0 2 ∨ ofBeSigned ((b.drop 4).take 3) < -50000 ∨ 65535 < ofBeSigned ((b.drop 4).take 3)
        ∨ 50000 < fieldAt b 7 2 ∨ 7200 < fieldAt b 15 2 ∨ fieldAt b 17 3 < 60 ∨ 86399 < fieldAt b 17 3 ∨ fieldAt b 20 1 < 1
        ∨ 100 < fieldAt b 20 1) := by
  have hleast : clampInt (-50000) 65535 (ofBeSigned ((b.drop 4).take 3)) = min 65535 (max (-50000) (ofBeSigned ((b.drop 4).take 3))) := by
    unfold clampInt
    repeat' split
    all_goals omega
  cases hs
  case rules =>
    simp only [readRules, hleast]
    refine ⟨rfl, ?_⟩
    simp only [decide_eq_true_eq, ne_eq, RulesSeg.mk.injEq, true_and, clampNat_eq_iff (show 0 ≤ 7200 by omega),
      clampNat_eq_iff (show 0 ≤ 50000 by omega), clampNat_eq_iff (show 60 ≤ 86399 by omega), clampNat_eq_iff (show 1 ≤ 100 by omega)]
    omega
  case matrix h => omega

theorem Stage.Stores.check_iff (hs : g.Stores part b 12 h clamped) : clamped = false ∧ h.check = some (fieldAt b 0 2) := by
  cases hs
  case check => exact ⟨rfl, rfl⟩
  case matrix h => omega

theorem Stage.Stores.matrix_iff (hs : g.Stores part b segment h clamped) (hlow : 1 ≤ segment) (hhigh : segment ≤ 8) :
    clamped = false ∧ (2 * (segment - 1) + part < g.parts.length →
      h.parts[2 * (segment - 1) + part]? = some (some ((List.range 64).map fun i => fieldAt b (2 * i) 2))) := by
  cases hs
  case matrix =>
    refine ⟨rfl, fun hin => ?_⟩
    rw [List.getElem?_set_self hin, pieces_eq, List.map_map]
    rfl
  all_goals omega

/-- Settles O27. -/
theorem stageLoadStoresItsSegmentAlone : Obligations.StageLoadStoresItsSegmentAlone := by
  refine ⟨fun a tag bankTag segment part values s hw h => ?answers, fun g segment part b => ?passes, fun g h segment part b clamped hs => ?stored⟩
  case answers =>
    intro answer run
    have hanswered (x : Status × State) (hx : stageLoaded bankTag segment.toNat part.toNat values (s.onArrival a.port) = x)
        (hl : x.2.line = (s.onArrival a.port).line) :
        exec (.stageLoad a tag bankTag segment part values) s =
          .next (follow { x.2 with line := s.line.answered s.params a.port ⟨6, tag, x.1, .nothing⟩ false }) := by
      have hrun : execute (.stageLoad bankTag segment part values) (s.onArrival a.port) = bare x := congrArg bare hx
      have hreply := exec_lineCommand_answered (.stageLoad bankTag segment part values) rfl hw h nofun hrun hl
      exact hreply
    refine ⟨fun hstate => ?_, fun hstate htag => ?_, fun hstate htag hnone => ?_, fun g clamped hstate htag hsome => ?_⟩
    · exact hanswered (.refusedState, s.onArrival a.port) (if_pos hstate) rfl
    · exact hanswered (.refusedValue, s.onArrival a.port) ((if_neg (not_not.mpr hstate)).trans (if_pos htag)) rfl
    · refine hanswered (.refusedValue, s.onArrival a.port) ((if_neg (not_not.mpr hstate)).trans ((if_neg (not_not.mpr htag)).trans ?_)) rfl
      simp only [State.onArrival, hnone]
    · refine hanswered (if clamped then .clamped else .done, (s.onArrival a.port).onTariff fun t => { t with stage := g })
        ((if_neg (not_not.mpr hstate)).trans ((if_neg (not_not.mpr htag)).trans ?_)) rfl
      simp only [State.onArrival, hsome]
  case passes =>
    have hbands : (readBands b).isSome = true ↔ b.length = 2 + 5 * fieldAt b 0 1 ∧ bandsWellFormed (arrivedBands b) = true := by
      rw [readBands_eq]
      split <;> simp_all
    rw [Stage.store_isSome, hbands, bandsWellFormed_arrived]
    have horder : (segment = 9 ∧ b.length = 2 + 5 * fieldAt b 0 1 ∧ 1 ≤ fieldAt b 0 1 ∧ fieldAt b 0 1 ≤ 4
          ∧ (∀ k < fieldAt b 0 1, fieldAt b (1 + 5 * k) 3 ≤ 86399)
          ∧ ∀ k, k + 1 < fieldAt b 0 1 → fieldAt b (1 + 5 * k) 3 < fieldAt b (1 + 5 * (k + 1)) 3) ↔
        (segment = 9 ∧ 1 ≤ fieldAt b 0 1 ∧ fieldAt b 0 1 ≤ 4 ∧ b.length = 2 + 5 * fieldAt b 0 1
          ∧ (∀ k < fieldAt b 0 1, fieldAt b (1 + 5 * k) 3 ≤ 86399)
          ∧ ∀ k, k + 1 < fieldAt b 0 1 → fieldAt b (1 + 5 * k) 3 < fieldAt b (1 + 5 * (k + 1)) 3) :=
      ⟨fun ⟨hs, hlen, hlow, hhigh, hrest⟩ => ⟨hs, hlow, hhigh, hlen, hrest⟩, fun ⟨hs, hlow, hhigh, hlen, hrest⟩ => ⟨hs, hlen, hlow, hhigh, hrest⟩⟩
    rw [horder]
  case stored =>
    intro v within
    have hstores := Stage.store_eq_some hs
    obtain ⟨hstate, htag, hparts, hstation, hbands, hclasses, hrules, hcheck, helse⟩ := hstores.frame
    obtain ⟨hothers, hown⟩ := hstores.loaded
    simp only [Stage.loaded_getD]
    refine ⟨hstate, htag, hparts, hstation, hbands, hclasses, hrules, hcheck, helse, hothers, hown, fun k hlow hhigh => ?_,
      fun h0 => ?_, fun hlow hhigh => hstores.matrix_iff hlow hhigh, fun h9 => ?_, fun h10 => ?_, fun h11 => ?_, fun h12 => ?_⟩
    · have hfirst : 2 * (k - 1) = 2 * k - 2 := by omega
      have hsecond : 2 * (k - 1) + 1 = 2 * k - 1 := by omega
      rw [Stage.segmentLoaded_of_matrix _ hlow hhigh, Stage.matrixLoaded, hsecond, hfirst, Bool.and_eq_true]
    · subst h0
      exact hstores.station_iff
    · subst h9
      exact hstores.bands_iff
    · subst h10
      exact hstores.classes_iff
    · subst h11
      exact hstores.rules_iff
    · subst h12
      exact hstores.check_iff

end Sys2Proof.Machine

/-! PROOFS. The reckoning (chapter 3). -/

namespace Sys2Proof.Machine

open Sys2Proof

variable {b : Bank} {i : Image} {c : Clock} {k : Intended} {amount : Nat} {e : TripEntry}

/-! ### What a reckoning answers -/

/-- R57: an entry that is taken leaves the balance within the overdraft, and above the least balance of a card that pays. -/
theorem entryRefused_eq_false {k : Nat} {after : Int} (h : entryRefused b k after = false) :
    -(b.rules.overdraft : Int) ≤ after ∧ (k ≠ 7 → b.rules.minEntryBalance ≤ after) := by
  simp only [entryRefused, Bool.or_eq_false_iff, Bool.and_eq_false_iff, decide_eq_false_iff_not, not_lt, ne_eq, not_not] at h
  exact ⟨h.2, fun hk => h.1.resolve_left hk⟩

theorem entryContents_length (b : Bank) (i : Image) (charge : Nat) (stale : Bool) :
    1 ≤ (entryContents b i charge stale).length ∧ (entryContents b i charge stale).length ≤ 2 := by
  unfold entryContents
  split <;> simp

/-- R56 to R59: an entry that is taken. -/
theorem reckonEntry_taken (h : reckonEntry b i c = .taken k) :
    k.balance = i.balance - k.amount ∧ -(b.rules.overdraft : Int) ≤ k.balance ∧ k.bankTag = b.tag
      ∧ (k.cls = 7 → k.amount = 0) ∧ 1 ≤ k.contents.length ∧ k.contents.length ≤ 2
      ∧ (k.lastExit = i.lastExit ∧ k.dailySpent = i.dailySpent ∧ ∃ band,
        k.entry = some ⟨b.station.stationCode, b.station.fareGroup, c.reading.date, c.reading.secs, band⟩)
      ∧ (k.cls ≠ 7 → b.rules.minEntryBalance ≤ k.balance) := by
  by_cases hbad : entryRefused b (classInEffect i c.reading.date) (i.balance - entryCharge b i (classInEffect i c.reading.date)) = true
  · cases (if_pos hbad).symm.trans h
  · cases (if_neg hbad).symm.trans h
    obtain ⟨hover, hleast⟩ := entryRefused_eq_false (by simpa using hbad)
    obtain ⟨hone, htwo⟩ := entryContents_length b i (entryCharge b i (classInEffect i c.reading.date)) (c.state != .good)
    exact ⟨rfl, hover, rfl, fun hk => if_pos (.inr hk), hone, htwo, ⟨rfl, rfl, _, rfl⟩, hleast⟩

/-- R60 to R70: an exit that is taken. -/
theorem reckonExit_taken (h : reckonExit b i c = .taken k) :
    k.balance = i.balance - k.amount ∧ -(b.rules.overdraft : Int) ≤ k.balance ∧ k.bankTag = b.tag
      ∧ (k.cls = 7 → k.amount = 0) ∧ 1 ≤ k.contents.length ∧ k.contents.length ≤ 2
      ∧ (k.entry = none ∧ k.lastExit = some c.reading) := by
  by_cases hbad : i.balance - exitAmount b i c.reading (classInEffect i c.reading.date) < -(b.rules.overdraft : Int)
  · cases (if_pos hbad).symm.trans h
  · cases (if_neg hbad).symm.trans h
    exact ⟨rfl, not_lt.mp hbad, rfl, fun hk => if_pos hk, by simp, by simp, rfl, rfl⟩

theorem reckonEntry_insufficient (h : reckonEntry b i c = .insufficient amount) :
    i.balance - amount < -(b.rules.overdraft : Int) ∨ i.balance - amount < b.rules.minEntryBalance := by
  by_cases hbad : entryRefused b (classInEffect i c.reading.date) (i.balance - entryCharge b i (classInEffect i c.reading.date)) = true
  · cases (if_pos hbad).symm.trans h
    simp only [entryRefused, Bool.or_eq_true, Bool.and_eq_true, decide_eq_true_eq] at hbad
    exact hbad.symm.imp id And.right
  · cases (if_neg hbad).symm.trans h

theorem reckonExit_insufficient (h : reckonExit b i c = .insufficient amount) : i.balance - amount < -(b.rules.overdraft : Int) := by
  by_cases hbad : i.balance - exitAmount b i c.reading (classInEffect i c.reading.date) < -(b.rules.overdraft : Int)
  · cases (if_pos hbad).symm.trans h
    exact hbad
  · cases (if_neg hbad).symm.trans h

/-! ### The regular fare -/

/-- R66: what the daily cap leaves. -/
theorem capStage_eq (r cap spent : Nat) : capStage r cap spent = if cap = 0 then r else min r (cap - spent) := by
  unfold capStage
  repeat' split
  all_goals omega

/-- R60 to R66: the amount of a regular exit. -/
theorem exitAmount_regular {now : ServiceTime} (he : i.entry = some e) (hk : classInEffect i now.date ≠ 7)
    (hkind : exitKind b i now = .regular) :
    exitAmount b i now (classInEffect i now.date) =
      capStage (steppedFare b i e (classInEffect i now.date)) (b.classRow (classInEffect i now.date)).cap (spentToday i now.date) := by
  simp only [exitAmount, staffClass, if_neg hk, hkind, he]

theorem exitKind_regular {now : ServiceTime} (he : i.entry = some e) (htrip : now.absolute - (e.date * 86400 + e.secs) ≤ b.rules.maxTrip)
    (hother : ¬(e.station = b.station.stationCode ∧ now.absolute - (e.date * 86400 + e.secs) ≤ b.rules.sameStationWindow)) :
    exitKind b i now = .regular := by
  have htrip' : ¬b.rules.maxTrip < elapsedSince now e.time := Nat.not_lt.mpr htrip
  rw [exitKind, he]
  exact (if_neg htrip').trans (if_neg hother)

/-- Settles O54. -/
theorem fareIsReckoned : Obligations.FareIsReckoned := by
  refine ⟨fun d b i c k h => ?taken, fun d b i c amount h => ?insufficient, fun b i c e he hk htrip hother => ?regular⟩
  case taken =>
    cases d with
    | inbound =>
      obtain ⟨hbalance, hover, htag, hstaff, hone, htwo, hentry, hleast⟩ := reckonEntry_taken h
      exact ⟨hbalance, hover, htag, hstaff, hone, htwo, nofun, fun _ => hentry, fun _ => hleast⟩
    | outbound =>
      obtain ⟨hbalance, hover, htag, hstaff, hone, htwo, hexit⟩ := reckonExit_taken h
      exact ⟨hbalance, hover, htag, hstaff, hone, htwo, fun _ => hexit, nofun, nofun⟩
  case insufficient =>
    cases d with
    | inbound => exact (reckonEntry_insufficient h).imp id fun hleast => ⟨rfl, hleast⟩
    | outbound => exact .inl (reckonExit_insufficient h)
  case regular =>
    intro row base banded classed discount step stepped rounded spent fare
    have hkind := exitKind_regular he htrip hother
    have hfare : exitAmount b i c.reading (classInEffect i c.reading.date) = fare := by
      rw [exitAmount_regular he hk hkind, capStage_eq]
      rfl
    refine ⟨fun hshort => ?_, fun henough => ?_⟩
    · rw [reckon, reckonExit]
      rw [hfare, if_pos hshort]
    · rw [reckon, reckonExit]
      rw [hfare, if_neg (not_lt.mpr henough)]
      exact ⟨_, rfl, rfl, hkind, if_pos hkind, if_pos hkind⟩

end Sys2Proof.Machine

/-! PROOFS. Card standing (chapter 2): sightings and suspects received, and recovery entries that expire. -/

namespace Sys2Proof.Machine

open Sys2Proof

variable {a : Arrival} {kind : Byte} {payload : List Byte} {s : State}

/-! ### Recovery -/

/-- Settles O37. -/
theorem expiredRecoveryIsUnresolved : Obligations.ExpiredRecoveryIsUnresolved := by
  intro cardId e s hr hcard he hover
  obtain ⟨hrecords, -, -⟩ := appendRecord_grown (s := s) (c := unresolvedContent e .expired)
    (take := fun j => { j with held := j.held - 1 }) rfl rfl rfl
  obtain ⟨-, hheld, hreserved⟩ := appendRecord_used (fun j => { j with held := j.held - 1 }) (unresolvedContent e .expired) s
  have hjournal : (follow (resolveUnresolved e .expired s)).journal = (appendHeld (unresolvedContent e .expired) s).journal := by
    simp [resolveUnresolved]
  refine ⟨follow (resolveUnresolved e .expired s), ?_, by simp [resolveUnresolved, removeRecovery], by rw [hjournal]; exact hrecords,
    by rw [hjournal]; exact hheld, by rw [hjournal]; exact hreserved, by simp, by simp, by simp, by simp, by simp, by simp, by simp,
    by simp⟩
  rw [exec_recoveryExpiry]
  refine effect_some (by simpa [Instr.wf, fits] using hcard) hr ?_
  simp [he, hover]

/-! ### A SIGHT or SUSPECT handed to the part -/

theorem parseBody_sight {x : SightPayload} (h : x.wf = true) : parseBody 18 (SightPayload.bytes x) = .sight x := by
  simp only [SightPayload.wf, Bool.and_eq_true] at h
  obtain ⟨⟨⟨⟨hcard, hcounter⟩, hbalance⟩, hdate⟩, hsecs⟩ := h
  have hread := ofBeSigned_beSigned hbalance
  simp [parseBody, SightPayload.bytes, fieldAt_be_append, fieldAt_be, fieldAt_be_alone, fieldAt_beSigned_append, drop_be_append,
    fieldAt_cons_one, fieldAt_cons_succ, *]

theorem parseBody_suspect {x : SuspectPayload} (h : x.wf = true) : parseBody 19 (SuspectPayload.bytes x) = .suspect x := by
  simp only [SuspectPayload.wf, Bool.and_eq_true] at h
  obtain ⟨⟨hcard, hdate⟩, hsecs⟩ := h
  simp [parseBody, SuspectPayload.bytes, fieldAt_be_append, fieldAt_be, fieldAt_be_alone, fieldAt_cons_one, fieldAt_cons_succ, *]

/-- R168, R169: a SIGHT or SUSPECT takes effect, addressed or as a broadcast, and its buffer goes on or is free. -/
theorem arrive_handedOver {act : State → State} (hk : kind ≠ 0) (h : s.canTake a)
    (hbroadcast : ∀ f t, f.kind = kind → f.payload = payload → actOnBroadcast f t = act t)
    (haddressed : ∀ p f t, f.kind = kind → f.payload = payload → takeAddressed p f t = freeReception p (act t)) :
    arrive a kind payload s = some ((act (s.onArrival a.port)).onLine (LineIf.handedOver a kind payload)) := by
  obtain ⟨hreceive, haddress⟩ := h
  have harr := arriving_eq (s := s) (a := a) (kind := kind) (payload := payload) fun e => (haddress e).1
  rw [arrive_of_canReceive hreceive harr]
  cases hb : a.broadcast with
  | true =>
    rw [goodFrame_broadcast hk rfl, takeBroadcast_eq rfl, hbroadcast _ _ rfl rfl]
    refine congrArg some (congrArg (fun l => { act (s.onArrival a.port) with line := l }) ?_)
    by_cases hgoes : 0 < a.hops ∧ (act (s.onArrival a.port)).line.link.get (otherLine a.port) = true
    · exact (congrArg LineIf.setHold ((if_pos hgoes).trans (if_pos ⟨hb, hgoes⟩).symm))
    · exact congrArg LineIf.setHold ((if_neg hgoes).trans (if_neg fun h => hgoes h.2).symm)
  | false =>
    obtain ⟨hlow, hhigh⟩ := haddress hb
    have hdest : (byte s.line.address).toNat = s.line.address := toNat_byte (by omega)
    have hother : byte s.line.address ≠ broadcastDest := fun e => by
      have : s.line.address = 63 := by rw [← hdest, e]; rfl
      omega
    have hset : s.line.address ≠ 0 := by omega
    rw [goodFrame_addressed _ _ _ hk (by simpa using hother) (by simp [LineIf.addressed, LineIf.taking, hdest, hset]),
      haddressed _ _ _ rfl rfl]
    refine congrArg some (congrArg (fun l => { act (s.onArrival a.port) with line := l }) ?_)
    exact congrArg LineIf.setHold (if_neg fun h => by simp [hb] at h).symm

theorem exec_sight_handed {x : SightPayload} (hw : (Instr.sight a x).wf = true) (h : s.canTake a) :
    exec (.sight a x) s =
      .next (follow ((takeSight x (s.onArrival a.port)).onLine (LineIf.handedOver a 18 (SightPayload.bytes x)))) := by
  have hparse := parseBody_sight ((Bool.and_eq_true ..).mp hw).2
  rw [exec_sight]
  refine effect_some hw h.1.1 (arrive_handedOver (by decide) h (fun f t hk hp => ?_) fun p f t hk hp => ?_)
  · rw [actOnBroadcast, hk, hp, show kindSight = 18 from rfl]
    simp only [hparse]
  · rw [takeAddressed, hk, hp, show kindSight = 18 from rfl]
    simp only [hparse]

theorem exec_suspect_handed {x : SuspectPayload} (hw : (Instr.suspect a x).wf = true) (h : s.canTake a) :
    exec (.suspect a x) s =
      .next (follow ((takeSuspect x (s.onArrival a.port)).onLine (LineIf.handedOver a 19 (SuspectPayload.bytes x)))) := by
  have hparse := parseBody_suspect ((Bool.and_eq_true ..).mp hw).2
  rw [exec_suspect]
  refine effect_some hw h.1.1 (arrive_handedOver (by decide) h (fun f t hk hp => ?_) fun p f t hk hp => ?_)
  · rw [actOnBroadcast, hk, hp, show kindSuspect = 19 from rfl]
    simp only [hparse]
  · rw [takeAddressed, hk, hp, show kindSuspect = 19 from rfl]
    simp only [hparse]

/-! ### The table as a received record meets it -/

/-- R32: the record of a card whose record has aged out counts as absent. -/
theorem State.agedOut_iff (r : Sighting) : s.agedOut r = true ↔ s.tooOld r.time := by
  simp only [State.agedOut, State.age, State.tooOld, elapsedSince]
  by_cases h : s.clock.state = .unset
  · simp [h]
  · simp [h]

theorem State.sighting_congr {t : State} (h : t.standing.sightings = s.standing.sightings) (cardId : Nat) :
    t.sighting cardId = s.sighting cardId := by rw [State.sighting, h, State.sighting]

/-- R33: with room a record enters under its card, and every other card keeps its record. -/
theorem findBy_enterSighting_of_room (r : Sighting) {l : List Sighting}
    (h : (findBy Sighting.cardId r.cardId l).isSome = true ∨ l.length < 1024) (c : Nat) :
    findBy Sighting.cardId c (enterSighting r l) = if c = r.cardId then some r else findBy Sighting.cardId c l := by
  rw [enterSighting, if_pos h, findBy_putBy]

/-- R31: of two records the one with the earlier time, and of one time the one with the smaller CardId. -/
def Sighting.notAfter (x y : Sighting) : Prop :=
  x.time.absolute < y.time.absolute ∨ (x.time.absolute = y.time.absolute ∧ x.cardId ≤ y.cardId)

theorem Sighting.notAfter_refl (x : Sighting) : x.notAfter x := .inr ⟨rfl, le_rfl⟩

theorem Sighting.notAfter_trans {x y z : Sighting} (h : x.notAfter y) (h' : y.notAfter z) : x.notAfter z := by
  unfold Sighting.notAfter at *
  omega

theorem olderOf_notAfter (x y : Sighting) : (olderOf x y).notAfter x ∧ (olderOf x y).notAfter y := by
  unfold olderOf Sighting.notAfter
  split <;> omega

theorem olderOf_mem (x y : Sighting) : olderOf x y = x ∨ olderOf x y = y := by
  unfold olderOf
  split <;> simp

/-- R31: the oldest of records is one of them, and none is before it. -/
theorem foldl_olderOf (x : Sighting) (l : List Sighting) :
    l.foldl olderOf x ∈ x :: l ∧ ∀ y ∈ x :: l, (l.foldl olderOf x).notAfter y := by
  induction l generalizing x with
  | nil => simp [Sighting.notAfter_refl]
  | cons z zs ih =>
    obtain ⟨hmem, hleast⟩ := ih (olderOf x z)
    obtain ⟨hx, hz⟩ := olderOf_notAfter x z
    have hfirst := hleast _ List.mem_cons_self
    refine ⟨?_, fun y hy => ?_⟩
    · obtain hmem | hmem := List.mem_cons.mp hmem
      · obtain h | h := olderOf_mem x z
        · exact List.mem_cons.mpr (.inl (hmem.trans h))
        · exact List.mem_cons.mpr (.inr (List.mem_cons.mpr (.inl (hmem.trans h))))
      · exact List.mem_cons_of_mem _ (List.mem_cons_of_mem _ hmem)
    · obtain rfl | hy := List.mem_cons.mp hy
      · exact Sighting.notAfter_trans hfirst hx
      · obtain rfl | hy := List.mem_cons.mp hy
        · exact Sighting.notAfter_trans hfirst hz
        · exact hleast y (List.mem_cons_of_mem _ hy)

theorem oldestSighting_spec {l : List Sighting} (h : l ≠ []) :
    ∃ o, oldestSighting l = some o ∧ o ∈ l ∧ ∀ y ∈ l, o.notAfter y := by
  obtain ⟨x, xs, rfl⟩ := List.exists_cons_of_ne_nil h
  obtain ⟨hmem, hleast⟩ := foldl_olderOf x xs
  exact ⟨_, rfl, hmem, hleast⟩

/-- R33: a full table makes room for a new card by evicting its oldest record. -/
theorem findBy_enterSighting_of_full {r : Sighting} {l : List Sighting} (h : findBy Sighting.cardId r.cardId l = none)
    (hfull : 1024 ≤ l.length) : ∃ o ∈ l, (∀ y ∈ l, o.notAfter y)
      ∧ ∀ c, findBy Sighting.cardId c (enterSighting r l) =
        if c = r.cardId then some r else if c = o.cardId then none else findBy Sighting.cardId c l := by
  obtain ⟨o, ho, hmem, hleast⟩ := oldestSighting_spec (l := l) (by rintro rfl; simp at hfull)
  refine ⟨o, hmem, hleast, fun c => ?_⟩
  have hnot : ¬((findBy Sighting.cardId r.cardId l).isSome = true ∨ l.length < 1024) := by
    rw [h]
    simpa using hfull
  rw [enterSighting, if_neg hnot, ho]
  simp only [findBy_putBy, findBy_dropBy]

/-- R36: a received record older than the horizon. -/
theorem mergeSighting_tooOld {r : Sighting} (h : s.tooOld r.time) : mergeSighting r s = s :=
  if_pos (State.agedOut_iff r |>.mpr h)

theorem mergeSighting_of_not_tooOld {r : Sighting} (h : ¬s.tooOld r.time) : mergeSighting r s =
    match (touch r.cardId s).sighting r.cardId with
    | none =>
      if lostSighting r (touch r.cardId s).standing.sightings then touch r.cardId s else writeSighting r (touch r.cardId s)
    | some x =>
      if x.counter < r.counter then writeSighting r (touch r.cardId s)
      else if r.counter < x.counter then touch r.cardId s
      else if r.balance = x.balance then
        writeSighting { x with time := r.time, gate := r.gate, kind := r.kind } (touch r.cardId s)
      else sightConflict r (touch r.cardId s) := if_neg (by rwa [State.agedOut_iff])

/-- R36: a card without a record that stands. -/
theorem mergeSighting_of_absent {r : Sighting} (h : ¬s.tooOld r.time) (hr : (touch r.cardId s).sighting r.cardId = none) :
    mergeSighting r s =
      if lostSighting r (touch r.cardId s).standing.sightings then touch r.cardId s else writeSighting r (touch r.cardId s) := by
  rw [mergeSighting_of_not_tooOld h]
  simp only [hr]

theorem mergeSighting_of_stands {r y : Sighting} (h : ¬s.tooOld r.time) (hy : s.stands r.cardId y) :
    mergeSighting r s =
      if y.counter < r.counter then writeSighting r s
      else if r.counter < y.counter then s
      else if r.balance = y.balance then writeSighting { y with time := r.time, gate := r.gate, kind := r.kind } s
      else sightConflict r s := by
  rw [mergeSighting_of_not_tooOld h, touch_of_stands hy]
  simp only [hy.1]

theorem lostSighting_iff (r : Sighting) (l : List Sighting) :
    lostSighting r l = true ↔ 1024 ≤ l.length ∧ ∀ y ∈ l, r.time.absolute < y.time.absolute := by
  simp [lostSighting, Config.sightingCapacity]


theorem lostSighting_eq_false {r : Sighting} {l : List Sighting} (h : l.length < 1024) : lostSighting r l = false := by
  rw [Bool.eq_false_iff, Ne, lostSighting_iff]
  omega

theorem sightAccepted_eq {x : SightPayload} {k : SightKind} (hw : x.wf = true) (hlow : 1 ≤ x.cardId) (hhigh : x.cardId < 2 ^ 40 - 1)
    (hmin : -50000 ≤ x.balance) (hmax : x.balance ≤ 500000)
    (hkind : (x.kind.toNat = 0 ∧ k = .entered) ∨ (x.kind.toNat = 1 ∧ k = .exited) ∨ (x.kind.toNat = 4 ∧ k = .torn)) :
    sightAccepted x = some ⟨x.cardId, x.counter, x.balance, k, x.gate.toNat, ⟨x.date, x.secs⟩⟩ := by
  have hcounter : x.counter ≤ 65535 := by
    simp only [SightPayload.wf, Bool.and_eq_true, fits, decide_eq_true_eq] at hw
    omega
  have hcard : namesCard x.cardId = true := by
    simp only [namesCard, Config.noCard, Bool.and_eq_true, decide_eq_true_eq]
    omega
  obtain ⟨hk, rfl⟩ | ⟨hk, rfl⟩ | ⟨hk, rfl⟩ := hkind
  all_goals simp [sightAccepted, hk, hcard, hcounter, hmin, hmax]

/-- R37: what a conflict of two sightings leaves. -/
theorem sightConflict_journal (r : Sighting) (s : State) :
    (sightConflict r s).journal =
      (appendReserve (cloneContent none r.cardId .sightConflict r.counter r.balance) (addFound .localPart r.cardId s)).journal := by
  simp [sightConflict]

theorem sightConflict_standing (r : Sighting) (s : State) :
    (sightConflict r s).standing = (addFound .localPart r.cardId s).standing := by simp [sightConflict]

theorem addFound_of_denied {o : DenyOrigin} {cardId : Nat} (h : (s.denied cardId).isSome = true) : addFound o cardId s = s := if_pos h

theorem addFound_of_full {o : DenyOrigin} {cardId : Nat} (h : s.denied cardId = none) (hfull : 4096 ≤ s.standing.deny.length) :
    addFound o cardId s = setDenyFull s := by
  rw [addFound, if_neg (by simp [h]), if_neg (by simpa [Config.denyCapacity] using hfull)]

theorem addFound_of_room {o : DenyOrigin} {cardId : Nat} (h : s.denied cardId = none) (hroom : s.standing.deny.length < 4096) :
    addFound o cardId s = { s with standing :=
      { s.standing with deny := putBy DenyEntry.cardId ⟨cardId, .clone, o, s.foundAction⟩ s.standing.deny } } := by
  rw [addFound, if_neg (by simp [h]), if_pos hroom, State.onStanding]

/-- R30: the deny entry of a card after the part has found it. -/
theorem denied_addFound (o : DenyOrigin) (cardId : Nat) (s : State) : (addFound o cardId s).denied cardId =
    match s.denied cardId with
    | some e => some e
    | none => if s.standing.deny.length < 4096 then some ⟨cardId, .clone, o, s.foundAction⟩ else none := by
  cases h : s.denied cardId with
  | some e => rw [addFound_of_denied (by simp [h]), h]
  | none =>
    by_cases hroom : s.standing.deny.length < 4096
    · rw [addFound_of_room h hroom]
      simp only [State.denied, findBy_putBy, if_true, if_pos hroom]
    · rw [addFound_of_full h (Nat.not_lt.mp hroom), if_neg hroom]
      exact h

theorem addFound_sightings (o : DenyOrigin) (cardId : Nat) (s : State) :
    (addFound o cardId s).standing.sightings = s.standing.sightings := by
  unfold addFound
  repeat' split
  all_goals rfl

/-- R33, R36: with room, a record takes the place that is free or that a record aged out leaves. -/
theorem mergeSighting_enters {r : Sighting} (h : ¬s.tooOld r.time)
    (hroom : (s.sighting r.cardId = none ∧ s.standing.sightings.length < 1024)
      ∨ ∃ y, s.sighting r.cardId = some y ∧ s.tooOld y.time ∧ s.standing.sightings.length ≤ 1024) :
    ∃ l, mergeSighting r s = { s with standing := { s.standing with sightings := l } }
      ∧ ∀ c, findBy Sighting.cardId c l = if c = r.cardId then some r else s.sighting c := by
  obtain ⟨habsent, hlen⟩ | ⟨y, hy, hold, hlen⟩ := hroom
  · refine ⟨enterSighting r s.standing.sightings, ?_, findBy_enterSighting_of_room r (.inr hlen)⟩
    rw [mergeSighting_of_absent h (by rwa [touch_of_absent habsent]), touch_of_absent habsent, lostSighting_eq_false hlen]
    rfl
  · have htouch : touch r.cardId s =
        { s with standing := { s.standing with sightings := dropBy Sighting.cardId r.cardId s.standing.sightings } } := by
      simp only [touch, hy, (State.agedOut_iff y).mpr hold, if_true, State.onStanding]
    have hdrop : (dropBy Sighting.cardId r.cardId s.standing.sightings).length < 1024 := by
      have hlt := length_dropBy_lt Sighting.cardId (List.mem_of_find?_eq_some hy)
      rw [State.sighting_cardId hy] at hlt
      omega
    have hgone : (touch r.cardId s).sighting r.cardId = none := by
      rw [htouch]
      simp only [State.sighting, findBy_dropBy, if_true]
    refine ⟨enterSighting r (dropBy Sighting.cardId r.cardId s.standing.sightings), ?_, fun c => ?_⟩
    · rw [mergeSighting_of_absent h hgone, htouch, if_neg (by simpa using lostSighting_eq_false hdrop)]
      rfl
    · rw [findBy_enterSighting_of_room r (.inr hdrop), findBy_dropBy]
      by_cases hc : c = r.cardId
      · simp [hc]
      · simp [hc, State.sighting]

theorem addFound_clock (o : DenyOrigin) (cardId : Nat) (s : State) : (addFound o cardId s).mgmt.clock = s.mgmt.clock := by
  unfold addFound
  repeat' split
  all_goals rfl

/-- R36: a full table does not take a record that is older than all of its own. -/
theorem mergeSighting_lost {r : Sighting} (h : ¬s.tooOld r.time) (habsent : s.sighting r.cardId = none)
    (hfull : 1024 ≤ s.standing.sightings.length) (hlost : ∀ y ∈ s.standing.sightings, r.time.absolute < y.time.absolute) :
    mergeSighting r s = s := by
  rw [mergeSighting_of_absent h (by rwa [touch_of_absent habsent]), touch_of_absent habsent]
  exact if_pos ((lostSighting_iff r _).mpr ⟨hfull, hlost⟩)

theorem mergeSighting_evicts {r : Sighting} (h : ¬s.tooOld r.time) (habsent : s.sighting r.cardId = none)
    (hlater : ∃ y ∈ s.standing.sightings, y.time.absolute ≤ r.time.absolute) : mergeSighting r s = writeSighting r s := by
  rw [mergeSighting_of_absent h (by rwa [touch_of_absent habsent]), touch_of_absent habsent]
  refine if_neg fun hl => ?_
  obtain ⟨y, hy, hle⟩ := hlater
  have := ((lostSighting_iff r _).mp hl).2 y hy
  omega

/-- Settles O35. -/
theorem sightsAndSuspectsAreMerged : Obligations.SightsAndSuspectsAreMerged := by
  refine ⟨fun a x k s hw h hlow hhigh hmin hmax hkind => ?sight, fun a x s hw h => ?suspect⟩
  case sight =>
    intro r run u holds
    have haccept := sightAccepted_eq ((Bool.and_eq_true ..).mp hw).2 hlow hhigh hmin hmax hkind
    have hrun : run = .next (follow ((mergeSighting r u).onLine (LineIf.handedOver a 18 (SightPayload.bytes x)))) := by
      have hexec := exec_sight_handed hw h
      rw [takeSight, haccept] at hexec
      exact hexec
    have hwritten (l : List Sighting) (hmerge : mergeSighting r u = { u with standing := { s.standing with sightings := l } }) :
        holds l := by
      rw [hmerge] at hrun
      exact hrun
    have hkept (hmerge : mergeSighting r u = u) : holds s.standing.sightings := hwritten _ hmerge
    refine ⟨fun hold => hkept (mergeSighting_tooOld hold), fun hold => ⟨fun hroom => ?enters, fun habsent hfull => ⟨fun hlost => ?lost,
      fun hlater => ?evicts⟩, fun y hy => ?stands⟩⟩
    case enters =>
      obtain ⟨l, hmerge, hfind⟩ := mergeSighting_enters (r := r) (s := u) hold hroom
      exact ⟨l, hwritten l hmerge, hfind⟩
    case lost => exact hkept (mergeSighting_lost (r := r) (s := u) hold habsent hfull hlost)
    case evicts =>
      obtain ⟨o, ho, hleast, hfind⟩ := findBy_enterSighting_of_full (r := r) habsent hfull
      exact ⟨_, hwritten (enterSighting r s.standing.sightings) (mergeSighting_evicts (r := r) (s := u) hold habsent hlater),
        o, ho, hleast, hfind⟩
    case stands =>
      have hmerge := mergeSighting_of_stands (r := r) (s := u) hold hy
      have hfound : (findBy Sighting.cardId x.cardId s.standing.sightings).isSome = true := Option.isSome_of_eq_some hy.1
      have hcard : y.cardId = x.cardId := State.sighting_cardId hy.1
      refine ⟨fun hc => ⟨_, hwritten _ (hmerge.trans (if_pos hc)), findBy_enterSighting_of_room r (.inl hfound)⟩,
        fun hc => hkept (hmerge.trans ((if_neg hc.not_gt).trans (if_pos hc))), fun hc hbalance => ?same,
        fun hc hbalance => ?conflict⟩
      all_goals rw [if_neg hc.not_gt, if_neg hc.not_lt] at hmerge
      case same =>
        refine ⟨_, hwritten _ (hmerge.trans (if_pos hbalance)), fun c => ?_⟩
        refine (findBy_enterSighting_of_room _ (.inl ?_) c).trans (if_congr (by rw [← hcard]) rfl rfl)
        exact Option.isSome_of_eq_some ((congrArg s.sighting hcard).trans hy.1)
      case conflict =>
        rw [hmerge, if_neg hbalance] at hrun
        refine ⟨_, hrun, ?_⟩
        have hrecords : (sightConflict r u).journal.records = s.journal.records ++ if 1 ≤ s.journal.free then
            [u.recordOf (cloneContent none x.cardId .sightConflict x.counter x.balance)] else [] := by
          obtain ⟨-, -, -, -, hjournal, hline, -⟩ := addFound_frame .localPart r.cardId u
          rw [sightConflict_journal, appendReserve_records, hjournal]
          refine congrArg (s.journal.records ++ if 1 ≤ s.journal.free then [·] else []) ?_
          exact State.recordOf_congr (congrArg Journal.nextSeq hjournal) (addFound_clock ..) (congrArg LineIf.connected hline) _
        refine ⟨?_, ?_, ?_, ?_, ?_, ?_⟩
        · simp only [follow_frame]
          exact (congrArg Standing.sightings (sightConflict_standing r u)).trans (addFound_sightings ..)
        · have hdenied := denied_addFound .localPart x.cardId u
          simp only [State.denied, follow_frame] at hdenied ⊢
          exact (congrArg (fun t : Standing => findBy DenyEntry.cardId x.cardId t.deny) (sightConflict_standing r u)).trans hdenied
        · simp only [follow_frame]
          exact hrecords
        · simp only [follow_frame]
          exact (sightConflict_frame r u).1
        · simp only [follow_laneRest]
          exact congrArg Lane.credits (sightConflict_frame r u).2.2.2.1
        · simp only [follow_frame]
          exact (sightConflict_frame r u).2.1
  case suspect =>
    intro run u line
    have hrun : run = .next (follow ((takeSuspect x u).onLine (LineIf.handedOver a 19 (SuspectPayload.bytes x)))) :=
      exec_suspect_handed hw h
    refine ⟨fun hinert => ?_, fun hlow hhigh habsent => ?_⟩
    · have hact : takeSuspect x u = u := by
        obtain hz | hz | hdenied := hinert
        · simp [takeSuspect, namesCard, hz]
        · simp [takeSuspect, namesCard, Config.noCard, hz]
        · rw [takeSuspect, addFound_of_denied (by exact hdenied), ite_self]
      rw [hact] at hrun
      exact hrun
    · have hcard : namesCard x.cardId = true := by
        simp only [namesCard, Config.noCard, Bool.and_eq_true, decide_eq_true_eq]
        omega
      rw [takeSuspect, if_pos hcard] at hrun
      refine ⟨fun hroom => ?_, fun hfull => ?_⟩
      · rw [addFound_of_room (by exact habsent) (by exact hroom)] at hrun
        refine ⟨_, hrun, fun c => ?_⟩
        rw [findBy_putBy]
        by_cases hc : c = x.cardId
        · subst hc
          rfl
        · rw [if_neg hc, if_neg hc]
          rfl
      · rw [addFound_of_full (by exact habsent) (by exact hfull)] at hrun
        exact hrun

end Sys2Proof.Machine

/-! PROOFS. The slots of the credit queues, the journal and the proof queue (R12, R108, R149, section 1.5): the accounts that must agree,
and the operations that leave the dialogs and the slots aside. -/

namespace Sys2Proof.Machine

open Sys2Proof

variable {s t u : State} {p : Port} {c : Content}

/-- R149: the journal's records, held slots and reserved slots. -/
def Journal.used (j : Journal) : Nat := j.records.length + j.held + j.reserved

/-- R108, R149 to R151: the slots of the credit queues and of the journal, each accounted for by its owner; `spare` of the held slots
have no recovery entry yet. -/
structure State.Accounts (s : State) (spare : Nat) : Prop where
  credits : ∀ p, s.creditSlotsHold p
  reserved : s.journal.reserved = (s.ctx .a).journalRes + (s.ctx .b).journalRes
  held : s.journal.held = s.standing.recovery.length + spare
  recovery : s.standing.recovery.length ≤ 16
  used : s.journal.used ≤ 512

/-- Credits that leave their queues, and records that take free slots, leave the accounts in balance. -/
theorem State.Accounts.of_le {n : Nat} (h : s.Accounts n) (hd : t.dialog = s.dialog) (hr : t.lane.reserved = s.lane.reserved)
    (hc : ∀ d, (t.lane.credits.get d).length ≤ (s.lane.credits.get d).length)
    (hs : t.standing.recovery.length = s.standing.recovery.length)
    (hj : t.journal.reserved = s.journal.reserved ∧ t.journal.held = s.journal.held)
    (hu : s.journal.used ≤ 512 → t.journal.used ≤ 512) : t.Accounts n where
  credits p := by
    obtain ⟨hres, hcap⟩ := h.credits p
    have hle := hc (portDirection p)
    refine ⟨?_, ?_⟩
    · rw [hr, hres, State.ctx, State.ctx, hd]
    · rw [hr]
      omega
  reserved := by rw [hj.1, h.reserved, State.ctx, State.ctx, State.ctx, State.ctx, hd]
  held := by rw [hj.2, h.held, hs]
  recovery := hs ▸ h.recovery
  used := hu h.used

/-- What leaves the dialogs aside and the accounts in balance. -/
structure Aside (s t : State) : Prop where
  dialog : t.dialog = s.dialog
  active : t.tariff.active = s.tariff.active
  accounts : ∀ n, s.Accounts n → t.Accounts n

namespace Aside

@[refl] theorem refl (s : State) : Aside s s := ⟨rfl, rfl, fun _ => id⟩

@[trans] theorem trans (h : Aside s t) (k : Aside t u) : Aside s u :=
  ⟨k.dialog.trans h.dialog, k.active.trans h.active, fun n => k.accounts n ∘ h.accounts n⟩

/-- What changes none of the blocks that the slots stand in. -/
theorem keeping (h : Aside s t) (hd : u.dialog = t.dialog) (ha : u.tariff.active = t.tariff.active)
    (hr : u.lane.reserved = t.lane.reserved) (hc : u.lane.credits = t.lane.credits)
    (hs : u.standing.recovery = t.standing.recovery) (hj : u.journal = t.journal) : Aside s u :=
  h.trans ⟨hd, ha, fun _ hb => hb.of_le hd hr (fun _ => by rw [hc]) (by rw [hs]) (by rw [hj]; exact ⟨rfl, rfl⟩)
    (by rw [hj]; exact id)⟩

end Aside

/-! ### Frames, records and findings -/

theorem event_aside (e : Event) (h : Aside s t) : Aside s (event e t) := by apply h.keeping <;> simp

theorem broadcastSight_aside (r : Sighting) (h : Aside s t) : Aside s (broadcastSight r t) := by apply h.keeping <;> simp

theorem broadcastSuspect_aside (n : Nat) (h : Aside s t) : Aside s (broadcastSuspect n t) := by apply h.keeping <;> simp

/-- R149: a record that takes a free slot. -/
theorem appendRecord_aside (h : Aside s t) (hfree : 1 ≤ t.journal.free) : Aside s (appendRecord id c t) := by
  obtain ⟨hlen, hheld, hreserved⟩ := appendRecord_used id c t
  refine h.trans ⟨by simp, by simp, fun _ hb => hb.of_le (by simp) (by simp) (fun _ => by simp) (by simp) ⟨hreserved, hheld⟩ fun _ => ?_⟩
  simp only [Journal.free, Config.journalCapacity] at hfree
  simp only [Journal.used, hlen, hheld, hreserved, id]
  omega

theorem appendReserve_aside (c : Content) (h : Aside s t) : Aside s (appendReserve c t) := by
  unfold appendReserve
  split
  next hfree => exact appendRecord_aside h hfree
  next => exact h.trans ⟨rfl, rfl, fun _ hb => hb.of_le rfl rfl (fun _ => le_rfl) rfl ⟨rfl, rfl⟩ id⟩

theorem appendOpenRefusal_aside (c : Content) (h : Aside s t) : Aside s (appendOpenRefusal c t) := by
  unfold appendOpenRefusal
  split
  next hfree => exact appendRecord_aside h (Nat.one_le_of_lt hfree)
  next => exact h

theorem addFound_aside (o : DenyOrigin) (n : Nat) (h : Aside s t) : Aside s (addFound o n t) := by
  refine h.keeping (by simp) (by simp) (by simp) (by simp) ?_ (by simp)
  unfold addFound
  repeat' split
  all_goals rfl

theorem touch_aside (n : Nat) (h : Aside s t) : Aside s (touch n t) := by
  refine h.keeping (by simp) (by simp) (by simp) (by simp) ?_ (by simp)
  unfold touch
  repeat' split
  all_goals rfl

theorem writeSighting_aside (r : Sighting) (h : Aside s t) : Aside s (writeSighting r t) := h.keeping rfl rfl rfl rfl rfl rfl

theorem writeAndBroadcast_aside (r : Sighting) (h : Aside s t) : Aside s (writeAndBroadcast r t) :=
  broadcastSight_aside _ <| writeSighting_aside _ h

theorem lapseReport_aside (n : Nat) (d : Direction) (h : Aside s t) : Aside s (lapseReport n d t) := by
  have htouch := touch_aside n h
  simp only [lapseReport]
  repeat' split
  · exact writeSighting_aside _ htouch
  · exact htouch
  · exact htouch

theorem sightConflict_aside (r : Sighting) (h : Aside s t) : Aside s (sightConflict r t) :=
  event_aside _ <| appendReserve_aside _ <| addFound_aside _ _ h

theorem mergeSighting_aside (r : Sighting) (h : Aside s t) : Aside s (mergeSighting r t) := by
  have htouch := touch_aside r.cardId h
  simp only [mergeSighting]
  repeat' split
  all_goals simp only [h, htouch, writeSighting_aside, sightConflict_aside]

theorem takeSight_aside (x : SightPayload) (h : Aside s t) : Aside s (takeSight x t) := by
  unfold takeSight
  split
  · exact mergeSighting_aside _ h
  · exact h

theorem takeSuspect_aside (x : SuspectPayload) (h : Aside s t) : Aside s (takeSuspect x t) := by
  unfold takeSuspect
  split
  · exact addFound_aside _ _ h
  · exact h

/-! ### The recovery list -/

/-- R151: an entry that leaves the list gives its held slot to a record. -/
theorem appendHeld_removeRecovery_aside {e : RecoveryEntry} (c : Content) (he : e ∈ t.standing.recovery) (h : Aside s t) :
    Aside s (removeRecovery e (appendHeld c t)) := by
  obtain ⟨hlen, hheld, hreserved⟩ := appendRecord_used (fun j => { j with held := j.held - 1 }) c t
  have hrec : (removeRecovery e (appendHeld c t)).standing.recovery = t.standing.recovery.erase e := by simp [removeRecovery]
  have hdialog : (removeRecovery e (appendHeld c t)).dialog = t.dialog := by simp
  have hlane : (removeRecovery e (appendHeld c t)).lane = t.lane := by simp
  have hpos := List.length_pos_of_mem he
  refine h.trans ⟨hdialog, by simp, fun n hb => ?_⟩
  obtain ⟨hcredits, hres, hheldEq, hcap, hused⟩ := hb
  refine ⟨fun p => ?_, ?_, ?_, ?_, ?_⟩
  · rw [State.creditSlotsHold, State.ctx, hdialog, hlane]
    exact hcredits p
  · rw [(removeRecovery_frame ..).2.2.2.2.1, State.ctx, State.ctx, hdialog]
    exact hreserved.trans hres
  · rw [(removeRecovery_frame ..).2.2.2.2.1, hrec, List.length_erase_of_mem he]
    exact hheld.trans (by simp only [hheldEq]; omega)
  · rw [hrec, List.length_erase_of_mem he]
    omega
  · rw [(removeRecovery_frame ..).2.2.2.2.1]
    simp only [Journal.used] at hused
    simp only [Journal.used, appendHeld, hlen, hheld, hreserved]
    omega

theorem resolveUnresolved_aside {e : RecoveryEntry} (r : UnresolvedReason) (he : e ∈ t.standing.recovery) (h : Aside s t) :
    Aside s (resolveUnresolved e r t) := event_aside _ <| appendHeld_removeRecovery_aside _ he h

theorem resolveRecovered_aside {e : RecoveryEntry} (he : e ∈ t.standing.recovery) (h : Aside s t) :
    Aside s (resolveRecovered e t) := writeAndBroadcast_aside _ <| appendHeld_removeRecovery_aside _ he h

/-- R44: an entry whose write was not applied gives its held slot back. -/
theorem notApplied_aside {e : RecoveryEntry} (he : e ∈ t.standing.recovery) (h : Aside s t) : Aside s (notApplied e t) := by
  have hpos := List.length_pos_of_mem he
  refine h.trans ⟨rfl, rfl, fun n hb => ?_⟩
  obtain ⟨hcredits, hres, hheld, hcap, hused⟩ := hb
  have hlen : (notApplied e t).standing.recovery.length = t.standing.recovery.length - 1 := List.length_erase_of_mem he
  have hslots : (notApplied e t).journal.held = t.journal.held - 1 := rfl
  refine ⟨hcredits, hres, ?_, ?_, ?_⟩
  · omega
  · omega
  · have hle : (notApplied e t).journal.used ≤ t.journal.used := by
      simp only [Journal.used, notApplied, releaseHeld, State.onJournal, removeRecovery, State.onStanding]
      omega
    omega

theorem foldl_soonerOf_mem (x : RecoveryEntry) (l : List RecoveryEntry) : l.foldl soonerOf x ∈ x :: l := by
  induction l generalizing x with
  | nil => simp
  | cons y ys ih =>
    have hone : soonerOf x y = x ∨ soonerOf x y = y := by
      unfold soonerOf
      split <;> simp
    obtain h | h := List.mem_cons.mp (ih (soonerOf x y))
    · rw [List.foldl_cons, h]
      obtain h | h := hone <;> simp [h]
    · exact List.mem_cons_of_mem _ (List.mem_cons_of_mem _ h)

/-- R39: a displaced entry leaves room for another. -/
theorem displace_aside (h : Aside s t) : Aside s (displace t) := by
  unfold displace
  split
  · exact h
  · split
    · exact h
    next x xs heq => exact resolveUnresolved_aside _ (heq ▸ foldl_soonerOf_mem x xs) h

theorem displace_length_lt (h : t.standing.recovery.length ≤ 16) : (displace t).standing.recovery.length < 16 := by
  unfold displace
  split
  next hroom => exact hroom
  next hfull =>
    simp only [Config.recoveryCapacity] at hfull
    split
    next hnil => simp [hnil]
    next x xs heq =>
      have hmem := foldl_soonerOf_mem x xs
      rw [← heq] at hmem
      have hlen : (resolveUnresolved (xs.foldl soonerOf x) .displaced t).standing.recovery
          = t.standing.recovery.erase (xs.foldl soonerOf x) := by simp [resolveUnresolved, removeRecovery]
      rw [hlen, List.length_erase_of_mem hmem]
      omega

/-! ### The lane's tests and the credits that leave -/

theorem startMotion_aside (f : Flap) (h : Aside s t) : Aside s (startMotion f t) := h.keeping rfl rfl rfl rfl rfl rfl

theorem openTest_aside (h : Aside s t) : Aside s (openTest t) := by
  unfold openTest
  repeat' split
  all_goals simp only [h, startMotion_aside]

theorem closeTest_aside (h : Aside s t) : Aside s (closeTest t) := by
  unfold closeTest
  split
  · exact startMotion_aside _ h
  · exact h

theorem startCloseDelay_aside (h : Aside s t) : Aside s (startCloseDelay t) := h.keeping rfl rfl rfl rfl rfl rfl

theorem flapZoneReport_aside (b : Bool) (h : Aside s t) : Aside s (flapZoneReport b t) := by
  have hzone : Aside s (t.onLane fun l => { l with flapZone := b }) := h.keeping rfl rfl rfl rfl rfl rfl
  simp only [flapZoneReport]
  repeat' split
  · exact startMotion_aside _ hzone
  · exact hzone
  · exact closeTest_aside hzone

theorem arbitrate_aside (h : Aside s t) : Aside s (arbitrate t) := by
  unfold arbitrate
  split
  · exact openTest_aside (h.keeping rfl rfl rfl rfl rfl rfl)
  · exact h

theorem releaseTest_aside (h : Aside s t) : Aside s (releaseTest t) := by
  unfold releaseTest
  repeat' split
  · exact arbitrate_aside (h.keeping rfl rfl rfl rfl rfl rfl)
  · exact h
  · exact h

theorem creditLeft_aside (d : Direction) (h : Aside s t) : Aside s (creditLeft d t) := by
  unfold creditLeft
  refine closeTest_aside ?_
  split
  · exact releaseTest_aside h
  · exact h

/-- R112: credits that leave a queue. -/
theorem Aside.onCredits {f : Lane → Lane} {d : Direction} (h : Aside s t) (hr : (f t.lane).reserved = t.lane.reserved)
    {l : List Credit} (hc : (f t.lane).credits = t.lane.credits.put d l) (hl : l.length ≤ (t.lane.credits.get d).length) :
    Aside s (t.onLane f) := by
  refine h.trans ⟨rfl, rfl, fun _ hb => hb.of_le rfl hr (fun e => ?_) rfl ⟨rfl, rfl⟩ id⟩
  show (((f t.lane).credits.get e)).length ≤ _
  rw [hc, ByDir.get_put]
  split
  next he => exact he ▸ hl
  next => exact le_rfl

theorem lapse_aside (d : Direction) (x : Credit) (r : LapseReason) (h : Aside s t) : Aside s (lapse d x r t) := by
  have hdrop : Aside s (t.onLane (Lane.dropLapsed d x)) := h.onCredits rfl rfl (List.length_erase_le ..)
  exact creditLeft_aside d <| appendReserve_aside _ <| lapseReport_aside _ _ hdrop

theorem foldl_lapse_aside (d : Direction) (r : LapseReason) (l : List Credit) (h : Aside s t) :
    Aside s (l.foldl (fun v x => lapse d x r v) t) := by
  induction l generalizing t with
  | nil => exact h
  | cons x xs ih => exact ih (lapse_aside d x r h)

theorem flush_aside (d : Direction) (h : Aside s t) : Aside s (flush d t) := foldl_lapse_aside d .flush _ h

theorem lapseWaited_aside (d : Direction) (h : Aside s t) : Aside s (lapseWaited d t) := foldl_lapse_aside d .wait _ h

theorem replaceParams_aside (q : Params) (h : Aside s t) : Aside s (replaceParams q t) := by
  have hset : Aside s { t with params := q } := h.keeping rfl rfl rfl rfl rfl rfl
  simp only [replaceParams]
  split
  · exact lapseWaited_aside _ <| lapseWaited_aside _ hset
  · exact hset

/-! ### Crossings, tempo and tally -/

theorem makeBrisk_aside (h : Aside s t) : Aside s (makeBrisk t) := h.keeping rfl rfl rfl rfl rfl rfl

theorem tallyStep_aside (d : Direction) (h : Aside s t) : Aside s (tallyStep d t) := by
  unfold tallyStep
  split
  · refine h.keeping rfl rfl ?_ ?_ rfl rfl
    all_goals
      simp only [State.onLane, Lane.beginTally]
      split
      · cases ‹Direction› <;> rfl
      · rfl
  · exact h.keeping rfl rfl rfl rfl rfl rfl

theorem intrusion_aside (d : Option Direction) (r : IntrusionReason) (h : Aside s t) : Aside s (intrusion d r t) :=
  event_aside _ <| appendReserve_aside _ h

theorem tailgate_aside (d : Direction) (n : Nat) (h : Aside s t) : Aside s (tailgate d n t) :=
  event_aside _ <| appendReserve_aside _ h

theorem consume_aside (d : Direction) (h : Aside s t) : Aside s (t.onLane (Lane.consume d)) :=
  h.onCredits rfl rfl (by simp)

theorem pay_aside (d : Direction) (long : Bool) (x : Credit) (rest : List Credit) (h : Aside s t) :
    Aside s (pay d long x rest t) := by
  have hpaid := consume_aside d h
  simp only [pay]
  repeat' split
  · exact creditLeft_aside d <| tailgate_aside _ _ hpaid
  · exact creditLeft_aside d <| consume_aside d hpaid
  · exact creditLeft_aside d hpaid

theorem judgeCrossing_aside (d : Direction) (long : Bool) (h : Aside s t) : Aside s (judgeCrossing d long t) := by
  unfold judgeCrossing
  repeat' split
  · exact h.keeping rfl rfl rfl rfl rfl rfl
  · exact intrusion_aside _ _ h
  · exact intrusion_aside _ _ h
  · exact intrusion_aside _ _ h
  · exact pay_aside _ _ _ _ h

theorem crossing_aside (d : Direction) (long : Bool) (h : Aside s t) : Aside s (crossing d long t) :=
  judgeCrossing_aside d long <| tallyStep_aside d <| startCloseDelay_aside h

/-! ### The mode before the dialogs are told -/

theorem reportMode_aside (m : Mode) (h : Aside s t) : Aside s (reportMode m t) :=
  event_aside _ <| appendReserve_aside _ <| h.keeping rfl rfl rfl rfl rfl rfl

theorem flushOnLeaving_aside (left new : Mode) (h : Aside s t) : Aside s (flushOnLeaving left new t) := by
  unfold flushOnLeaving
  split
  · exact flush_aside _ <| flush_aside _ h
  · exact h

theorem freshCount_aside (m : Mode) (h : Aside s t) : Aside s (freshCount m t) := by
  unfold freshCount
  split
  · exact h.keeping rfl rfl rfl rfl rfl rfl
  · exact h

/-! ### The beams -/

theorem onBeam_aside (f : Beams → Beams) (h : Aside s t) : Aside s (t.onBeam f) := h.keeping rfl rfl rfl rfl rfl rfl

theorem onRecord_aside (i : Nat) (f : BeamRecord → BeamRecord) (h : Aside s t) : Aside s (onRecord i f t) := onBeam_aside _ h

theorem trimFails_aside (i : Nat) (h : Aside s t) : Aside s (trimFails i t) := by
  simp only [trimFails]
  split
  · exact onRecord_aside _ _ <| onBeam_aside _ h
  · exact event_aside _ <| appendReserve_aside _ <| onRecord_aside _ _ <| onBeam_aside _ h

theorem judgeTrim_aside (i : Nat) (h : Aside s t) : Aside s (judgeTrim i t) := by
  simp only [judgeTrim]
  repeat' split
  · exact h.keeping rfl rfl rfl rfl rfl rfl
  · exact h.keeping rfl rfl rfl rfl rfl rfl
  · exact trimFails_aside i h
  · exact trimFails_aside i h

theorem advanceTrim_aside (h : Aside s t) : Aside s (advanceTrim t) := by
  unfold advanceTrim
  split
  next i _ =>
    have hsettled : Aside s (settleTrim i t) := by
      simp only [settleTrim]
      split
      · exact judgeTrim_aside i <| onRecord_aside _ _ <| onRecord_aside _ _ h
      · exact onRecord_aside _ _ h
    unfold interruptTest
    repeat' split
    · exact hsettled
    · exact onBeam_aside _ <| onRecord_aside _ _ hsettled
    · exact hsettled
  next => exact h

theorem seekTrim_aside (h : Aside s t) : Aside s (seekTrim t) := by
  unfold seekTrim
  repeat' split
  next i _ => exact judgeTrim_aside i <| onBeam_aside _ <| onRecord_aside _ _ h
  all_goals exact h

/-! ### The line -/

theorem onLine_aside (f : LineIf → LineIf) (h : Aside s t) : Aside s (t.onLine f) := h.keeping rfl rfl rfl rfl rfl rfl

theorem replyGone_aside (restart : Bool) (h : Aside s t) : Aside s (replyGone restart t) := by
  unfold replyGone
  split
  · exact h.keeping rfl rfl rfl rfl rfl rfl
  · exact h

theorem freeReception_aside (p : LinePort) (h : Aside s t) : Aside s (freeReception p t) := h.keeping rfl rfl rfl rfl rfl rfl

theorem holdReception_aside (p bound : LinePort) (x : HeldContent) (restart : Bool) (h : Aside s t) :
    Aside s (holdReception p bound x restart t) := by
  unfold holdReception
  split
  · exact onLine_aside _ h
  · exact replyGone_aside _ <| freeReception_aside p h

theorem relay_aside (p : LinePort) (f : Frame) (h : Aside s t) : Aside s (relay p f t) := by
  simp only [relay]
  split
  · exact onLine_aside _ h
  · exact freeReception_aside p h

theorem startReception_aside (p : LinePort) (h : Aside s t) : Aside s (startReception p t) := by
  unfold startReception
  split
  · exact onLine_aside _ h
  · exact h.keeping rfl rfl rfl rfl rfl rfl

theorem cutOff_aside (p : LinePort) (h : Aside s t) : Aside s (cutOff p t) := by
  unfold cutOff
  split
  · exact h.keeping rfl rfl rfl rfl rfl rfl
  · exact h

theorem endTransmission_aside (p : LinePort) (b : Buffered) (h : Aside s t) : Aside s (endTransmission p b t) :=
  replyGone_aside _ <| h.keeping rfl rfl rfl rfl rfl rfl

theorem takeLink_aside (p : LinePort) (up : Bool) (h : Aside s t) : Aside s (takeLink p up t) := by
  simp only [takeLink]
  split
  · exact onLine_aside _ h
  · exact replyGone_aside _ <| onLine_aside _ <| cutOff_aside p <| onLine_aside _ h

theorem convertOne_aside (h : Aside s t) : Aside s (convertOne t) := by apply h.keeping <;> simp

/-! ### The clock and what follows every step -/

theorem testSwitch_aside (h : Aside s t) : Aside s (testSwitch t) := by
  unfold testSwitch
  split
  · exact h.keeping rfl rfl rfl rfl rfl rfl
  · exact h

theorem follow_aside (h : Aside s t) : Aside s (follow t) := by apply h.keeping <;> simp

end Sys2Proof.Machine

/-! PROOFS. One port's dialog in the middle of a step: what an operation of its context leaves to the other port, and where a context's
step can end (R12 to R25). -/

namespace Sys2Proof.Machine

open Sys2Proof

variable {s t u : State} {p : Port} {c : Content}

/-- What an operation on the context of port `p` leaves alone: the other port's context and link, the proof queue and the active bank;
and the accounts stay in balance. -/
structure Local (p : Port) (s t : State) : Prop where
  ctx : t.ctx (otherPort p) = s.ctx (otherPort p)
  port : t.port (otherPort p) = s.port (otherPort p)
  queue : t.dialog.proofQueue = s.dialog.proofQueue
  timer : t.dialog.proofTimer = s.dialog.proofTimer
  active : t.tariff.active = s.tariff.active
  accounts : ∀ n, s.Accounts n → t.Accounts n

/-! ### The contexts and links as the operations find them -/

@[simp] theorem State.ctx_onCtx (p : Port) (f : Context → Context) (s : State) : (s.onCtx p f).ctx p = f (s.ctx p) := by
  simp [State.ctx, State.onCtx, State.onDialog]

theorem State.ctx_onCtx_other (p : Port) (f : Context → Context) (s : State) :
    (s.onCtx p f).ctx (otherPort p) = s.ctx (otherPort p) := by
  simp [State.ctx, State.onCtx, State.onDialog, ByPort.get_put]

@[simp] theorem State.port_onCtx (p q : Port) (f : Context → Context) (s : State) : (s.onCtx p f).port q = s.port q := rfl

@[simp] theorem State.ctx_onPort (p q : Port) (f : PortLink → PortLink) (s : State) : (s.onPort p f).ctx q = s.ctx q := rfl

@[simp] theorem State.port_onPort (p : Port) (f : PortLink → PortLink) (s : State) : (s.onPort p f).port p = f (s.port p) := by
  simp [State.port, State.onPort, State.onDialog]

theorem State.port_onPort_other (p : Port) (f : PortLink → PortLink) (s : State) :
    (s.onPort p f).port (otherPort p) = s.port (otherPort p) := by
  simp [State.port, State.onPort, State.onDialog, ByPort.get_put]

/-- What follows a change of one context and leaves the dialogs. -/
theorem State.ctx_of_dialog {f : Context → Context} (h : u.dialog = (t.onCtx p f).dialog) :
    u.ctx p = f (t.ctx p) ∧ u.ctx (otherPort p) = t.ctx (otherPort p) := by
  simp only [State.ctx, h]
  exact ⟨State.ctx_onCtx .., State.ctx_onCtx_other ..⟩

/-- The accounts read two numbers of each context. -/
theorem State.Accounts.of_res {n : Nat} (h : s.Accounts n)
    (hc : ∀ q, (t.ctx q).creditRes = (s.ctx q).creditRes ∧ (t.ctx q).journalRes = (s.ctx q).journalRes)
    (hr : t.lane.reserved = s.lane.reserved) (hcr : t.lane.credits = s.lane.credits)
    (hs : t.standing.recovery = s.standing.recovery) (hj : t.journal = s.journal) : t.Accounts n where
  credits q := by
    have := h.credits q
    rwa [State.creditSlotsHold, hr, hcr, (hc q).1]
  reserved := by rw [hj, (hc .a).2, (hc .b).2, h.reserved]
  held := by rw [hj, hs, h.held]
  recovery := hs ▸ h.recovery
  used := hj ▸ h.used

theorem forall_ports {P : Port → Prop} (p : Port) (h : P p) (ho : P (otherPort p)) : ∀ q, P q := by
  intro q
  cases p <;> cases q <;> [exact h; exact ho; exact ho; exact h]

namespace Local

@[refl] theorem refl (p : Port) (s : State) : Local p s s := ⟨rfl, rfl, rfl, rfl, rfl, fun _ => id⟩

@[trans] theorem trans (h : Local p s t) (k : Local p t u) : Local p s u :=
  ⟨k.ctx.trans h.ctx, k.port.trans h.port, k.queue.trans h.queue, k.timer.trans h.timer, k.active.trans h.active,
    fun n => k.accounts n ∘ h.accounts n⟩

theorem aside (h : Local p s t) (k : Aside t u) : Local p s u :=
  h.trans ⟨by rw [State.ctx, k.dialog, State.ctx], by rw [State.port, k.dialog, State.port], by rw [k.dialog], by rw [k.dialog], k.active,
    k.accounts⟩

/-- A change of the context that leaves its reservations. -/
theorem onCtx {f : Context → Context} (h : Local p s t) (hc : (f (t.ctx p)).creditRes = (t.ctx p).creditRes)
    (hj : (f (t.ctx p)).journalRes = (t.ctx p).journalRes) : Local p s (t.onCtx p f) := by
  refine h.trans ⟨State.ctx_onCtx_other .., rfl, rfl, rfl, rfl, fun n hb => hb.of_res (forall_ports p ?_ ?_) rfl rfl rfl rfl⟩
  · rw [State.ctx_onCtx]
    exact ⟨hc, hj⟩
  · rw [State.ctx_onCtx_other]
    exact ⟨rfl, rfl⟩

theorem onPort (f : PortLink → PortLink) (h : Local p s t) : Local p s (t.onPort p f) :=
  h.trans ⟨rfl, State.port_onPort_other .., rfl, rfl, rfl, fun _ hb => hb.of_res (fun _ => ⟨rfl, rfl⟩) rfl rfl rfl rfl⟩

theorem send (m : Sent) (h : Local p s t) : Local p s (t.send m) := h.aside ((Aside.refl t).keeping rfl rfl rfl rfl rfl rfl)

theorem flushShow (h : Local p s t) : Local p s (flushShow p t) := by
  unfold Machine.flushShow
  split
  · exact (h.onPort _).send _
  · exact h

theorem showNow (w : Show) (h : Local p s t) : Local p s (showNow p w t) := (h.onPort _).flushShow

theorem endVerb (h : Local p s t) : Local p s (endVerb p t) := (h.onPort _).flushShow

theorem withdraw (h : Local p s t) : Local p s (withdraw p t) := by
  unfold Machine.withdraw
  split
  · exact (h.aside ((Aside.refl t).keeping (u := t.onStanding _) rfl rfl rfl rfl rfl rfl)).onCtx rfl rfl
  · exact h

theorem joinInFlight (n : Nat) (h : Local p s t) : Local p s (joinInFlight p n t) :=
  (h.aside ((Aside.refl t).keeping (u := t.onStanding _) rfl rfl rfl rfl rfl rfl)).onCtx rfl rfl

theorem startPoll (h : Local p s t) : Local p s (startPoll p t) := by
  unfold Machine.startPoll
  exact h.onCtx rfl rfl

theorem issue (v : Purpose) (h : Local p s t) : Local p s (issue p v t) := by
  have hdrawn := (h.flushShow.onPort fun l => { l with
    tag := nextTag ((Machine.flushShow p t).port p).tag
    outstanding := some ⟨v, nextTag ((Machine.flushShow p t).port p).tag, (Machine.flushShow p t).params.timeAllowed v,
      (Machine.flushShow p t).drawn v, false⟩ })
  refine Local.send _ ?_
  unfold drawChallenge
  split
  · exact hdrawn.trans ⟨rfl, rfl, rfl, rfl, rfl, fun _ hb => hb.of_res (fun _ => ⟨rfl, rfl⟩) rfl rfl rfl rfl⟩
  · exact hdrawn

theorem toHolding (h : Local p s t) : Local p s (toHolding p t) := by
  simp only [Machine.toHolding]
  split
  · exact (h.onCtx (by rfl) (by rfl)).startPoll
  · exact h.onCtx rfl rfl

end Local

/-! ### The reservations of a context (R12, R23) -/

theorem portDirection_otherPort (p : Port) : portDirection (otherPort p) ≠ portDirection p := by
  cases p <;> simp [portDirection, otherPort]

theorem journalRes_ports (p : Port) (s : State) :
    (s.ctx .a).journalRes + (s.ctx .b).journalRes = (s.ctx p).journalRes + (s.ctx (otherPort p)).journalRes := by
  cases p
  · rfl
  · exact Nat.add_comm ..

/-- R149: what changes only slots of the journal that port `p`'s context has reserved. -/
theorem State.Accounts.of_journal {n m : Nat} (h : s.Accounts n) (hother : t.ctx (otherPort p) = s.ctx (otherPort p))
    (hc : (t.ctx p).creditRes = (s.ctx p).creditRes) (hr : t.lane.reserved = s.lane.reserved) (hcr : t.lane.credits = s.lane.credits)
    (hs : t.standing.recovery = s.standing.recovery)
    (hreserved : t.journal.reserved + (s.ctx p).journalRes = s.journal.reserved + (t.ctx p).journalRes)
    (hheld : t.journal.held + n = s.journal.held + m) (hused : t.journal.used ≤ 512) : t.Accounts m where
  credits := forall_ports p (by rw [State.creditSlotsHold, hr, hcr, hc]; exact h.credits p)
    (by rw [State.creditSlotsHold, hr, hcr, hother]; exact h.credits (otherPort p))
  reserved := by
    have hsum := h.reserved
    rw [journalRes_ports p] at hsum ⊢
    rw [hother]
    omega
  held := by
    have := h.held
    rw [hs]
    omega
  recovery := hs ▸ h.recovery
  used := hused

/-- R108: what changes only the credit slots of port `p`'s direction. -/
theorem State.Accounts.of_credits {n : Nat} (h : s.Accounts n) (hother : t.ctx (otherPort p) = s.ctx (otherPort p))
    (hj : (t.ctx p).journalRes = (s.ctx p).journalRes)
    (hr : t.lane.reserved.get (portDirection (otherPort p)) = s.lane.reserved.get (portDirection (otherPort p)))
    (hcr : t.lane.credits.get (portDirection (otherPort p)) = s.lane.credits.get (portDirection (otherPort p)))
    (hs : t.standing.recovery = s.standing.recovery) (hjournal : t.journal = s.journal) (hp : t.creditSlotsHold p) : t.Accounts n where
  credits := forall_ports p hp (by rw [State.creditSlotsHold, hr, hcr, hother]; exact h.credits (otherPort p))
  reserved := by
    rw [journalRes_ports p, hother, hj, hjournal, h.reserved, ← journalRes_ports p]
  held := by rw [hjournal, hs, h.held]
  recovery := hs ▸ h.recovery
  used := hjournal ▸ h.used

theorem reserveJournal_journal (s : State) : (reserveJournal s).journal = { s.journal with reserved := s.journal.reserved + 1 } := by
  unfold reserveJournal fullEvent
  split <;> simp [State.onJournal]

namespace Local

/-- R23, step 1. -/
theorem dropCreditRes (h : Local p s t) : Local p s (dropCreditRes p t) := by
  unfold Machine.dropCreditRes
  split
  next hres =>
    obtain ⟨hown, hother⟩ := State.ctx_of_dialog (t := t) (p := p) (f := fun c => { c with creditRes := false })
      (u := releaseCredit (portDirection p) (t.onCtx p fun c => { c with creditRes := false })) rfl
    refine h.trans ⟨hother, rfl, rfl, rfl, rfl, fun n hb => hb.of_credits (p := p) hother (by rw [hown])
      ((ByDir.get_put ..).trans (if_neg (portDirection_otherPort p))) rfl rfl rfl ?_⟩
    obtain ⟨hreserved, hcap⟩ := hb.credits p
    rw [if_pos hres] at hreserved
    rw [State.creditSlotsHold, hown]
    simp only [releaseCredit, State.onLane, State.onCtx, State.onDialog, ByDir.get_put_same, hreserved] at hcap ⊢
    exact ⟨rfl, by omega⟩
  next => exact h

/-- R150: the journal slots of a context given back. -/
theorem dropJournalRes (h : Local p s t) : Local p s (dropJournalRes p t) := by
  refine h.trans ⟨State.ctx_onCtx_other .., rfl, rfl, rfl, rfl, fun n hb =>
    hb.of_journal (p := p) (State.ctx_onCtx_other ..) ?_ rfl rfl rfl ?_ rfl ?_⟩
  · rw [dropJournalRes_ctx]
  · have hle := hb.reserved
    rw [journalRes_ports p] at hle
    rw [dropJournalRes_ctx]
    show t.journal.reserved - (t.ctx p).journalRes + (t.ctx p).journalRes = t.journal.reserved + 0
    omega
  · have hused := hb.used
    simp only [Journal.used] at hused
    simp only [Machine.dropJournalRes, releaseJournal, State.onCtx, State.onDialog, State.onJournal, Journal.used]
    omega

/-- R150: a record in a slot that the context has reserved. -/
theorem spendJournalRes (c : Content) (h : Local p s t) (hres : 1 ≤ (t.ctx p).journalRes) :
    Local p s (appendReserved c (t.onCtx p fun x => { x with journalRes := x.journalRes - 1 })) := by
  obtain ⟨hlen, hheld, hreserved⟩ := appendRecord_used (fun j => { j with reserved := j.reserved - 1 }) c
    (t.onCtx p fun x => { x with journalRes := x.journalRes - 1 })
  have hdialog := (appendReserved_frame c (t.onCtx p fun x => { x with journalRes := x.journalRes - 1 })).1
  have hctx q : (appendReserved c (t.onCtx p fun x => { x with journalRes := x.journalRes - 1 })).ctx q
      = (t.onCtx p fun x => { x with journalRes := x.journalRes - 1 }).ctx q := by rw [State.ctx, hdialog, State.ctx]
  refine h.trans ⟨(hctx _).trans (State.ctx_onCtx_other ..), by simp [State.port, State.onCtx, State.onDialog], by rw [hdialog]; rfl,
    by rw [hdialog]; rfl, by simp [State.onCtx, State.onDialog], fun n hb => hb.of_journal (p := p)
      ((hctx _).trans (State.ctx_onCtx_other ..)) ?_ (by simp [State.onCtx, State.onDialog]) (by simp [State.onCtx, State.onDialog])
      (by simp [State.onCtx, State.onDialog]) ?_ ?_ ?_⟩
  · rw [hctx, State.ctx_onCtx]
  · rw [hctx, State.ctx_onCtx]
    have hle := hb.reserved
    rw [journalRes_ports p] at hle
    rw [appendReserved, hreserved]
    show t.journal.reserved - 1 + (t.ctx p).journalRes = t.journal.reserved + ((t.ctx p).journalRes - 1)
    omega
  · rw [appendReserved, hheld]
    rfl
  · have hused := hb.used
    have hle := hb.reserved
    rw [journalRes_ports p] at hle
    simp only [Journal.used] at hused
    simp only [Journal.used, appendReserved, hlen, hheld, hreserved]
    show t.journal.records.length + 1 + t.journal.held + (t.journal.reserved - 1) ≤ 512
    omega

/-- R23, step 2. -/
theorem refusalRecord (code : RefusalCode) (h : Local p s t) : Local p s (refusalRecord p code t) := by
  simp only [Machine.refusalRecord]
  split
  · exact h.dropJournalRes
  split
  · exact h.aside (appendOpenRefusal_aside _ (.refl t))
  next hres => exact (h.spendJournalRes _ (Nat.one_le_iff_ne_zero.mpr hres)).dropJournalRes

/-- R22, R23: a refusal concerns its own port alone. -/
theorem refuse (code : RefusalCode) (mark : Bool) (amount : Option Nat) (h : Local p s t) : Local p s (refuse p code mark amount t) := by
  simp only [Machine.refuse]
  split
  · exact (h.dropCreditRes.refusalRecord code).onCtx (f := fun x => { x with state := .marking, marking := some code, switchHeld := false })
      rfl rfl |>.issue _
  · exact (h.dropCreditRes.refusalRecord code |>.showNow _).withdraw.toHolding

/-- R12: a credit slot reserved. -/
theorem takeCreditRes (h : Local p s t) (hnone : (t.ctx p).creditRes = false) (hfree : t.creditSlotFree (portDirection p) = true) :
    Local p s (takeCreditRes p t) := by
  obtain ⟨hown, hother⟩ := State.ctx_of_dialog (t := t) (p := p) (f := fun c => { c with creditRes := true })
    (u := Machine.takeCreditRes p t) rfl
  refine h.trans ⟨hother, rfl, rfl, rfl, rfl, fun n hb => hb.of_credits (p := p) hother (by rw [hown])
    ((ByDir.get_put ..).trans (if_neg (portDirection_otherPort p))) rfl rfl rfl ?_⟩
  obtain ⟨hreserved, -⟩ := hb.credits p
  rw [hnone] at hreserved
  simp only [State.creditSlotFree, decide_eq_true_eq] at hfree
  rw [State.creditSlotsHold, hown]
  simp only [Machine.takeCreditRes, reserveCredit, State.onLane, State.onCtx, State.onDialog, ByDir.get_put_same, hreserved] at hfree ⊢
  exact ⟨rfl, hfree⟩

/-- R12, R14: a journal slot reserved. -/
theorem takeJournalRes (h : Local p s t) (hfree : 1 ≤ t.journal.free) : Local p s (takeJournalRes p t) := by
  have hdialog : (Machine.takeJournalRes p t).dialog = (t.onCtx p fun c => { c with journalRes := c.journalRes + 1 }).dialog :=
    (reserveJournal_frame _).1
  have hjournal : (Machine.takeJournalRes p t).journal = { t.journal with reserved := t.journal.reserved + 1 } := reserveJournal_journal _
  obtain ⟨hown, hother⟩ := State.ctx_of_dialog hdialog
  refine h.trans ⟨hother, by rw [State.port, hdialog]; rfl, by rw [hdialog]; rfl, by rw [hdialog]; rfl,
    by simp [Machine.takeJournalRes, State.onCtx, State.onDialog], fun n hb =>
      hb.of_journal (p := p) hother (by rw [hown]) (by simp [Machine.takeJournalRes, State.onCtx, State.onDialog])
        (by simp [Machine.takeJournalRes, State.onCtx, State.onDialog]) (by simp [Machine.takeJournalRes, State.onCtx, State.onDialog])
        ?_ (by rw [hjournal]) ?_⟩
  · rw [hown, hjournal]
    simp only
    omega
  · rw [hjournal]
    simp only [Journal.used, Journal.free, Config.journalCapacity] at hfree ⊢
    omega

/-- R20, R21, R109: a reserved credit slot becomes a credit. -/
theorem spendCreditRes (kind : CreditKind) (n : Nat) (h : Local p s t) (hres : (t.ctx p).creditRes = true) :
    Local p s (spendCreditRes p kind n t) := by
  have hjoined (x : Credit) : Local p s ((t.onCtx p fun c => { c with creditRes := false }).onLane (Lane.join (portDirection p) x)) := by
    obtain ⟨hown, hother⟩ := State.ctx_of_dialog (t := t) (p := p) (f := fun c => { c with creditRes := false })
      (u := (t.onCtx p fun c => { c with creditRes := false }).onLane (Lane.join (portDirection p) x)) rfl
    refine h.trans ⟨hother, rfl, rfl, rfl, rfl, fun n hb => hb.of_credits (p := p) hother (by rw [hown])
      ((ByDir.get_put ..).trans (if_neg (portDirection_otherPort p)))
      ((ByDir.get_put ..).trans (if_neg (portDirection_otherPort p))) rfl rfl ?_⟩
    obtain ⟨hreserved, hcap⟩ := hb.credits p
    rw [if_pos hres] at hreserved
    rw [State.creditSlotsHold, hown]
    simp only [Lane.join, State.onLane, State.onCtx, State.onDialog, ByDir.get_put_same, hreserved, List.length_append,
      List.length_singleton] at hcap ⊢
    exact ⟨rfl, by omega⟩
  simp only [Machine.spendCreditRes, joinCredit]
  split
  · exact (hjoined _).aside (openTest_aside <| arbitrate_aside <| .refl _)
  · exact (hjoined _).aside (lapse_aside _ _ _ <| .refl _)

/-- R20, R21: the end of an admission concerns its own port alone. -/
theorem admitted (n : Nat) (b : Int) (h : Local p s t) : Local p s (admitted p n b t) := (h.showNow _).withdraw.toHolding

end Local

end Sys2Proof.Machine

/-! PROOFS. Where a dialog's step can end with its slots in order (R12 to R25): waiting for a card, holding one, or with a verb issued. -/

namespace Sys2Proof.Machine

open Sys2Proof

variable {s t u : State} {p : Port} {c : Content}

/-- What `State.slotsHold` says of one port's context, but for its direction's credit slots. -/
def State.contextHolds (s : State) (p : Port) : Prop :=
  (s.ctx p).holdsSlots ∧ (s.ctx p).knowsCard ∧ (s.port p).awaited (s.ctx p)
    ∧ ((s.ctx p).state = .judging → s.tariff.active.isSome = true)

/-- The slots are in order but for the context of port `p`, which is in the middle of its step and has no request in the proof queue
that is not abandoned. -/
structure InHand (p : Port) (s : State) : Prop where
  accounts : s.Accounts 0
  other : s.contextHolds (otherPort p)
  timer : s.dialog.proofTimer.isSome = true ↔ s.dialog.proofQueue ≠ []
  behind : ∀ r ∈ s.dialog.proofQueue.tail, r.abandoned = false
  once : ∀ q, s.dialog.proofQueue.countP (fun r => !r.abandoned && r.port == q) ≤ 1
  owned : ∀ r ∈ s.dialog.proofQueue, r.abandoned = false →
    r.port = otherPort p ∧ (s.ctx (otherPort p)).state = .checking

theorem State.slotsHold_iff : s.slotsHold ↔ s.Accounts 0 ∧ (∀ p, s.contextHolds p) ∧ s.proofQueueHolds := by
  refine ⟨fun ⟨hports, ⟨hres, hheld, hcap, hused⟩, hqueue⟩ => ⟨⟨fun p => (hports p).1, hres, hheld, hcap, hused⟩,
    fun p => (hports p).2, hqueue⟩, fun ⟨⟨hcredits, hres, hheld, hcap, hused⟩, hports, hqueue⟩ =>
    ⟨fun p => ⟨hcredits p, hports p⟩, ⟨hres, hheld, hcap, hused⟩, hqueue⟩⟩

/-- What leaves the dialogs aside keeps the slots. -/
theorem Aside.slotsHold (k : Aside s t) (h : s.slotsHold) : t.slotsHold := by
  obtain ⟨haccounts, hports, hqueue⟩ := State.slotsHold_iff.mp h
  refine State.slotsHold_iff.mpr ⟨k.accounts 0 haccounts, fun p => ?_, ?_⟩
  · have := hports p
    rwa [State.contextHolds, State.ctx, State.port, k.dialog, k.active]
  · simp only [State.proofQueueHolds, State.ctx, k.dialog] at hqueue ⊢
    exact hqueue

theorem ne_otherPort {q : Port} (h : q ≠ p) : q = otherPort p := by
  cases p <;> cases q <;> simp_all [otherPort]

theorem State.slotsHold.inHand (h : s.slotsHold) (hp : (s.ctx p).state ≠ .checking) : InHand p s := by
  obtain ⟨haccounts, hports, htimer, hbehind, honce, howned⟩ := State.slotsHold_iff.mp h
  refine ⟨haccounts, hports _, htimer, hbehind, honce, fun r hr hr' => ?_⟩
  have hchecking := howned r hr hr'
  have hother : r.port = otherPort p := ne_otherPort fun e => hp (e ▸ hchecking)
  exact ⟨hother, hother ▸ hchecking⟩

theorem InHand.of_local (h : InHand p s) (k : Local p s t) : InHand p t where
  accounts := k.accounts 0 h.accounts
  other := by
    have := h.other
    rwa [State.contextHolds, k.ctx, k.port, k.active]
  timer := by rw [k.queue, k.timer]; exact h.timer
  behind := by rw [k.queue]; exact h.behind
  once := by rw [k.queue]; exact h.once
  owned := by rw [k.queue, k.ctx]; exact h.owned

theorem InHand.slotsHold (h : InHand p s) (hp : s.contextHolds p) : s.slotsHold :=
  State.slotsHold_iff.mpr ⟨h.accounts, forall_ports p hp h.other, h.timer, h.behind, h.once, fun r hr hr' => by
    obtain ⟨hport, hstate⟩ := h.owned r hr hr'
    rwa [hport]⟩

/-! ### What the operations leave of the context and the link of their port -/

@[simp] theorem flushShow_ctx (p q : Port) (s : State) : (flushShow p s).ctx q = s.ctx q := by
  unfold flushShow
  split <;> rfl

@[simp] theorem flushShow_outstanding (p : Port) (s : State) : ((flushShow p s).port p).outstanding = (s.port p).outstanding := by
  unfold flushShow
  split
  · simp [State.send, State.port, State.onPort, State.onDialog]
  · rfl

@[simp] theorem showNow_ctx (p q : Port) (w : Show) (s : State) : (showNow p w s).ctx q = s.ctx q := flushShow_ctx ..

@[simp] theorem showNow_outstanding (p : Port) (w : Show) (s : State) :
    ((showNow p w s).port p).outstanding = (s.port p).outstanding := by
  rw [showNow, flushShow_outstanding, State.port_onPort]

@[simp] theorem withdraw_port (p q : Port) (s : State) : (withdraw p s).port q = s.port q := by
  unfold withdraw
  split <;> rfl

theorem withdraw_ctx (p : Port) (s : State) : (withdraw p s).ctx p = { s.ctx p with inFlight := false } := by
  unfold withdraw
  split
  · exact State.ctx_onCtx ..
  next h =>
    generalize s.ctx p = x at h
    obtain ⟨⟩ := x
    simp at h
    subst h
    rfl

@[simp] theorem issue_ctx (p q : Port) (v : Purpose) (s : State) : (issue p v s).ctx q = s.ctx q := by
  simp only [issue, drawChallenge]
  split <;> exact flushShow_ctx p q s

theorem issue_outstanding (p : Port) (v : Purpose) (s : State) :
    ∃ o, ((issue p v s).port p).outstanding = some o ∧ o.purpose = v ∧ o.dropped = false := by
  refine ⟨⟨v, nextTag ((flushShow p s).port p).tag, (flushShow p s).params.timeAllowed v, (flushShow p s).drawn v, false⟩, ?_, rfl, rfl⟩
  simp only [issue, drawChallenge]
  split <;> simp [State.send, State.port, State.onPort, State.onDialog]

theorem startPoll_ctx (p : Port) (s : State) : (startPoll p s).ctx p =
    { s.ctx p with
      pollTimer := some (s.params.pollPeriod s.lane.tempo), pollPeriod := s.params.pollPeriod s.lane.tempo } := by
  simp [startPoll]

@[simp] theorem startPoll_port (p q : Port) (s : State) : (startPoll p s).port q = s.port q := rfl

@[simp] theorem toHolding_port (p q : Port) (s : State) : (toHolding p s).port q = s.port q := by
  simp only [toHolding]
  split <;> rfl

/-- R25: the context in HOLDING; the poll timer runs, or waits for the verb outstanding to end. -/
theorem toHolding_ctx (p : Port) (s : State) : (toHolding p s).ctx p =
    let held : Context := { s.ctx p with state := .holding, switchHeld := false, attempts := 0, marking := none, pollTimer := none }
    if (s.port p).outstanding.isNone then
      { held with pollTimer := some (s.params.pollPeriod s.lane.tempo), pollPeriod := s.params.pollPeriod s.lane.tempo }
    else held := by
  by_cases h : (s.port p).outstanding.isNone = true
  · rw [if_pos h, toHolding, if_pos (by exact h), startPoll_ctx, State.ctx_onCtx]
    rfl
  · rw [if_neg h, toHolding, if_neg (by exact h), State.ctx_onCtx]

/-! ### Ends of a step -/

/-- R2: a verb issued by a context whose slots and knowledge are those of a state that waits for it. -/
theorem issue_slots {v : Purpose} (h : InHand p s) (hslots : (s.ctx p).holdsSlots) (hknows : (s.ctx p).knowsCard)
    (hpoll : (s.ctx p).pollTimer = none) (hstate : (s.ctx p).state ∈ v.awaitedIn) : (issue p v s).slotsHold := by
  refine (h.of_local ((Local.refl p s).issue v)).slotsHold ⟨by rwa [issue_ctx], by rwa [issue_ctx], fun o ho => ?_, fun hj => ?_⟩
  · obtain ⟨o', ho', hpurpose, hdropped⟩ := issue_outstanding p v s
    cases ho'.symm.trans ho
    rw [issue_ctx, hdropped, hpurpose]
    exact ⟨hpoll, hstate⟩
  · rw [issue_ctx] at hj
    rw [hj] at hstate
    cases v <;> simp [Purpose.awaitedIn] at hstate

/-- R23: a context in HOLDING, its reservations given back; a verb still outstanding has lost its context. -/
theorem toHolding_slots (h : InHand p s) (hc : (s.ctx p).creditRes = false) (hj : (s.ctx p).journalRes = 0)
    (ho : ∀ o, (s.port p).outstanding = some o → o.dropped = true) : (toHolding p s).slotsHold := by
  have hctx := toHolding_ctx p s
  refine (h.of_local (Local.refl p s).toHolding).slotsHold ⟨?_, ?_, fun o ho' => ?_, ?_⟩
  · rw [hctx]
    split <;> exact ⟨hc, hj⟩
  · rw [hctx]
    split <;> simp [Context.knowsCard]
  · rw [toHolding_port] at ho'
    rw [hctx, ho']
    exact ⟨rfl, by rw [ho o ho']; rfl⟩
  · rw [hctx]
    split <;> exact nofun

/-- Section 1.2: a context back in IDLE, with no verb outstanding. -/
theorem toIdle_slots (h : InHand p s) (hc : (s.ctx p).creditRes = false) (hj : (s.ctx p).journalRes = 0)
    (ho : (s.port p).outstanding = none) : (toIdle p s).slotsHold := by
  have hctx : (toIdle p s).ctx p =
      { pollTimer := some (s.params.pollPeriod s.lane.tempo), pollPeriod := s.params.pollPeriod s.lane.tempo } := by
    rw [toIdle, startPoll_ctx, State.ctx_onCtx]
    rfl
  have hidle : Local p s (toIdle p s) := ((Local.refl p s).onCtx (f := fun _ => {}) hc.symm hj.symm).startPoll
  refine (h.of_local hidle).slotsHold ⟨?_, ?_, fun o ho' => ?_, ?_⟩
  · rw [hctx]
    exact ⟨rfl, rfl⟩
  · rw [hctx]
    simp [Context.knowsCard]
  · have hport : (toIdle p s).port p = s.port p := rfl
    rw [hport, ho] at ho'
    cases ho'
  · rw [hctx]
    exact nofun

/-- R5: a context in HOLDING starts its poll timer again. -/
theorem startPoll_slots (h : InHand p s) (hstate : (s.ctx p).state = .holding) (hslots : (s.ctx p).holdsSlots)
    (hknows : (s.ctx p).knowsCard) (ho : (s.port p).outstanding = none) : (startPoll p s).slotsHold := by
  have hctx := startPoll_ctx p s
  obtain ⟨hcard, himage, hheld, -⟩ := hknows
  refine (h.of_local (Local.refl p s).startPoll).slotsHold ⟨?_, ?_, fun o ho' => ?_, ?_⟩
  · rw [hctx]
    exact hslots
  · rw [hctx]
    exact ⟨hcard, himage, hheld, fun _ => .inr hstate⟩
  · rw [startPoll_port, ho] at ho'
    cases ho'
  · rw [hctx]
    simp [hstate]

/-! ### Refusals -/

theorem dropCreditRes_port (p q : Port) (s : State) : (dropCreditRes p s).port q = s.port q := by
  rw [State.port, (dropCreditRes_eq p s).2.2.2.2.1, State.port]

/-- R23: what a refusal leaves of the context before it concludes. -/
theorem refusalRecord_dropCreditRes (p : Port) (code : RefusalCode) (s : State) :
    (refusalRecord p code (dropCreditRes p s)).ctx p = { s.ctx p with creditRes := false, journalRes := 0 }
      ∧ (refusalRecord p code (dropCreditRes p s)).port = s.port := by
  obtain ⟨hctx, -, hport, -⟩ := refusalRecord_eq p code (dropCreditRes p s)
  refine ⟨by rw [hctx, (dropCreditRes_eq p s).1], ?_⟩
  funext q
  rw [State.port, hport]
  exact dropCreditRes_port p q s

/-- R22 to R24: a refusal gives the slots back; the context then holds its card, or waits for its MARK. -/
theorem refuse_slots {code : RefusalCode} {mark : Bool} {amount : Option Nat} (h : InHand p s)
    (ho : ∀ o, (s.port p).outstanding = some o → o.dropped = true) (hpoll : mark = true → (s.ctx p).pollTimer = none) :
    (refuse p code mark amount s).slotsHold := by
  obtain ⟨hctx, hport⟩ := refusalRecord_dropCreditRes p code s
  have hrecord : Local p s (refusalRecord p code (dropCreditRes p s)) := (Local.refl p s).dropCreditRes.refusalRecord code
  simp only [refuse]
  split
  next hmark =>
    have hpoll := hpoll hmark
    refine issue_slots (h.of_local (hrecord.onCtx
      (f := fun x => { x with state := .marking, marking := some code, switchHeld := false }) rfl rfl)) ?_ ?_ ?_ ?_
    · rw [State.ctx_onCtx, hctx]
      exact ⟨rfl, rfl⟩
    · rw [State.ctx_onCtx, hctx]
      simp [Context.knowsCard, hpoll]
    · rw [State.ctx_onCtx, hctx]
      exact hpoll
    · rw [State.ctx_onCtx]
      simp [Purpose.awaitedIn]
  next =>
    refine toHolding_slots (h.of_local (hrecord.showNow _).withdraw) ?_ ?_ fun o => ?_
    · rw [withdraw_ctx, showNow_ctx, hctx]
    · rw [withdraw_ctx, showNow_ctx, hctx]
    · rw [withdraw_port, showNow_outstanding, hport]
      exact ho o

end Sys2Proof.Machine

/-! PROOFS. The slots when a verb ends (R3 to R8, R16 to R20, R24). -/

namespace Sys2Proof.Machine

open Sys2Proof

variable {s t u : State} {p : Port} {c : Content} {v : Purpose}

/-- A context whose verb has just ended, everything else in order. -/
structure Paused (p : Port) (s : State) : Prop where
  inHand : InHand p s
  outstanding : (s.port p).outstanding = none
  poll : (s.ctx p).pollTimer = none
  slots : (s.ctx p).holdsSlots
  knows : (s.ctx p).knowsCard

/-- R3: the verb that a context waits for has ended. -/
theorem State.slotsHold.endVerb {o : Outstanding} (h : s.slotsHold) (ho : (s.port p).outstanding = some o) (hd : o.dropped = false) :
    Paused p (endVerb p s) ∧ (s.ctx p).state ∈ o.purpose.awaitedIn := by
  obtain ⟨-, hports, -⟩ := State.slotsHold_iff.mp h
  obtain ⟨hslots, hknows, hawaited, -⟩ := hports p
  obtain ⟨hpoll, hstate⟩ := hawaited o ho
  rw [hd] at hstate
  have hin : (s.ctx p).state ∈ o.purpose.awaitedIn := hstate
  have hne : (s.ctx p).state ≠ .checking := fun e => by
    rw [e] at hin
    cases hp : o.purpose <;> simp [hp, Purpose.awaitedIn] at hin
  refine ⟨⟨(h.inHand hne).of_local (Local.refl p s).endVerb, endVerb_outstanding p s, ?_, ?_, ?_⟩, hin⟩
  all_goals rwa [endVerb_ctx]

theorem Paused.undropped (h : Paused p s) : ∀ o, (s.port p).outstanding = some o → o.dropped = true := by
  rw [h.outstanding]
  exact nofun

/-- R12, R23: a context that is neither in its fare phase nor held for a switch holds no slot. -/
theorem Context.holdsSlots.none {x : Context} (h : x.holdsSlots)
    (hs : x.state ∈ [.idle, .sensing, .reading, .proving, .checking, .marking, .holding]) : x.creditRes = false ∧ x.journalRes = 0 := by
  unfold Context.holdsSlots at h
  split at h
  all_goals simp_all

/-- A change of the attempts alone. -/
theorem Paused.withAttempts (h : Paused p s) (n : Nat) : Paused p (s.onCtx p fun x => { x with attempts := n }) where
  inHand := h.inHand.of_local ((Local.refl p s).onCtx rfl rfl)
  outstanding := h.outstanding
  poll := by rw [State.ctx_onCtx]; exact h.poll
  slots := by rw [State.ctx_onCtx]; exact h.slots
  knows := by rw [State.ctx_onCtx]; exact h.knows

theorem Paused.showNow (h : Paused p s) (w : Show) : Paused p (showNow p w s) where
  inHand := h.inHand.of_local ((Local.refl p s).showNow w)
  outstanding := by rw [showNow_outstanding]; exact h.outstanding
  poll := by rw [showNow_ctx]; exact h.poll
  slots := by rw [showNow_ctx]; exact h.slots
  knows := by rw [showNow_ctx]; exact h.knows

theorem Paused.refuse_slots {code : RefusalCode} {mark : Bool} {amount : Option Nat} (h : Paused p s) :
    (refuse p code mark amount s).slotsHold := Machine.refuse_slots h.inHand h.undropped fun _ => h.poll

/-- R4: the verb of a step issued again. -/
theorem Paused.issue_slots (h : Paused p s) (hstate : (s.ctx p).state ∈ v.awaitedIn) : (issue p v s).slotsHold :=
  Machine.issue_slots h.inHand h.slots h.knows h.poll hstate

theorem Paused.retryOr_slots {failed : State → State} (h : Paused p s) (hstate : (s.ctx p).state ∈ v.awaitedIn)
    (hfailed : (failed s).slotsHold) : (retryOr p v failed s).slotsHold := by
  unfold retryOr
  split
  · refine (h.withAttempts ((s.ctx p).attempts + 1)).issue_slots ?_
    rw [State.ctx_onCtx]
    exact hstate
  · exact hfailed

theorem Paused.toIdle_slots (h : Paused p s)
    (hs : (s.ctx p).state ∈ [.idle, .sensing, .reading, .proving, .checking, .marking, .holding]) : (toIdle p s).slotsHold :=
  Machine.toIdle_slots h.inHand (h.slots.none hs).1 (h.slots.none hs).2 h.outstanding

theorem Paused.toHolding_slots (h : Paused p s)
    (hs : (s.ctx p).state ∈ [.idle, .sensing, .reading, .proving, .checking, .marking, .holding]) : (toHolding p s).slotsHold :=
  Machine.toHolding_slots h.inHand (h.slots.none hs).1 (h.slots.none hs).2 h.undropped

theorem Paused.tryAgain_slots {lost : Bool} (h : Paused p s)
    (hs : (s.ctx p).state ∈ [.idle, .sensing, .reading, .proving, .checking, .marking, .holding]) : (tryAgain p lost s).slotsHold := by
  have hshown := h.showNow ⟨.tryAgain, none, none⟩
  simp only [tryAgain]
  split
  · exact hshown.toIdle_slots (by rwa [showNow_ctx])
  · exact hshown.toHolding_slots (by rwa [showNow_ctx])

/-! ### SENSE, READ and PROVE -/

/-- R5, R6: a tap starts a dialog afresh. -/
theorem startDialog_slots {n : Nat} (h : InHand p s) (hc : (s.ctx p).creditRes = false) (hj : (s.ctx p).journalRes = 0) :
    (startDialog p n s).slotsHold := by
  have hfresh : Local p s (makeBrisk (s.onCtx p fun _ => { state := .reading, cardId := some n })) :=
    ((Local.refl p s).onCtx (f := fun _ => { state := .reading, cardId := some n }) hc.symm hj.symm).aside (makeBrisk_aside (.refl _))
  have hctx : (makeBrisk (s.onCtx p fun _ => { state := .reading, cardId := some n })).ctx p
      = { state := .reading, cardId := some n } := State.ctx_onCtx p (fun _ => { state := .reading, cardId := some n }) s
  refine issue_slots (h.of_local (hfresh.onCtx rfl rfl)) ?_ ?_ ?_ ?_
  all_goals rw [State.ctx_onCtx, hctx]
  · exact ⟨rfl, rfl⟩
  · simp [Context.knowsCard]
  · simp [Purpose.awaitedIn]

theorem Paused.senseFound_slots {r : SenseResult} (h : Paused p s) (hs : (s.ctx p).state ∈ Purpose.sense.awaitedIn) :
    (senseFound p r s).slotsHold := by
  have hfree : (s.ctx p).state ∈ [.idle, .sensing, .reading, .proving, .checking, .marking, .holding] := by
    simp [Purpose.awaitedIn] at hs ⊢
    tauto
  obtain ⟨hc, hj⟩ := h.slots.none hfree
  unfold senseFound
  split
  · exact h.toIdle_slots hfree
  · have hshown := h.showNow ⟨.oneCard, none, none⟩
    unfold pollAgain
    split
    next hhold => exact startPoll_slots hshown.inHand hhold hshown.slots hshown.knows hshown.outstanding
    next => exact hshown.toIdle_slots (by rwa [showNow_ctx])
  · split
    next hheld => exact startPoll_slots h.inHand hheld.1 h.slots h.knows h.outstanding
    next => exact startDialog_slots h.inHand hc hj

/-- R7: the image is kept, and PROVE issued. -/
theorem Paused.keepImage_slots {i : Image} (h : Paused p s) (hs : (s.ctx p).state = .reading) : (keepImage p i s).slotsHold := by
  obtain ⟨hc, hj⟩ := h.slots.none (by simp [hs])
  have hcard : (s.ctx p).cardId.isSome = true := h.knows.1 (by simp [hs])
  have hheld : (s.ctx p).switchHeld = false := by
    have := h.knows.2.2.1
    rw [hs] at this
    simpa using this
  refine Machine.issue_slots (h.inHand.of_local (((Local.refl p s).onCtx (f := fun c =>
    { c with state := .proving, image := some i, preCounter := some i.counter, preBalance := some i.balance }) rfl rfl).onCtx
      (f := fun c => { c with attempts := 1 }) rfl rfl)) ?_ ?_ ?_ ?_
  all_goals rw [State.ctx_onCtx, State.ctx_onCtx]
  · exact ⟨hc, hj⟩
  · simp [Context.knowsCard, hcard, hheld, h.poll]
  · exact h.poll
  · simp [Purpose.awaitedIn]

theorem Paused.imageRead_slots {b : List Byte} (h : Paused p s) (hs : (s.ctx p).state = .reading) : (imageRead p b s).slotsHold := by
  unfold imageRead
  split
  · exact h.refuse_slots
  · split
    · exact h.refuse_slots
    · exact h.keepImage_slots hs

/-! ### Findings and admissions -/

theorem Local.cloneFinding (n : Nat) (r : CloneReason) (k : Nat) (b : Int) (h : Local p s t) :
    Local p s (cloneFinding p n r k b t) := by
  have hfound : Local p s (addFound .localPart n t) := h.aside (addFound_aside _ _ (.refl t))
  have hclone (x : Content) : Local p s (appendClone p x (addFound .localPart n t)) := by
    unfold appendClone
    split
    next hfree => exact hfound.aside (appendRecord_aside (.refl _) hfree)
    split
    next hres => exact hfound.spendJournalRes x hres
    next => exact hfound.aside ⟨rfl, rfl, fun _ hb => hb.of_le rfl rfl (fun _ => le_rfl) rfl ⟨rfl, rfl⟩ id⟩
  exact (hclone _).aside (event_aside _ <| broadcastSuspect_aside _ <| .refl _)

/-- R48, R154: a clone finding takes no more of its context than a journal slot. -/
theorem cloneFinding_ctx (p : Port) (n : Nat) (r : CloneReason) (k : Nat) (b : Int) (s : State) :
    ∃ m, (cloneFinding p n r k b s).ctx p = { s.ctx p with journalRes := m } := by
  simp only [cloneFinding, appendClone]
  repeat' split
  · exact ⟨(s.ctx p).journalRes, by simp [State.ctx]⟩
  · exact ⟨(s.ctx p).journalRes - 1, by simp [State.ctx, State.onCtx, State.onDialog]⟩
  · exact ⟨(s.ctx p).journalRes, by simp [State.ctx]⟩

theorem cloneFinding_port (p q : Port) (n : Nat) (r : CloneReason) (k : Nat) (b : Int) (s : State) :
    (cloneFinding p n r k b s).port q = s.port q := by
  simp only [cloneFinding, appendClone]
  repeat' split
  all_goals simp [State.port, State.onCtx, State.onDialog]

/-- R48: a clone finding and its refusal. -/
theorem refuseClone_slots {n : Nat} {r : CloneReason} {k : Nat} {b : Int} (h : InHand p s)
    (ho : (s.port p).outstanding = none) (hpoll : (s.ctx p).pollTimer = none) : (refuseClone p n r k b s).slotsHold := by
  obtain ⟨m, hctx⟩ := cloneFinding_ctx p n r k b s
  refine refuse_slots (h.of_local ((Local.refl p s).cloneFinding n r k b)) ?_ fun _ => by rw [hctx]; exact hpoll
  rw [cloneFinding_port, ho]
  exact nofun

theorem spendCreditRes_ctx (p q : Port) (kind : CreditKind) (n : Nat) (s : State) :
    (spendCreditRes p kind n s).ctx q = (s.onCtx p fun c => { c with creditRes := false }).ctx q
      ∧ (spendCreditRes p kind n s).port q = s.port q := by
  simp [spendCreditRes, State.ctx, State.port, State.onCtx, State.onDialog]

/-- R20, R21: an admission leaves no slot reserved. -/
theorem admitted_slots {n : Nat} {b : Int} (h : InHand p s) (hc : (s.ctx p).creditRes = false) (hj : (s.ctx p).journalRes = 0)
    (ho : (s.port p).outstanding = none) : (admitted p n b s).slotsHold := by
  refine toHolding_slots (h.of_local ((Local.refl p s).showNow _).withdraw) ?_ ?_ ?_
  · rwa [withdraw_ctx, showNow_ctx]
  · rwa [withdraw_ctx, showNow_ctx]
  · rw [withdraw_port, showNow_outstanding, ho]
    exact nofun

/-- R20, R21: a reserved credit slot becomes a credit, and the context holds its card. -/
theorem admitted_spendCreditRes_slots {n m : Nat} {b : Int} {kind : CreditKind} (h : InHand p s)
    (hc : (s.ctx p).creditRes = true) (hj : (s.ctx p).journalRes = 0) (ho : (s.port p).outstanding = none) :
    (admitted p n b (spendCreditRes p kind m s)).slotsHold := by
  obtain ⟨hctx, hport⟩ := spendCreditRes_ctx p p kind m s
  rw [State.ctx_onCtx] at hctx
  refine admitted_slots (h.of_local ((Local.refl p s).spendCreditRes kind m hc)) ?_ ?_ (by rw [hport]; exact ho)
  · rw [hctx]
  · rw [hctx]
    exact hj

/-! ### The write -/

/-- Sections 1.7, 1.8: what a context whose write is outstanding holds and knows. -/
structure Context.Writes (x : Context) (i : Intended) (n pre : Nat) (preBalance : Int) : Prop where
  credit : x.creditRes = true
  least : 1 ≤ x.journalRes
  most : x.journalRes ≤ 2
  intended : x.intended = some i
  records : i.contents.length = x.journalRes
  card : x.cardId = some n
  counter : x.preCounter = some pre
  balance : x.preBalance = some preBalance

theorem Context.writes_of_state {x : Context} (hslots : x.holdsSlots) (hknows : x.knowsCard)
    (hs : x.state = .reckoning ∨ x.state = .committing ∨ x.state = .confirming) : ∃ i n pre b, x.Writes i n pre b := by
  have hheld : x.creditRes = true ∧ 1 ≤ x.journalRes ∧ x.journalRes ≤ 2
      ∧ x.intended.map (fun i => i.contents.length) = some x.journalRes := by
    unfold Context.holdsSlots at hslots
    obtain h | h | h := hs <;> simpa [h] using hslots
  obtain ⟨hcredit, hleast, hmost, hintended⟩ := hheld
  obtain ⟨i, hi, hlen⟩ := Option.map_eq_some_iff.mp hintended
  obtain ⟨hcard, himage, -⟩ := hknows
  obtain ⟨n, hn⟩ := Option.isSome_iff_exists.mp (hcard (by obtain h | h | h := hs <;> simp [h]))
  obtain ⟨-, hcounter, hbalance⟩ := himage (by obtain h | h | h := hs <;> simp [h])
  obtain ⟨pre, hpre⟩ := Option.isSome_iff_exists.mp hcounter
  obtain ⟨b, hb⟩ := Option.isSome_iff_exists.mp hbalance
  exact ⟨i, n, pre, b, hcredit, hleast, hmost, hi, hlen, hn, hpre, hb⟩

theorem appendWritten_used (k : Nat) (b : Int) (cs : List Content) (s : State) :
    (appendWritten k b cs s).journal.records.length = s.journal.records.length + cs.length
      ∧ (appendWritten k b cs s).journal.held = s.journal.held
      ∧ (appendWritten k b cs s).journal.reserved = s.journal.reserved - cs.length := by
  induction cs generalizing s with
  | nil => exact ⟨rfl, rfl, rfl⟩
  | cons x xs ih =>
    obtain ⟨hlen, hheld, hreserved⟩ := ih (appendReserved (x.written k b) s)
    obtain ⟨hlen', hheld', hreserved'⟩ := appendRecord_used (fun j => { j with reserved := j.reserved - 1 }) (x.written k b) s
    refine ⟨hlen.trans ?_, hheld.trans hheld', hreserved.trans ?_⟩
    · simp only [appendReserved, hlen', List.length_cons]
      omega
    · simp only [appendReserved, hreserved', List.length_cons]
      omega

/-- R20: the records of a confirmed write go into the slots that its context has reserved. -/
theorem Local.appendWritten (k : Nat) (b : Int) (cs : List Content) (h : Local p s t) (hcs : cs.length ≤ (t.ctx p).journalRes) :
    Local p s (appendWritten k b cs (t.onCtx p fun x => { x with journalRes := x.journalRes - cs.length })) := by
  obtain ⟨hlen, hheld, hreserved⟩ := appendWritten_used k b cs (t.onCtx p fun x => { x with journalRes := x.journalRes - cs.length })
  have hdialog := (appendWritten_frame k b cs (t.onCtx p fun x => { x with journalRes := x.journalRes - cs.length })).1
  obtain ⟨hown, hother⟩ := State.ctx_of_dialog hdialog
  refine h.trans ⟨hother, by rw [State.port, hdialog]; rfl, by rw [hdialog]; rfl, by rw [hdialog]; rfl,
    by simp [State.onCtx, State.onDialog], fun n hb => hb.of_journal (p := p) hother (by rw [hown])
      (by simp [State.onCtx, State.onDialog]) (by simp [State.onCtx, State.onDialog]) (by simp [State.onCtx, State.onDialog])
      ?_ (by rw [hheld]; rfl) ?_⟩
  all_goals
    have hle := hb.reserved
    rw [journalRes_ports p] at hle
  · rw [hown, hreserved]
    show t.journal.reserved - cs.length + (t.ctx p).journalRes = t.journal.reserved + ((t.ctx p).journalRes - cs.length)
    omega
  · have hused := hb.used
    simp only [Journal.used] at hused
    simp only [Journal.used, hlen, hheld, hreserved]
    show t.journal.records.length + cs.length + t.journal.held + (t.journal.reserved - cs.length) ≤ 512
    omega

/-- R20: a confirmed write concludes. -/
theorem concludeWrite_slots {i : Intended} {n pre : Nat} {b : Int} (h : InHand p s) (hw : (s.ctx p).Writes i n pre b)
    (ho : (s.port p).outstanding = none) : (concludeWrite p s).slotsHold := by
  simp only [concludeWrite, hw.intended, hw.card, hw.counter]
  have hlocal := (Local.refl p s).appendWritten (pre + 1) i.balance i.contents hw.records.le
  obtain ⟨hown, -⟩ := State.ctx_of_dialog
    (appendWritten_frame (pre + 1) i.balance i.contents
      (s.onCtx p fun x => { x with journalRes := x.journalRes - i.contents.length })).1
  have hport : (appendWritten (pre + 1) i.balance i.contents
      (s.onCtx p fun x => { x with journalRes := x.journalRes - i.contents.length })).port p = s.port p := by
    simp [State.port, State.onCtx, State.onDialog]
  have haside (r : Sighting) := writeAndBroadcast_aside r (.refl (appendWritten (pre + 1) i.balance i.contents
    (s.onCtx p fun x => { x with journalRes := x.journalRes - i.contents.length })))
  refine admitted_spendCreditRes_slots (h.of_local (hlocal.aside (haside _))) ?_ ?_ ?_
  · rw [State.ctx, (haside _).dialog]
    exact (congrArg Context.creditRes hown).trans hw.credit
  · rw [State.ctx, (haside _).dialog]
    refine (congrArg Context.journalRes hown).trans ?_
    have := hw.records
    simp only
    omega
  · rw [State.port, (haside _).dialog]
    exact (congrArg PortLink.outstanding hport).trans ho

theorem Context.Writes.holdsSlots {x : Context} {i : Intended} {n pre : Nat} {b : Int} (h : x.Writes i n pre b)
    (hs : x.state = .reckoning ∨ x.state = .committing ∨ x.state = .confirming) : x.holdsSlots := by
  have hheld : x.creditRes = true ∧ 1 ≤ x.journalRes ∧ x.journalRes ≤ 2
      ∧ x.intended.map (fun i => i.contents.length) = some x.journalRes :=
    ⟨h.credit, h.least, h.most, by rw [h.intended]; exact congrArg some h.records⟩
  unfold Context.holdsSlots
  obtain h | h | h := hs
  all_goals rw [h]; exact hheld

/-- A context after its write, with a verb of CONFIRMING or COMMITTING issued. -/
theorem issue_slots_of_writing {f : Context → Context} {i : Intended} {n pre : Nat} {b : Int} (h : InHand p s)
    (hw : (f (s.ctx p)).Writes i n pre b) (hc : (s.ctx p).creditRes = true) (hj : (f (s.ctx p)).journalRes = (s.ctx p).journalRes)
    (hs : (f (s.ctx p)).state = .committing ∨ (f (s.ctx p)).state = .confirming) (himage : (f (s.ctx p)).image.isSome = true)
    (hheld : (f (s.ctx p)).switchHeld = false) (hpoll : (f (s.ctx p)).pollTimer = none)
    (hstate : (f (s.ctx p)).state ∈ v.awaitedIn) : (issue p v (s.onCtx p f)).slotsHold := by
  refine issue_slots (h.of_local ((Local.refl p s).onCtx (hw.credit.trans hc.symm) hj)) ?_ ?_ ?_ ?_
  all_goals rw [State.ctx_onCtx]
  · exact hw.holdsSlots (.inr hs)
  · obtain h | h := hs <;>
      simp [Context.knowsCard, h, hw.card, hw.counter, hw.balance, himage, hheld, hpoll]
  · exact hpoll
  · exact hstate

/-- A paused context whose write is outstanding. -/
structure Writing (p : Port) (s : State) : Prop where
  paused : Paused p s
  state : (s.ctx p).state = .committing ∨ (s.ctx p).state = .confirming

theorem Writing.writes (h : Writing p s) : ∃ i n pre b, (s.ctx p).Writes i n pre b :=
  Context.writes_of_state h.paused.slots h.paused.knows (.inr h.state)

theorem Writing.known (h : Writing p s) : (s.ctx p).image.isSome = true ∧ (s.ctx p).switchHeld = false := by
  obtain ⟨-, himage, hheld, -⟩ := h.paused.knows
  refine ⟨(himage (by obtain h | h := h.state <;> simp [h])).1, ?_⟩
  obtain h | h := h.state <;> simpa [h] using hheld

/-- R17: the context enters CONFIRMING. -/
theorem Writing.enterConfirming_slots (h : Writing p s) : (enterConfirming p s).slotsHold := by
  obtain ⟨i, n, pre, b, hw⟩ := h.writes
  exact issue_slots_of_writing (f := fun c => { c with state := .confirming, attempts := 1 }) h.paused.inHand
    ⟨hw.credit, hw.least, hw.most, hw.intended, hw.records, hw.card, hw.counter, hw.balance⟩ hw.credit rfl (.inr rfl) h.known.1
    h.known.2 h.paused.poll (by simp [Purpose.awaitedIn])

/-- R18: COMMIT is issued once more. -/
theorem Writing.reissueCommit_slots (h : Writing p s) (hs : (s.ctx p).state = .confirming) : (reissueCommit p s).slotsHold := by
  obtain ⟨i, n, pre, b, hw⟩ := h.writes
  exact issue_slots_of_writing (f := fun c => { c with reissued := true }) h.paused.inHand
    ⟨hw.credit, hw.least, hw.most, hw.intended, hw.records, hw.card, hw.counter, hw.balance⟩ hw.credit rfl (.inr hs) h.known.1
    h.known.2 h.paused.poll (by simp [Purpose.awaitedIn, hs])

theorem Writing.concludeWrite_slots (h : Writing p s) : (concludeWrite p s).slotsHold := by
  obtain ⟨i, n, pre, b, hw⟩ := h.writes
  exact Machine.concludeWrite_slots h.paused.inHand hw h.paused.outstanding

/-! ### A torn write -/

/-- R39: the entry of a torn write takes the slot that was held for it. -/
theorem createRecovery_accounts {n : Nat} (e : RecoveryEntry) (h : s.Accounts (n + 1)) : (createRecovery e s).Accounts n := by
  obtain ⟨hcredits, hreserved, hheld, hcap, hused⟩ := (displace_aside (.refl s)).accounts _ h
  have hlt := displace_length_lt h.recovery
  refine ⟨hcredits, hreserved, ?_, ?_, hused⟩
  · simp only [createRecovery, State.onStanding, List.length_append, List.length_singleton]
    omega
  · simp only [createRecovery, State.onStanding, List.length_append, List.length_singleton]
    omega

/-- R19, R151: one of the slots that a context has reserved has become a held slot. -/
def slotHeld (p : Port) (s : State) : State := holdSlot (s.onCtx p fun c => { c with journalRes := c.journalRes - 1 })

theorem slotHeld_ctx (p : Port) (s : State) : (slotHeld p s).ctx p = { s.ctx p with journalRes := (s.ctx p).journalRes - 1 }
    ∧ (slotHeld p s).ctx (otherPort p) = s.ctx (otherPort p) :=
  State.ctx_of_dialog (f := fun c => { c with journalRes := c.journalRes - 1 }) rfl

theorem slotHeld_accounts {n : Nat} (h : s.Accounts n) (hres : 1 ≤ (s.ctx p).journalRes) :
    (slotHeld p s).Accounts (n + 1) := by
  obtain ⟨hown, hother⟩ := slotHeld_ctx p s
  have hle := h.reserved
  have hused := h.used
  rw [journalRes_ports p] at hle
  simp only [Journal.used] at hused
  refine h.of_journal (p := p) hother (by rw [hown]) rfl rfl rfl ?_ ?_ ?_
  · rw [hown]
    show s.journal.reserved - 1 + (s.ctx p).journalRes = s.journal.reserved + ((s.ctx p).journalRes - 1)
    omega
  · show s.journal.held + 1 + n = s.journal.held + (n + 1)
    omega
  · show s.journal.records.length + (s.journal.held + 1) + (s.journal.reserved - 1) ≤ 512
    omega

/-- R19: what a torn write leaves of its context. -/
theorem recordTorn_dialog (p : Port) (s : State) {i : Intended} {n pre : Nat} {b : Int} (hw : (s.ctx p).Writes i n pre b) :
    (recordTorn p s).dialog = (dropCreditRes p (dropJournalRes p (slotHeld p s))).dialog := by
  simp only [recordTorn, hw.intended, hw.card, hw.counter, hw.balance]
  simp [slotHeld]

theorem recordTorn_ctx {i : Intended} {n pre : Nat} {b : Int} (hw : (s.ctx p).Writes i n pre b) :
    (recordTorn p s).ctx p = { s.ctx p with creditRes := false, journalRes := 0 } ∧ (recordTorn p s).port p = s.port p := by
  have hdialog := recordTorn_dialog p s hw
  refine ⟨?_, ?_⟩
  · rw [State.ctx, hdialog]
    refine ((dropCreditRes_eq p _).1).trans ?_
    rw [dropJournalRes_ctx, (slotHeld_ctx p s).1]
  · rw [State.port, hdialog]
    exact dropCreditRes_port ..

/-- R19, R39: a torn write concerns its own port alone, and gives its slots back but for the one its entry holds. -/
theorem Local.recordTorn {i : Intended} {n pre : Nat} {b : Int} (hw : (s.ctx p).Writes i n pre b) : Local p s (recordTorn p s) := by
  have hgiven : Local p (slotHeld p s) (Machine.dropCreditRes p (Machine.dropJournalRes p (slotHeld p s))) :=
    (Local.refl p (slotHeld p s)).dropJournalRes.dropCreditRes
  have hdialog := recordTorn_dialog p s hw
  refine ⟨?_, ?_, ?_, ?_, by simp, fun m hb => ?_⟩
  · rw [State.ctx, hdialog]
    exact hgiven.ctx.trans (slotHeld_ctx p s).2
  · rw [State.port, hdialog]
    exact hgiven.port
  · rw [hdialog]
    exact hgiven.queue
  · rw [hdialog]
    exact hgiven.timer
  · have haccounts := hgiven.accounts _ (slotHeld_accounts (p := p) hb hw.least)
    simp only [Machine.recordTorn, hw.intended, hw.card, hw.counter, hw.balance]
    exact (writeSighting_aside _ (.refl _)).accounts m (createRecovery_accounts _ haccounts)

theorem broadcastTorn_aside (p : Port) (h : Aside s t) : Aside s (broadcastTorn p t) := by
  unfold broadcastTorn
  split
  · exact broadcastSight_aside _ h
  · exact h

/-- R19: a torn write leads to IDLE. -/
theorem Writing.torn_slots (h : Writing p s) : (torn p s).slotsHold := by
  obtain ⟨i, n, pre, b, hw⟩ := h.writes
  obtain ⟨hctx, hport⟩ := recordTorn_ctx hw
  have haside := broadcastTorn_aside p (.refl (recordTorn p s))
  have hlocal : Local p s (broadcastTorn p (recordTorn p s)) := (Local.recordTorn hw).aside haside
  have hctx' : (broadcastTorn p (recordTorn p s)).ctx p = (recordTorn p s).ctx p := by rw [State.ctx, haside.dialog, State.ctx]
  refine toIdle_slots (h.paused.inHand.of_local (hlocal.showNow _).withdraw) ?_ ?_ ?_
  · rw [withdraw_ctx, showNow_ctx, hctx', hctx]
  · rw [withdraw_ctx, showNow_ctx, hctx', hctx]
  · rw [withdraw_port, showNow_outstanding, State.port, haside.dialog]
    exact (congrArg PortLink.outstanding hport).trans h.paused.outstanding

/-- R50: a torn write whose card is a clone case. -/
theorem Writing.tornClone_slots (h : Writing p s) (j : Image) : (tornClone p j s).slotsHold := by
  obtain ⟨i, n, pre, b, hw⟩ := h.writes
  obtain ⟨hctx, hport⟩ := recordTorn_ctx hw
  have haside := broadcastTorn_aside p (.refl (recordTorn p s))
  have hlocal : Local p s (broadcastTorn p (recordTorn p s)) := (Local.recordTorn hw).aside haside
  have hctx' : (broadcastTorn p (recordTorn p s)).ctx p = (recordTorn p s).ctx p := by rw [State.ctx, haside.dialog, State.ctx]
  refine refuseClone_slots (h.paused.inHand.of_local hlocal.withdraw) ?_ ?_
  · rw [withdraw_port, State.port, haside.dialog]
    exact (congrArg PortLink.outstanding hport).trans h.paused.outstanding
  · rw [withdraw_ctx, hctx', hctx]
    exact h.paused.poll

/-- R17: a confirming READ that showed nothing. -/
theorem Writing.confirmAgain_slots (h : Writing p s) (hs : (s.ctx p).state = .confirming) : (confirmAgain p s).slotsHold := by
  obtain ⟨i, n, pre, b, hw⟩ := h.writes
  unfold confirmAgain
  split
  · exact issue_slots_of_writing (f := fun c => { c with attempts := c.attempts + 1 }) h.paused.inHand
      ⟨hw.credit, hw.least, hw.most, hw.intended, hw.records, hw.card, hw.counter, hw.balance⟩ hw.credit rfl (.inr hs) h.known.1
      h.known.2 h.paused.poll (by simp [Purpose.awaitedIn, hs])
  · exact h.torn_slots

theorem Writing.confirmEnds_slots (h : Writing p s) (hs : (s.ctx p).state = .confirming) (e : Ending) :
    (confirmEnds p e s).slotsHold := by
  have hjudged (i : Image) : (judgeConfirming p i s).slotsHold := by
    simp only [judgeConfirming]
    repeat' split
    · exact h.concludeWrite_slots
    · exact h.torn_slots
    · exact h.reissueCommit_slots hs
    · exact h.tornClone_slots i
  unfold confirmEnds
  repeat' split
  · exact hjudged _
  · exact h.confirmAgain_slots hs
  · exact h.confirmAgain_slots hs
  · exact h.confirmAgain_slots hs

/-! ### MARK -/

/-- R24: the MARK has ended. -/
theorem Paused.markEnds_slots (h : Paused p s) (hs : (s.ctx p).state = .marking) (lost : Bool) : (markEnds p lost s).slotsHold := by
  have hwithdrawn (t : State) (ht : Paused p t) (hst : (t.ctx p).state = .marking) :
      (if lost then toIdle p (withdraw p t) else toHolding p (withdraw p t)).slotsHold := by
    obtain ⟨hc, hj⟩ := ht.slots.none (by simp [hst])
    have hin := ht.inHand.of_local (Local.refl p t).withdraw
    split
    · refine Machine.toIdle_slots hin (by rwa [withdraw_ctx]) (by rwa [withdraw_ctx]) ?_
      rw [withdraw_port]
      exact ht.outstanding
    · refine Machine.toHolding_slots hin (by rwa [withdraw_ctx]) (by rwa [withdraw_ctx]) ?_
      rw [withdraw_port]
      exact ht.undropped
  cases hm : (s.ctx p).marking with
  | some code =>
    simp only [markEnds, hm]
    exact hwithdrawn _ (h.showNow _) (by rwa [showNow_ctx])
  | none =>
    simp only [markEnds, hm]
    exact hwithdrawn _ h hs

end Sys2Proof.Machine

/-! PROOFS. The slots when a proof is given, queued and answered, when a verdict falls, and when a change of mode refuses a dialog
(R9 to R15, R21, R25, R80, R82). -/

namespace Sys2Proof.Machine

open Sys2Proof

variable {s t u : State} {p : Port} {i : Image} {r : ProofRequest}

/-! ### The proof queue -/

/-- R9: sending the head request starts its time, and nothing more of the dialogs. -/
theorem sendCheck_dialog (s : State) :
    (∀ q, (sendCheck s).ctx q = s.ctx q) ∧ (∀ q, (sendCheck s).port q = s.port q)
      ∧ (sendCheck s).dialog.proofQueue = s.dialog.proofQueue
      ∧ ((s.dialog.proofTimer.isSome = true → s.dialog.proofQueue ≠ []) →
        ((sendCheck s).dialog.proofTimer.isSome = true ↔ s.dialog.proofQueue ≠ [])) := by
  unfold sendCheck
  split
  next x rest hq ht => exact ⟨fun _ => rfl, fun _ => rfl, rfl, fun _ => by simp [State.send, State.onDialog, hq]⟩
  next hno =>
    refine ⟨fun _ => rfl, fun _ => rfl, rfl, fun h => ⟨h, fun hq => ?_⟩⟩
    obtain ⟨x, rest, hq⟩ := List.exists_cons_of_ne_nil hq
    cases ht : s.dialog.proofTimer with
    | none => exact absurd ht (hno x rest hq)
    | some _ => rfl

theorem sendCheck_accounts {n : Nat} (h : s.Accounts n) : (sendCheck s).Accounts n := by
  obtain ⟨hctx, -⟩ := sendCheck_dialog s
  refine h.of_res (fun q => by rw [hctx]; exact ⟨rfl, rfl⟩) ?_ ?_ ?_ ?_ <;> simp

theorem State.contextHolds.of_eq (h : s.contextHolds p) (hctx : t.ctx p = s.ctx p) (hport : t.port p = s.port p)
    (hactive : t.tariff.active = s.tariff.active) : t.contextHolds p := by
  rwa [State.contextHolds, hctx, hport, hactive]

/-- The proof queue replaced, with what its requests must be for the slots to be in order. -/
theorem queued_slots {q : List ProofRequest} {timer : Timer} (haccounts : s.Accounts 0) (hports : ∀ p, s.contextHolds p)
    (htimer : timer.isSome = true → q ≠ []) (hbehind : ∀ r ∈ q.tail, r.abandoned = false)
    (honce : ∀ p, q.countP (fun r => !r.abandoned && r.port == p) ≤ 1)
    (howned : ∀ r ∈ q, r.abandoned = false → (s.ctx r.port).state = .checking) :
    (sendCheck (s.onDialog fun d => { d with proofQueue := q, proofTimer := timer })).slotsHold := by
  obtain ⟨hctx, hport, hqueue, hsent⟩ := sendCheck_dialog (s.onDialog fun d => { d with proofQueue := q, proofTimer := timer })
  have hset : (s.onDialog fun d => { d with proofQueue := q, proofTimer := timer }).Accounts 0 :=
    haccounts.of_res (fun _ => ⟨rfl, rfl⟩) rfl rfl rfl rfl
  refine State.slotsHold_iff.mpr ⟨sendCheck_accounts hset, fun p => ?_, ?_, ?_, ?_, ?_⟩
  · exact (hports p).of_eq (hctx p) (hport p) (by rw [(sendCheck_frame _).2.1]; rfl)
  · rw [hqueue]
    exact hsent htimer
  · rw [hqueue]
    exact hbehind
  · rw [hqueue]
    exact honce
  · rw [hqueue]
    intro r hr hr'
    rw [hctx]
    exact howned r hr hr'

theorem countP_port_le (q : List ProofRequest) (p : Port) (h : ∀ r ∈ q, r.abandoned = false → r.port ≠ p) :
    q.countP (fun r => !r.abandoned && r.port == p) = 0 := by
  rw [List.countP_eq_zero]
  intro r hr
  cases hr' : r.abandoned <;> simp
  exact h r hr hr'

/-- R8: the proof joins the queue, and the context is CHECKING. -/
theorem Paused.proofGiven_slots {challenge proof : BitVec 64} (h : Paused p s) (hs : (s.ctx p).state = .proving) :
    (proofGiven p challenge proof s).slotsHold := by
  obtain ⟨hc, hj⟩ := h.slots.none (by simp [hs])
  have hin := h.inHand.of_local ((Local.refl p s).onCtx (f := fun x => { x with state := .checking, attempts := 0 }) rfl rfl)
  have hown : ((s.onCtx p fun x => { x with state := .checking, attempts := 0 }).ctx p)
      = { s.ctx p with state := .checking, attempts := 0 } := State.ctx_onCtx ..
  have hnotOwn : ∀ r ∈ s.dialog.proofQueue, r.abandoned = false → r.port ≠ p := fun r hr hr' => by
    rw [(h.inHand.owned r hr hr').1]
    exact otherPort_ne p
  have hholds : (s.onCtx p fun x => { x with state := .checking, attempts := 0 }).contextHolds p := by
    obtain ⟨hcard, himage, hheld, -⟩ := h.knows
    refine ⟨?_, ?_, fun o ho => ?_, ?_⟩
    · rw [hown]
      exact ⟨hc, hj⟩
    · rw [hown]
      rw [hs] at hcard himage hheld
      simp only [Context.knowsCard, h.poll]
      simp_all
    · have : (s.port p).outstanding = some o := ho
      rw [h.outstanding] at this
      cases this
    · rw [hown]
      exact nofun
  refine queued_slots hin.accounts (forall_ports p hholds hin.other) (fun _ => by simp) ?_ ?_ ?_
  · intro r hr
    obtain hnil | ⟨x, xs, hq⟩ : s.dialog.proofQueue = [] ∨ ∃ x xs, s.dialog.proofQueue = x :: xs := by
      cases s.dialog.proofQueue <;> simp
    · have hr : r ∈ (s.dialog.proofQueue ++ [_]).tail := hr
      rw [hnil] at hr
      simp at hr
    · have hr : r ∈ (s.dialog.proofQueue ++ [_]).tail := hr
      rw [hq] at hr
      obtain hr | hr := List.mem_append.mp hr
      · exact h.inHand.behind r (by rw [hq]; exact hr)
      · rw [List.mem_singleton.mp hr]
  · intro q
    have hzero := countP_port_le s.dialog.proofQueue p hnotOwn
    have hle := h.inHand.once q
    show (s.dialog.proofQueue ++ [_]).countP _ ≤ 1
    rw [List.countP_append, List.countP_singleton]
    by_cases hq : p = q
    · subst hq
      rw [hzero]
      split <;> omega
    · simpa [hq] using hle
  · intro r hr hr'
    have hr : r ∈ s.dialog.proofQueue ++ [_] := hr
    obtain hr | hr := List.mem_append.mp hr
    · obtain ⟨hport, hstate⟩ := h.inHand.owned r hr hr'
      rw [hport, State.ctx_onCtx_other]
      exact hstate
    · rw [List.mem_singleton.mp hr, hown]

/-! ### The outcome of a CHECK -/

theorem List.countP_tail_le {α : Type} (f : α → Bool) (l : List α) : l.tail.countP f ≤ l.countP f := (List.tail_sublist l).countP_le

/-- R9: the head leaves the queue, and the next request is sent. -/
theorem popProof_slots (h : s.slotsHold) : (popProof s).slotsHold := by
  obtain ⟨haccounts, hports, -, hbehind, honce, howned⟩ := State.slotsHold_iff.mp h
  refine queued_slots haccounts hports nofun (fun x hx => ?_) (fun q => ?_) fun x hx hx' => ?_
  · exact hbehind x (List.mem_of_mem_tail hx)
  · exact (List.countP_tail_le ..).trans (honce q)
  · exact howned x (List.mem_of_mem_tail hx) hx'

/-- R9: a request whose outcome is known leaves its context in the middle of its step. -/
theorem popProof_inHand {rest : List ProofRequest} (h : s.slotsHold) (hq : s.dialog.proofQueue = r :: rest)
    (hr : r.abandoned = false) : InHand r.port (popProof s) ∧ (popProof s).ctx r.port = s.ctx r.port
      ∧ (popProof s).port r.port = s.port r.port := by
  obtain ⟨haccounts, hports, -, hbehind, honce, howned⟩ := State.slotsHold_iff.mp h
  obtain ⟨hctx, hport, hqueue, hsent⟩ := sendCheck_dialog (s.onDialog fun d => { d with proofQueue := d.proofQueue.tail, proofTimer := none })
  have htail : (popProof s).dialog.proofQueue = rest := hqueue.trans (by rw [State.onDialog]; simp [hq])
  have hrest : rest.countP (fun x => !x.abandoned && x.port == r.port) = 0 := by
    have := honce r.port
    rw [hq, List.countP_cons] at this
    simp only [hr, Bool.not_false, BEq.rfl, Bool.and_self, if_true] at this
    omega
  have hset : (s.onDialog fun d => { d with proofQueue := d.proofQueue.tail, proofTimer := none }).Accounts 0 :=
    haccounts.of_res (fun _ => ⟨rfl, rfl⟩) rfl rfl rfl rfl
  refine ⟨⟨sendCheck_accounts hset, ?_, ?_, ?_, fun q => ?_, fun x hx hx' => ?_⟩, hctx _, hport _⟩
  · exact (hports (otherPort r.port)).of_eq (hctx _) (hport _) (by rw [popProof, (sendCheck_frame _).2.1]; rfl)
  · rw [htail]
    refine (hsent nofun).trans ?_
    simp [State.onDialog, hq]
  · rw [htail]
    exact fun x hx => hbehind x (by rw [hq]; exact List.mem_of_mem_tail hx)
  · rw [htail]
    refine le_trans ?_ (honce q)
    rw [hq, List.countP_cons]
    omega
  · rw [htail] at hx
    have hne : x.port ≠ r.port := fun e => by
      have := List.countP_eq_zero.mp hrest x hx
      simp [hx', e] at this
    have hother := ne_otherPort hne
    refine ⟨hother, ?_⟩
    rw [popProof, hctx, ← hother]
    exact howned x (by rw [hq]; exact List.mem_cons_of_mem _ hx) hx'

/-- R9: CHECK is sent again for the head. -/
theorem resendCheck_slots {rest : List ProofRequest} (h : s.slotsHold) (hq : s.dialog.proofQueue = r :: rest) :
    (resendCheck r s).slotsHold := by
  obtain ⟨haccounts, hports, -, hbehind, honce, howned⟩ := State.slotsHold_iff.mp h
  rw [hq] at hbehind honce howned
  refine queued_slots haccounts hports nofun (fun x hx => ?_) (fun q => ?_) fun x hx hx' => ?_
  · rw [hq] at hx
    exact hbehind x hx
  · show (_ :: s.dialog.proofQueue.tail).countP _ ≤ 1
    rw [hq]
    simpa only [List.countP_cons, List.tail_cons] using honce q
  · have hx : x ∈ _ :: s.dialog.proofQueue.tail := hx
    rw [hq] at hx
    obtain rfl | hx := List.mem_cons.mp hx
    · exact howned r List.mem_cons_self hx'
    · exact howned x (List.mem_cons_of_mem _ hx) hx'

end Sys2Proof.Machine

/-! PROOFS. The slots when a verdict falls, when a context goes on into RECKONING, and when a change of mode refuses a dialog (R11 to R15,
R21, R25, R80, R82). -/

namespace Sys2Proof.Machine

open Sys2Proof

variable {s t u : State} {p : Port} {i : Image}

/-! ### Contexts that hold slots -/

/-- What a context has taken before its verdict (section 1.2). -/
def Context.known (x : Context) : Prop :=
  x.cardId.isSome = true ∧ x.image.isSome = true ∧ x.preCounter.isSome = true ∧ x.preBalance.isSome = true

theorem Context.knowsCard_of_known {x : Context} (h : x.known) (hheld : x.switchHeld = true ↔ x.state = .judging)
    (hpoll : x.pollTimer = none) : x.knowsCard :=
  ⟨fun _ => h.1, fun _ => h.2, hheld, fun hp => by simp [hpoll] at hp⟩

theorem Context.knowsCard.known {x : Context} (h : x.knowsCard)
    (hs : x.state ∈ [.checking, .judging, .reckoning, .committing, .confirming]) : x.known := by
  obtain ⟨hcard, himage, -⟩ := h
  refine ⟨hcard ?_, himage ?_⟩ <;> simp at hs ⊢ <;> tauto

/-- R3: a context that waits for no verb has none outstanding. -/
theorem State.contextHolds.quiet (h : s.contextHolds p) (hs : (s.ctx p).state ∈ [.idle, .checking, .judging, .reckoning]) :
    (s.port p).outstanding = none := by
  obtain ⟨-, -, hawaited, -⟩ := h
  cases ho : (s.port p).outstanding with
  | none => rfl
  | some o =>
    obtain ⟨-, hstate⟩ := hawaited o ho
    exfalso
    split at hstate
    · simp [hstate] at hs
    · generalize (s.ctx p).state = x at hstate hs
      cases hp : o.purpose <;> cases x <;> simp [hp, Purpose.awaitedIn] at hstate hs

theorem Context.knowsCard.poll {x : Context} (h : x.knowsCard) (hs : x.state ≠ .idle ∧ x.state ≠ .holding) : x.pollTimer = none := by
  cases hp : x.pollTimer with
  | none => rfl
  | some n =>
    obtain h | h := h.2.2.2 (by simp [hp])
    · exact absurd h hs.1
    · exact absurd h hs.2

/-- A context in JUDGING before its reservations: no verb, no poll timer, and `n` journal slots with a credit slot or without one. -/
structure Judging (credit : Bool) (n : Nat) (p : Port) (s : State) : Prop where
  inHand : InHand p s
  outstanding : (s.port p).outstanding = none
  poll : (s.ctx p).pollTimer = none
  state : (s.ctx p).state = .judging
  credit : (s.ctx p).creditRes = credit
  journal : (s.ctx p).journalRes = n
  known : (s.ctx p).known
  active : s.tariff.active.isSome = true

namespace Judging

variable {credit : Bool} {n : Nat}

theorem aside (h : Judging credit n p s) (k : Aside s t) : Judging credit n p t := by
  have hctx : t.ctx p = s.ctx p := by rw [State.ctx, k.dialog, State.ctx]
  refine ⟨h.inHand.of_local ((Local.refl p s).aside k), ?_, ?_, ?_, ?_, ?_, ?_, ?_⟩
  · rw [State.port, k.dialog]
    exact h.outstanding
  · rw [hctx]
    exact h.poll
  · rw [hctx]
    exact h.state
  · rw [hctx]
    exact h.credit
  · rw [hctx]
    exact h.journal
  · rw [hctx]
    exact h.known
  · rw [k.active]
    exact h.active

/-- A change of the context's reservations and no more. -/
theorem reserved {credit' : Bool} {n' : Nat} (h : Judging credit n p s) (k : Local p s t)
    (hctx : t.ctx p = { s.ctx p with creditRes := credit', journalRes := n' }) (hport : t.port p = s.port p) : Judging credit' n' p t :=
  ⟨h.inHand.of_local k, by rw [hport]; exact h.outstanding, by rw [hctx]; exact h.poll, by rw [hctx]; exact h.state, by rw [hctx],
    by rw [hctx], by rw [hctx]; exact h.known, by rw [k.active]; exact h.active⟩

theorem joinInFlight (m : Nat) (h : Judging credit n p s) : Judging credit n p (joinInFlight p m s) := by
  have hctx : (Machine.joinInFlight p m s).ctx p = { s.ctx p with inFlight := true } := State.ctx_onCtx ..
  exact ⟨h.inHand.of_local ((Local.refl p s).joinInFlight m), h.outstanding, by rw [hctx]; exact h.poll, by rw [hctx]; exact h.state,
    by rw [hctx]; exact h.credit, by rw [hctx]; exact h.journal, by rw [hctx]; exact h.known, h.active⟩

theorem refuse_slots {code : RefusalCode} {mark : Bool} {amount : Option Nat} (h : Judging credit n p s) :
    (refuse p code mark amount s).slotsHold := by
  refine Machine.refuse_slots h.inHand ?_ fun _ => h.poll
  rw [h.outstanding]
  exact nofun

theorem takeCreditRes (h : Judging false n p s) (hfree : s.creditSlotFree (portDirection p) = true) :
    Judging true n p (takeCreditRes p s) := by
  obtain ⟨hown, -⟩ := State.ctx_of_dialog (t := s) (p := p) (f := fun c => { c with creditRes := true })
    (u := Machine.takeCreditRes p s) rfl
  have hjournal := h.journal
  refine h.reserved ((Local.refl p s).takeCreditRes h.credit hfree) ?_ rfl
  rw [hown]
  subst hjournal
  rfl

theorem takeJournalRes (h : Judging credit n p s) (hfree : 1 ≤ s.journal.free) : Judging credit (n + 1) p (takeJournalRes p s) := by
  have hdialog : (Machine.takeJournalRes p s).dialog = (s.onCtx p fun c => { c with journalRes := c.journalRes + 1 }).dialog :=
    (reserveJournal_frame _).1
  have hjournal := h.journal
  have hcredit := h.credit
  refine h.reserved ((Local.refl p s).takeJournalRes hfree) ?_ (by rw [State.port, hdialog]; rfl)
  rw [(State.ctx_of_dialog hdialog).1]
  subst hjournal hcredit
  rfl

end Judging

/-! ### RECKONING (R14) -/

theorem reckon_contents {d : Direction} {b : Bank} {c : Clock} {k : Intended} (h : reckon d b i c = .taken k) :
    1 ≤ k.contents.length ∧ k.contents.length ≤ 2 := by
  cases d
  · exact ⟨(reckonEntry_taken h).2.2.2.2.1, (reckonEntry_taken h).2.2.2.2.2.1⟩
  · exact ⟨(reckonExit_taken h).2.2.2.2.1, (reckonExit_taken h).2.2.2.2.2.1⟩

/-- R150: of the free slots more than 16 leave one to reserve. -/
theorem one_le_free_of_journalSlotFree (h : s.journalSlotFree = true) : 1 ≤ s.journal.free := by
  simp only [State.journalSlotFree, decide_eq_true_eq] at h
  omega

/-- A context in RECKONING whose Intended records stand. -/
theorem reckoning_slots {k : Intended} (h : InHand p s) (ho : (s.port p).outstanding = none) (hpoll : (s.ctx p).pollTimer = none)
    (hstate : (s.ctx p).state = .reckoning) (hheld : (s.ctx p).switchHeld = false) (hknown : (s.ctx p).known)
    (hcredit : (s.ctx p).creditRes = true) (hk : (s.ctx p).intended = some k) (hlen : k.contents.length = (s.ctx p).journalRes)
    (hpos : 1 ≤ k.contents.length ∧ k.contents.length ≤ 2) : s.slotsHold := by
  refine h.slotsHold ⟨?_, Context.knowsCard_of_known hknown (by simp [hheld, hstate]) hpoll, fun o ho' => ?_, ?_⟩
  · rw [Context.holdsSlots, hstate]
    exact ⟨hcredit, by omega, by omega, by rw [hk]; exact congrArg some hlen⟩
  · cases ho.symm.trans ho'
  · rw [hstate]
    exact nofun

/-- R14: a context gone on into RECKONING. -/
def reckoning (p : Port) (s : State) : State := s.onCtx p fun c => { c with state := .reckoning, switchHeld := false }

/-- R14: a context in RECKONING with its Intended records. -/
def reckoned (p : Port) (k : Intended) (s : State) : State := (reckoning p s).onCtx p fun c => { c with intended := some k }

@[simp] theorem reckoning_ctx (p : Port) (s : State) :
    (reckoning p s).ctx p = { s.ctx p with state := .reckoning, switchHeld := false } := State.ctx_onCtx ..

@[simp] theorem reckoned_ctx (p : Port) (k : Intended) (s : State) :
    (reckoned p k s).ctx p = { s.ctx p with state := .reckoning, switchHeld := false, intended := some k } := by
  rw [reckoned, State.ctx_onCtx, reckoning_ctx]

theorem Local.reckoning (h : Local p s t) : Local p s (reckoning p t) := by
  unfold Machine.reckoning
  exact h.onCtx rfl rfl

theorem Local.reckoned (k : Intended) (h : Local p s t) : Local p s (reckoned p k t) := by
  unfold Machine.reckoned
  exact h.reckoning.onCtx rfl rfl

theorem takeJournalRes_ctx (p : Port) (s : State) :
    (takeJournalRes p s).ctx p = { s.ctx p with journalRes := (s.ctx p).journalRes + 1 } := by
  rw [takeJournalRes, State.ctx, (reserveJournal_frame _).1]
  exact State.ctx_onCtx ..

@[simp] theorem takeJournalRes_port (p q : Port) (s : State) : (takeJournalRes p s).port q = s.port q := by
  simp [takeJournalRes, State.port, State.onCtx, State.onDialog]

/-- R14: the Fare Reckoner answers the Intended records. -/
theorem enterReckoning_taken {b : Bank} {k : Intended} (hb : s.tariff.active = some b) (hi : (s.ctx p).image = some i)
    (hk : reckon (portDirection p) b i s.clock = .taken k) : enterReckoning p s =
      if k.contents.length ≤ 1 then reckoned p k s
      else if s.journalSlotFree then takeJournalRes p (reckoned p k s) else refuse p .journalFull false none (reckoned p k s) := by
  have hi' : ((reckoning p s).ctx p).image = some i := by rw [reckoning_ctx]; exact hi
  have hk' : reckon (portDirection p) b i (reckoning p s).clock = .taken k := hk
  show (match (reckoning p s).tariff.active, ((reckoning p s).ctx p).image with
    | some b, some i =>
      match reckon (portDirection p) b i (reckoning p s).clock with
      | .insufficient amount => refuse p .insufficient false (some amount) (reckoning p s)
      | .taken r => keepIntended p r (reckoning p s)
    | _, _ => reckoning p s) = _
  simp only [show (reckoning p s).tariff.active = some b from hb, hi', hk']
  rfl

theorem enterReckoning_insufficient {b : Bank} {amount : Nat} (hb : s.tariff.active = some b) (hi : (s.ctx p).image = some i)
    (hk : reckon (portDirection p) b i s.clock = .insufficient amount) :
    enterReckoning p s = refuse p .insufficient false (some amount) (reckoning p s) := by
  have hi' : ((reckoning p s).ctx p).image = some i := by rw [reckoning_ctx]; exact hi
  have hk' : reckon (portDirection p) b i (reckoning p s).clock = .insufficient amount := hk
  show (match (reckoning p s).tariff.active, ((reckoning p s).ctx p).image with
    | some b, some i =>
      match reckon (portDirection p) b i (reckoning p s).clock with
      | .insufficient amount => refuse p .insufficient false (some amount) (reckoning p s)
      | .taken r => keepIntended p r (reckoning p s)
    | _, _ => reckoning p s) = _
  simp only [show (reckoning p s).tariff.active = some b from hb, hi', hk']

/-- R14: a context with its first slots goes on into RECKONING, or is refused. -/
theorem enterReckoning_slots (h : Judging true 1 p s) : (enterReckoning p s).slotsHold := by
  have hundropped : ∀ o, (s.port p).outstanding = some o → o.dropped = true := by
    rw [h.outstanding]
    exact nofun
  obtain ⟨b, hb⟩ := Option.isSome_iff_exists.mp h.active
  obtain ⟨i, hi⟩ := Option.isSome_iff_exists.mp h.known.2.1
  cases hk : reckon (portDirection p) b i s.clock with
  | insufficient amount =>
    rw [enterReckoning_insufficient hb hi hk]
    exact refuse_slots (h.inHand.of_local (Local.refl p s).reckoning) hundropped (by simp)
  | taken k =>
    have hcontents := reckon_contents hk
    have hjournal := h.journal
    have hkept := (Local.refl p s).reckoned k
    rw [enterReckoning_taken hb hi hk]
    split
    next hone =>
      refine reckoning_slots (k := k) (h.inHand.of_local hkept) h.outstanding ?_ ?_ ?_ ?_ ?_ ?_ ?_ hcontents
      all_goals rw [reckoned_ctx]
      · exact h.poll
      · exact h.known
      · exact h.credit
      · simp only
        omega
    next hmany =>
      split
      next hfree =>
        refine reckoning_slots (k := k) (h.inHand.of_local (hkept.takeJournalRes (one_le_free_of_journalSlotFree hfree)))
          (by rw [takeJournalRes_port]; exact h.outstanding) ?_ ?_ ?_ ?_ ?_ ?_ ?_ hcontents
        all_goals rw [takeJournalRes_ctx, reckoned_ctx]
        · exact h.poll
        · exact h.known
        · exact h.credit
        · simp only
          omega
      next => exact refuse_slots (h.inHand.of_local hkept) hundropped (by simp)

/-- R14, R80: a context with its first slots goes on, or is held for a switch. -/
theorem readyToReckon_slots (h : Judging true 1 p s) : (readyToReckon p s).slotsHold := by
  unfold readyToReckon
  split
  · have hctx : (s.onCtx p fun c => { c with switchHeld := true }).ctx p = { s.ctx p with switchHeld := true } := State.ctx_onCtx ..
    refine (h.inHand.of_local ((Local.refl p s).onCtx rfl rfl)).slotsHold ⟨?_, ?_, fun o ho => ?_, fun _ => h.active⟩
    · rw [hctx, Context.holdsSlots]
      simp only [h.state]
      exact ⟨h.credit, h.journal⟩
    · rw [hctx]
      exact Context.knowsCard_of_known h.known (by simp [h.state]) h.poll
    · cases h.outstanding.symm.trans ho
  · exact enterReckoning_slots h

/-! ### The verdict -/

/-- R12, R13: with the lane test passed and a credit slot free. -/
theorem creditSlotFree_of_laneRefusal (h : s.laneRefusal p = none) : s.creditSlotFree (portDirection p) = true := by
  unfold State.laneRefusal at h
  split at h
  · cases h
  · split at h
    next hfree => exact hfree
    next => cases h

theorem verdictProceed_slots (h : Judging false 0 p s) : (verdictProceed p s).slotsHold := by
  simp only [verdictProceed]
  split
  · exact h.refuse_slots
  next hnone =>
    have htaken := h.takeCreditRes (creditSlotFree_of_laneRefusal hnone)
    split
    next hfree => exact readyToReckon_slots (htaken.takeJournalRes (one_le_free_of_journalSlotFree hfree))
    next => exact htaken.refuse_slots

theorem concludeRegrant_slots {r : Sighting} (h : Judging true 1 p s) : (concludeRegrant p i r s).slotsHold := by
  have hspent := (Local.refl p s).spendJournalRes (regrantContent p i) (by rw [h.journal])
  have haside (x : Sighting) := writeAndBroadcast_aside x (.refl (appendReserved (regrantContent p i)
    (s.onCtx p fun c => { c with journalRes := c.journalRes - 1 })))
  obtain ⟨hown, -⟩ := State.ctx_of_dialog (p := p)
    (appendReserved_frame (regrantContent p i) (s.onCtx p fun c => { c with journalRes := c.journalRes - 1 })).1
  have hport : (appendReserved (regrantContent p i) (s.onCtx p fun c => { c with journalRes := c.journalRes - 1 })).port p = s.port p := by
    simp [State.port, State.onCtx, State.onDialog]
  refine admitted_spendCreditRes_slots (h.inHand.of_local (hspent.aside (haside _))) ?_ ?_ ?_
  · rw [State.ctx, (haside _).dialog]
    exact (congrArg Context.creditRes hown).trans h.credit
  · rw [State.ctx, (haside _).dialog]
    refine (congrArg Context.journalRes hown).trans ?_
    simp only [h.journal]
  · rw [State.port, (haside _).dialog]
    exact (congrArg PortLink.outstanding hport).trans h.outstanding

theorem verdictRegrant_slots {r : Sighting} (h : Judging false 0 p s) : (verdictRegrant p i r s).slotsHold := by
  simp only [verdictRegrant]
  split
  · exact h.refuse_slots
  next hnone =>
    have htaken := h.takeCreditRes (creditSlotFree_of_laneRefusal hnone)
    split
    next hfree => exact concludeRegrant_slots (htaken.takeJournalRes (one_le_free_of_journalSlotFree hfree))
    next => exact htaken.refuse_slots

theorem verdictSighting_slots (h : Judging false 0 p s) : (verdictSighting p i s).slotsHold := by
  have htouch := h.aside (touch_aside i.cardId (.refl s))
  simp only [verdictSighting]
  repeat' split
  · exact verdictProceed_slots htouch
  · exact refuseClone_slots htouch.inHand htouch.outstanding htouch.poll
  · exact verdictRegrant_slots htouch
  · exact htouch.refuse_slots
  · exact verdictProceed_slots htouch

theorem State.mem_of_recoveryOf {n : Nat} {e : RecoveryEntry} (h : s.recoveryOf n = some e) : e ∈ s.standing.recovery :=
  List.mem_of_find?_eq_some h

theorem verdictRecovered_slots {e : RecoveryEntry} (h : Judging false 0 p s) (he : e ∈ s.standing.recovery) :
    (verdictRecovered p i e s).slotsHold := by
  unfold verdictRecovered
  split
  · exact h.refuse_slots
  next hnone =>
    have htaken := (h.takeCreditRes (creditSlotFree_of_laneRefusal hnone)).aside (resolveRecovered_aside (t := takeCreditRes p s) he (.refl _))
    exact admitted_spendCreditRes_slots htaken.inHand htaken.credit htaken.journal htaken.outstanding

theorem verdictRecovery_slots (h : Judging false 0 p s) : (verdictRecovery p i s).slotsHold := by
  unfold verdictRecovery
  split
  · exact verdictSighting_slots h
  next e he =>
    have hmem := State.mem_of_recoveryOf he
    repeat' split
    · exact verdictRecovered_slots h hmem
    · exact verdictSighting_slots (h.aside (resolveRecovered_aside hmem (.refl s)))
    · exact verdictSighting_slots (h.aside (notApplied_aside hmem (.refl s)))
    · exact verdictSighting_slots (h.aside (resolveUnresolved_aside _ hmem (.refl s)))

/-- R11, R42: whatever the verdict, the slots are in order after it. -/
theorem judge_slots {o : ProofOutcome} (h : InHand p s) (ho : (s.port p).outstanding = none) (hpoll : (s.ctx p).pollTimer = none)
    (hstate : (s.ctx p).state = .judging) (hc : (s.ctx p).creditRes = false) (hj : (s.ctx p).journalRes = 0)
    (hknown : (s.ctx p).known) : (judge p i o s).slotsHold := by
  have hrefused (code : RefusalCode) (mark : Bool) : (refuse p code mark none s).slotsHold := by
    refine refuse_slots h ?_ fun _ => hpoll
    rw [ho]
    exact nofun
  unfold judge
  split
  · exact hrefused _ _
  next hactive =>
    have hjudging : Judging false 0 p s := ⟨h, ho, hpoll, hstate, hc, hj, hknown, by simpa [Option.isSome_iff_ne_none] using hactive⟩
    repeat' split
    · exact hrefused _ _
    · exact hrefused _ _
    · exact hrefused _ _
    · exact hrefused _ _
    · exact hrefused _ _
    · unfold verdictInFlight
      split
      · exact refuseClone_slots h ho hpoll
      · exact verdictRecovery_slots (hjudging.joinInFlight _)

/-- R9, R11: the outcome of a CHECK. -/
theorem checkEnds_slots {r : ProofRequest} {rest : List ProofRequest} (o : Option ProofOutcome) (h : s.slotsHold)
    (hq : s.dialog.proofQueue = r :: rest) : (checkEnds r o s).slotsHold := by
  have hknown (x : ProofOutcome) (hr : r.abandoned = false) : (proofKnown r.port x (popProof s)).slotsHold := by
    obtain ⟨hin, hctx, hport⟩ := popProof_inHand h hq hr
    obtain ⟨-, hports, -, -, -, howned⟩ := State.slotsHold_iff.mp h
    have hstate := howned r (by rw [hq]; exact List.mem_cons_self) hr
    have hholds := hports r.port
    obtain ⟨hslots, hknows, -, -⟩ := id hholds
    obtain ⟨hc, hj⟩ := hslots.none (by simp [hstate])
    have hquiet := hholds.quiet (by simp [hstate])
    have hpoll := hknows.poll (by simp [hstate])
    have hcard := hknows.known (by simp [hstate])
    unfold proofKnown
    split
    · have hjudging : ((popProof s).onCtx r.port fun c => { c with state := .judging, proof := some x }).ctx r.port
          = { s.ctx r.port with state := .judging, proof := some x } := by rw [State.ctx_onCtx, hctx]
      refine judge_slots (hin.of_local ((Local.refl r.port _).onCtx rfl rfl)) ?_ ?_ ?_ ?_ ?_ ?_
      · rw [State.port_onCtx, hport, hquiet]
      all_goals rw [hjudging]
      · exact hpoll
      · exact hc
      · exact hj
      · exact hcard
    next hno => 
      obtain ⟨i, hi⟩ := Option.isSome_iff_exists.mp hcard.2.1
      exact absurd (by rw [hctx, hi]) (hno i (by rw [hctx, hstate]))
  unfold checkEnds
  split
  · exact popProof_slots h
  next hr =>
    have hr := Bool.eq_false_iff.mpr hr
    repeat' split
    · exact hknown _ hr
    · exact resendCheck_slots h hq
    · exact hknown _ hr

end Sys2Proof.Machine

/-! PROOFS. Every step keeps the slots (`StepsKeepTheSlots`): the verbs' endings, the changes of mode, the lane, the line, the resets. -/

namespace Sys2Proof.Machine

open Sys2Proof

variable {s t u : State} {p : Port} {i : Image}

/-! ### Verbs -/

/-- R3: whatever the ending of a verb, the slots are in order after it. -/
theorem onEnd_slots {v : Purpose} {o : Outstanding} {e : Ending} (h : Paused p s) (hs : (s.ctx p).state ∈ v.awaitedIn)
    (hu : onEnd p v o e s = some u) : u.slotsHold := by
  cases v with
  | sense =>
    have hfree : (s.ctx p).state ∈ [.idle, .sensing, .reading, .proving, .checking, .marking, .holding] := by
      simp [Purpose.awaitedIn] at hs ⊢
      tauto
    cases e with
    | answered b =>
      obtain ⟨x, -, rfl⟩ := Option.map_eq_some_iff.mp hu
      exact h.senseFound_slots hs
    | fieldLost => cases hu; exact h.toIdle_slots hfree
    | garbled => cases hu; exact h.retryOr_slots hs (h.toIdle_slots hfree)
  | read =>
    have hs' : (s.ctx p).state = .reading := by simpa [Purpose.awaitedIn] using hs
    have hfailed : (readFailed p s).slotsHold := h.retryOr_slots hs (h.tryAgain_slots (by simp [hs']))
    cases e with
    | answered b =>
      cases hu
      repeat' split
      · exact h.refuse_slots
      · exact h.imageRead_slots hs'
      · exact hfailed
    | fieldLost => cases hu; exact h.tryAgain_slots (by simp [hs'])
    | garbled => cases hu; exact hfailed
  | prove =>
    have hs' : (s.ctx p).state = .proving := by simpa [Purpose.awaitedIn] using hs
    cases e with
    | answered b =>
      obtain ⟨x, -, rfl⟩ := Option.map_eq_some_iff.mp hu
      exact h.proofGiven_slots hs'
    | fieldLost => cases hu; exact h.tryAgain_slots (by simp [hs'])
    | garbled => cases hu; exact h.retryOr_slots hs (h.tryAgain_slots (by simp [hs']))
  | commit =>
    have hw : Writing p s := ⟨h, .inl (by simpa [Purpose.awaitedIn] using hs)⟩
    cases e with
    | answered b =>
      obtain ⟨x, -, rfl⟩ := Option.map_eq_some_iff.mp hu
      cases x with
      | ok => exact hw.concludeWrite_slots
      | mismatch => exact h.refuse_slots
      | fail => exact hw.enterConfirming_slots
    | fieldLost => cases hu; exact hw.enterConfirming_slots
    | garbled => cases hu; exact hw.enterConfirming_slots
  | mark =>
    have hs' : (s.ctx p).state = .marking := by simpa [Purpose.awaitedIn] using hs
    cases e with
    | answered b =>
      simp only [onEnd, markEndsBy] at hu
      split at hu
      · cases hu; exact h.markEnds_slots hs' false
      · cases hu
    | fieldLost => cases hu; exact h.markEnds_slots hs' true
    | garbled => cases hu; exact h.markEnds_slots hs' false
  | confirmRead =>
    have hs' : (s.ctx p).state = .confirming := by simpa [Purpose.awaitedIn] using hs
    cases hu
    exact Writing.confirmEnds_slots ⟨h, .inr hs'⟩ hs' e
  | reissue =>
    have hw : Writing p s := ⟨h, .inr (by simpa [Purpose.awaitedIn] using hs)⟩
    cases e with
    | answered b =>
      obtain ⟨x, -, rfl⟩ := Option.map_eq_some_iff.mp hu
      cases x with
      | ok => exact hw.concludeWrite_slots
      | mismatch => exact hw.enterConfirming_slots
      | fail => exact hw.enterConfirming_slots
    | fieldLost => cases hu; exact hw.enterConfirming_slots
    | garbled => cases hu; exact hw.enterConfirming_slots

/-- R4: a verb that ended with no answer. -/
theorem noAnswer_slots {v : Purpose} (h : Paused p s) (hs : (s.ctx p).state ∈ v.awaitedIn) : (noAnswer p v s).slotsHold := by
  have hgarbled (hv : v ≠ .mark) : onEnd p v ⟨v, 0, 0, none, false⟩ .garbled s = some (noAnswer p v s) := by
    cases v <;> simp_all [onEnd, noAnswer, senseEnds, readEnds, proveEnds, commitEnds, confirmEnds, reissueEnds]
  by_cases hv : v = .mark
  · subst hv
    exact h.markEnds_slots (by simpa [Purpose.awaitedIn] using hs) false
  · exact onEnd_slots h hs (hgarbled hv)

/-- R25: the verb of a context refused meanwhile has ended. -/
theorem droppedVerbEnds_slots {o : Outstanding} (h : s.slotsHold) (ho : (s.port p).outstanding = some o) (hd : o.dropped = true) :
    (droppedVerbEnds p s).slotsHold := by
  obtain ⟨-, hports, -⟩ := State.slotsHold_iff.mp h
  obtain ⟨hslots, hknows, hawaited, -⟩ := hports p
  obtain ⟨-, hstate⟩ := hawaited o ho
  rw [hd] at hstate
  have hholding : (s.ctx p).state = .holding := hstate
  refine startPoll_slots ((h.inHand (by simp [hholding])).of_local (Local.refl p s).endVerb) ?_ ?_ ?_ (endVerb_outstanding p s)
  all_goals rwa [endVerb_ctx]

theorem onAnswer_slots {v : Purpose} {m : List Byte} (h : s.slotsHold) (hu : onAnswer p v m (onEnd p v) s = some u) : u.slotsHold := by
  unfold onAnswer at hu
  split at hu
  next o code tag e ho _ =>
    split at hu
    next hmatch =>
      obtain ⟨hpurpose, -⟩ := hmatch
      split at hu
      next hd =>
        cases hu
        exact droppedVerbEnds_slots h ho hd
      next hd =>
        obtain ⟨hpaused, hstate⟩ := h.endVerb ho (Bool.eq_false_iff.mpr hd)
        rw [hpurpose, ← endVerb_ctx p p s] at hstate
        exact onEnd_slots hpaused hstate hu
    next => cases hu
  next => cases hu

theorem deadlineExpires_slots {o : Outstanding} (h : s.slotsHold) (ho : (s.port p).outstanding = some o) :
    (deadlineExpires p o s).slotsHold := by
  unfold deadlineExpires
  split
  next hd => exact droppedVerbEnds_slots h ho hd
  next hd =>
    obtain ⟨hpaused, hstate⟩ := h.endVerb ho (Bool.eq_false_iff.mpr hd)
    rw [← endVerb_ctx p p s] at hstate
    exact noAnswer_slots hpaused hstate

/-- R5, R6: the poll timer has expired. -/
theorem pollExpires_slots (h : s.slotsHold) (hdue : (s.ctx p).pollTimer.due = true) : (pollExpires p s).slotsHold := by
  obtain ⟨-, hports, -⟩ := State.slotsHold_iff.mp h
  obtain ⟨hslots, hknows, -, -⟩ := hports p
  have hstate : (s.ctx p).state = .idle ∨ (s.ctx p).state = .holding := by
    refine hknows.2.2.2 ?_
    cases ht : (s.ctx p).pollTimer with
    | none => simp [ht, Timer.due] at hdue
    | some _ => rfl
  obtain ⟨hc, hj⟩ := hslots.none (by obtain h | h := hstate <;> simp [h])
  have hheld : (s.ctx p).switchHeld = false := by
    have := hknows.2.2.1
    obtain h | h := hstate <;> simpa [h] using this
  have hin := h.inHand (p := p) (by obtain h | h := hstate <;> simp [h])
  refine issue_slots (hin.of_local (((Local.refl p s).onCtx (f := fun c =>
    { c with pollTimer := none, state := if c.state = .idle then .sensing else c.state }) rfl rfl).onCtx
      (f := fun c => { c with attempts := 1 }) rfl rfl)) ?_ ?_ ?_ ?_
  all_goals rw [State.ctx_onCtx, State.ctx_onCtx]
  all_goals obtain h | h := hstate <;> simp [Context.holdsSlots, Context.knowsCard, Purpose.awaitedIn, h, hc, hj, hheld]

/-- R15: the recheck before COMMIT. -/
theorem recheck_slots (h : s.slotsHold) (hstate : (s.ctx p).state = .reckoning) : (recheck p i s).slotsHold := by
  obtain ⟨-, hports, -⟩ := State.slotsHold_iff.mp h
  obtain ⟨hslots, hknows, -, -⟩ := id (hports p)
  have hquiet := (hports p).quiet (by simp [hstate])
  have hpoll := hknows.poll (by simp [hstate])
  have hheld : (s.ctx p).switchHeld = false := by simpa [hstate] using hknows.2.2.1
  obtain ⟨k, n, pre, b, hw⟩ := Context.writes_of_state hslots hknows (.inl hstate)
  have hin := h.inHand (p := p) (by simp [hstate])
  have htouch := touch_aside i.cardId (.refl s)
  have hctx : (touch i.cardId s).ctx p = s.ctx p := by rw [State.ctx, htouch.dialog, State.ctx]
  have hport : (touch i.cardId s).port p = s.port p := by rw [State.port, htouch.dialog, State.port]
  have hin' := hin.of_local ((Local.refl p s).aside htouch)
  unfold recheck
  split
  · refine refuse_slots hin ?_ fun _ => hpoll
    rw [hquiet]
    exact nofun
  · simp only
    split
    · exact refuseClone_slots hin' (by rw [hport, hquiet]) (by rw [hctx, hpoll])
    · refine issue_slots_of_writing (f := fun c => { c with state := .committing, attempts := 0 }) (i := k) (n := n) (pre := pre) (b := b)
        hin' ?_ ?_ rfl (.inl rfl) ?_ ?_ ?_ (by simp [Purpose.awaitedIn])
      all_goals rw [hctx]
      · exact ⟨hw.credit, hw.least, hw.most, hw.intended, hw.records, hw.card, hw.counter, hw.balance⟩
      · exact hw.credit
      · exact (hknows.known (by simp [hstate])).2.1
      · exact hheld
      · exact hpoll

/-! ### Switches -/

/-- R80: a context held for a switch holds its first slots. -/
theorem State.slotsHold.judging (h : s.slotsHold) (hheld : (s.ctx p).switchHeld = true) : Judging true 1 p s := by
  obtain ⟨-, hports, -⟩ := State.slotsHold_iff.mp h
  obtain ⟨hslots, hknows, -, hactive⟩ := id (hports p)
  have hstate := hknows.2.2.1.mp hheld
  simp only [Context.holdsSlots, hstate] at hslots
  exact ⟨h.inHand (by simp [hstate]), (hports p).quiet (by simp [hstate]), hknows.poll (by simp [hstate]), hstate, hslots.1, hslots.2,
    hknows.known (by simp [hstate]), hactive hstate⟩

theorem releaseHeldContext_slots (h : s.slotsHold) : (releaseHeldContext p s).slotsHold := by
  unfold releaseHeldContext
  split
  next hheld => exact enterReckoning_slots (h.judging hheld)
  next => exact h

theorem releaseHeldContexts_slots (h : s.slotsHold) : (releaseHeldContexts s).slotsHold :=
  releaseHeldContext_slots (releaseHeldContext_slots h)

/-- What changes the Tariff Store alone, and leaves a bank active where one was. -/
theorem onTariff_slots {f : Tariff → Tariff} (h : s.slotsHold) (hf : s.tariff.active.isSome = true → (f s.tariff).active.isSome = true) :
    (s.onTariff f).slotsHold := by
  obtain ⟨haccounts, hports, hqueue⟩ := State.slotsHold_iff.mp h
  refine State.slotsHold_iff.mpr ⟨haccounts.of_res (fun _ => ⟨rfl, rfl⟩) rfl rfl rfl rfl, fun p => ?_, hqueue⟩
  obtain ⟨hslots, hknows, hawaited, hactive⟩ := hports p
  exact ⟨hslots, hknows, hawaited, fun hj => hf (hactive hj)⟩

theorem replaceStage_slots (g : Stage) (h : s.slotsHold) : (replaceStage g s).slotsHold :=
  releaseHeldContexts_slots (onTariff_slots h id)

theorem applySwitch_slots (b : Bank) (h : s.slotsHold) : (applySwitch b s).slotsHold :=
  releaseHeldContexts_slots <| (event_aside _ (.refl _)).slotsHold <| onTariff_slots h fun _ => rfl

/-! ### A change of mode -/

theorem abandon_cases (p : Port) (d : Dialogs) (htimer : d.proofTimer.isSome = true ↔ d.proofQueue ≠ []) :
    (d.proofQueue = [] ∧ Dialogs.abandon p d = d) ∨ ∃ r rest, d.proofQueue = r :: rest ∧ Dialogs.abandon p d =
      { d with proofQueue := { r with abandoned := r.abandoned || r.port == p } :: rest.filter fun x => x.port != p } := by
  cases hq : d.proofQueue with
  | nil =>
    left
    obtain ⟨⟩ := d
    simp only at hq
    subst hq
    exact ⟨rfl, rfl⟩
  | cons r rest =>
    right
    rw [hq] at htimer
    obtain ⟨n, hn⟩ := Option.isSome_iff_exists.mp (htimer.mpr (by simp))
    exact ⟨r, rest, rfl, by simp only [Dialogs.abandon, hq, hn]⟩

/-- R10, R25: a context's request abandoned, and its verb without a context: the context is in the middle of its step. -/
theorem abandoned_inHand (h : s.slotsHold) :
    InHand p ((s.onDialog (Dialogs.abandon p)).onPort p fun l =>
      { l with outstanding := l.outstanding.map fun o => { o with dropped := true } }) := by
  obtain ⟨haccounts, hports, htimer, hbehind, honce, howned⟩ := State.slotsHold_iff.mp h
  obtain ⟨hq, heq⟩ | ⟨r, rest, hq, heq⟩ := abandon_cases p s.dialog htimer
  · rw [State.onDialog, heq]
    refine ⟨haccounts.of_res (fun _ => ⟨rfl, rfl⟩) rfl rfl rfl rfl,
      (hports (otherPort p)).of_eq rfl (State.port_onPort_other ..) rfl, htimer, hbehind, honce, fun x hx => ?_⟩
    have hx : x ∈ s.dialog.proofQueue := hx
    rw [hq] at hx
    cases hx
  · rw [State.onDialog, heq]
    have htimer' : s.dialog.proofTimer.isSome = true := htimer.mpr (by simp [hq])
    rw [hq] at hbehind honce howned
    refine ⟨haccounts.of_res (fun _ => ⟨rfl, rfl⟩) rfl rfl rfl rfl,
      (hports (otherPort p)).of_eq rfl (State.port_onPort_other ..) rfl, ⟨fun _ => List.cons_ne_nil _ _, fun _ => htimer'⟩,
      fun x hx => hbehind x (List.mem_of_mem_filter hx), fun q => ?_, fun x hx hx' => ?_⟩
    · refine le_trans ?_ (honce q)
      show ({ r with abandoned := r.abandoned || r.port == p } :: rest.filter fun x => x.port != p).countP _ ≤ _
      rw [List.countP_cons, List.countP_cons]
      refine Nat.add_le_add List.filter_sublist.countP_le ?_
      cases r.abandoned <;> cases r.port == p <;> simp
    · have hx : x ∈ ({ r with abandoned := r.abandoned || r.port == p } :: rest.filter fun x => x.port != p) := hx
      have hne : x.port ≠ p ∧ (s.ctx x.port).state = .checking := by
        obtain rfl | hx := List.mem_cons.mp hx
        · simp only [Bool.or_eq_false_iff, beq_eq_false_iff_ne] at hx'
          exact ⟨hx'.2, howned r List.mem_cons_self hx'.1⟩
        · exact ⟨by simpa using (List.mem_filter.mp hx).2, howned x (List.mem_cons_of_mem _ (List.mem_of_mem_filter hx)) hx'⟩
      exact ⟨ne_otherPort hne.1, ne_otherPort hne.1 ▸ hne.2⟩

/-- R25: a context of a port that the new mode closes is refused. -/
theorem refuseByMode_slots (m : Mode) (h : s.slotsHold) : (refuseByMode m p s).slotsHold := by
  unfold refuseByMode
  split
  · refine refuse_slots (abandoned_inHand h) (fun o ho => ?_) (by simp)
    rw [State.port_onPort] at ho
    obtain ⟨o', -, rfl⟩ := Option.map_eq_some_iff.mp ho
    rfl
  · exact h

theorem changeMode_slots (m : Mode) (h : s.slotsHold) : (changeMode m s).slotsHold := by
  have htold : (dialogsTold m (freshCount m (flushOnLeaving s.lane.eff m (reportMode m s)))).slotsHold :=
    refuseByMode_slots m <| refuseByMode_slots m <|
      (freshCount_aside m <| flushOnLeaving_aside _ m <| reportMode_aside m <| .refl s).slotsHold h
  exact (closeTest_aside <| openTest_aside <| .refl _).slotsHold htold

theorem deriveMode_slots (h : s.slotsHold) : (deriveMode s).slotsHold := by
  unfold deriveMode
  split
  · exact h
  · exact changeMode_slots _ h

/-- What changes lane registers that no slot stands in. -/
theorem onLane_aside {f : Lane → Lane} (hr : (f s.lane).reserved = s.lane.reserved) (hc : (f s.lane).credits = s.lane.credits) :
    Aside s (s.onLane f) := (Aside.refl s).keeping rfl rfl hr hc rfl rfl

theorem faultReport_slots (n : Nat) (h : s.slotsHold) : (faultReport n s).slotsHold :=
  deriveMode_slots <| (onLane_aside (by rfl) (by rfl)).slotsHold h

theorem takeEmergency_slots (b : Bool) (h : s.slotsHold) : (takeEmergency b s).slotsHold :=
  deriveMode_slots <| (event_aside _ <| onLane_aside (by rfl) (by rfl)).slotsHold h

theorem clearJam_slots (h : s.slotsHold) : (clearJam s).slotsHold := by
  unfold clearJam
  split
  · exact deriveMode_slots <| (onLane_aside (by rfl) (by rfl)).slotsHold h
  · exact h

theorem readLimits_slots (atOpen atClosed : Bool) (h : s.slotsHold) : (readLimits atOpen atClosed s).slotsHold := by
  unfold readLimits
  repeat' split
  · exact clearJam_slots <| (startCloseDelay_aside <| onLane_aside (by rfl) (by rfl)).slotsHold h
  · exact h
  · exact (openTest_aside <| releaseTest_aside <| .refl _).slotsHold <| clearJam_slots <| (onLane_aside (by rfl) (by rfl)).slotsHold h
  all_goals exact h

theorem motionExpires_slots (h : s.slotsHold) : (motionExpires s).slotsHold := by
  have hjam (m : Motion) : (jamMotion m s).slotsHold :=
    deriveMode_slots <| (event_aside _ <| appendReserve_aside _ <| onLane_aside (by rfl) (by rfl)).slotsHold h
  unfold motionExpires
  split
  · exact hjam _
  · exact hjam _
  all_goals exact (onLane_aside (by rfl) (by rfl)).slotsHold h

theorem commandMode_slots (m : Mode) (h : s.slotsHold) : (commandMode m s).slotsHold := by
  have hretry (t : State) (ht : t.slotsHold) : (flapRetry t).slotsHold := by
    unfold flapRetry
    split
    · exact (openTest_aside <| startMotion_aside _ <| .refl t).slotsHold ht
    all_goals exact ht
  refine hretry _ ?_
  split
  · exact h
  · exact deriveMode_slots <| (onLane_aside (by rfl) (by rfl)).slotsHold h

/-! ### The sensor -/

theorem takeReport_slots (r : Report) (h : s.slotsHold) : (takeReport s r).slotsHold := by
  cases r with
  | faultCount n => exact faultReport_slots n h
  | flapZone blocked => exact (flapZoneReport_aside blocked (.refl s)).slotsHold h
  | appearance o => exact (makeBrisk_aside (.refl s)).slotsHold h
  | crossing d long => exact (crossing_aside d long (.refl s)).slotsHold h
  | departure o kind crossed => exact (releaseTest_aside (.refl s)).slotsHold h

theorem foldl_takeReport_slots (l : List Report) (h : s.slotsHold) : (l.foldl takeReport s).slotsHold := by
  induction l generalizing s with
  | nil => exact h
  | cons r l ih => exact ih (takeReport_slots r h)

theorem processSample_slots (levels : Six Nat) (h : s.slotsHold) : (processSample levels s).slotsHold := by
  simp only [processSample, takeView]
  exact foldl_takeReport_slots _ <| (onBeam_aside _ <| seekTrim_aside <| advanceTrim_aside <| onBeam_aside _ <| .refl s).slotsHold h

theorem missPeriod_slots (h : s.slotsHold) : (missPeriod s).slotsHold := by
  have hsilent (t : State) (ht : t.slotsHold) : (fallSilent t).slotsHold := by
    simp only [fallSilent]
    refine (event_aside _ <| appendReserve_aside _ <| .refl _).slotsHold ?_
    have hreleased (f : Beams → Beams) : (releaseTest (t.onBeam f)).slotsHold :=
      (releaseTest_aside <| onBeam_aside f <| .refl t).slotsHold ht
    split
    · exact hreleased _
    · exact faultReport_slots _ (hreleased _)
  have hmissed := (onBeam_aside (fun b => { b with missed := min Config.missedLimit (s.beam.missed + 1) }) (.refl s)).slotsHold h
  simp only [missPeriod]
  repeat' split
  · exact h
  · exact hsilent _ hmissed
  · exact hmissed

/-! ### Line commands and frames -/

theorem onMgmt_aside (f : Mgmt → Mgmt) (s : State) : Aside s (s.onMgmt f) := (Aside.refl s).keeping rfl rfl rfl rfl rfl rfl

theorem putDeny_aside (e : DenyEntry) (s : State) : Aside s (putDeny e s) := (Aside.refl s).keeping rfl rfl rfl rfl rfl rfl

/-- R159: a TRIM frees slots. -/
theorem trim_aside (n : Nat) (s : State) : Aside s (s.onJournal (Journal.trim n)) := by
  refine ⟨rfl, rfl, fun _ hb => hb.of_le rfl rfl (fun _ => le_rfl) rfl ⟨rfl, rfl⟩ fun h => ?_⟩
  simp only [Journal.used, State.onJournal, Journal.trim, List.length_drop] at h ⊢
  omega

theorem stageSwitched_slots (e : Option ServiceTime) (h : s.slotsHold) : (stageSwitched e s).2.slotsHold := by
  have hset (f : Tariff → Tariff) (hf : (f s.tariff).active = s.tariff.active) : (testSwitch (s.onTariff f)).slotsHold :=
    (testSwitch_aside <| (Aside.refl s).keeping (u := s.onTariff f) rfl hf rfl rfl rfl rfl).slotsHold h
  simp only [stageSwitched, acceptSwitch, retimeSwitch]
  repeat' split
  all_goals simp only [h, hset]

theorem execute_slots (c : LineCommand) (h : s.slotsHold) : (execute c s).state.slotsHold := by
  cases c with
  | time date secs =>
    simp only [execute, runTime]
    split
    · exact h
    · exact (testSwitch_aside <| onMgmt_aside _ s).slotsHold h
  | set entries =>
    simp only [execute, runSet]
    split
    · exact (replaceParams_aside _ <| .refl s).slotsHold h
    · exact h
  | query => exact ((Aside.refl s).keeping rfl rfl rfl rfl rfl rfl).slotsHold h
  | stageOpen tag =>
    simp only [execute, bare, stageOpened]
    split
    · exact h
    · exact replaceStage_slots _ h
  | stageLoad tag segment part values =>
    have hstored (g : Stage) : (s.onTariff fun t => { t with stage := g }).slotsHold := onTariff_slots h id
    simp only [execute, bare, stageLoaded]
    repeat' split
    all_goals simp only [h, hstored]
  | stageSwitch effective => exact stageSwitched_slots _ h
  | stageDiscard =>
    simp only [execute, stageDiscarded]
    split
    · exact h
    · exact replaceStage_slots _ h
    · exact replaceStage_slots _ h
  | denyAdd cardId reason action =>
    simp only [execute, runDenyAdd]
    repeat' split
    all_goals simp only [unchanged, h]
    exact (putDeny_aside _ s).slotsHold h
  | denyDrop cardId =>
    simp only [execute, runDenyDrop]
    split
    · exact ((Aside.refl s).keeping rfl rfl rfl rfl rfl rfl).slotsHold h
    · exact h
  | collect k => exact h
  | trim firstSeq n =>
    simp only [execute, runTrim]
    split
    · exact (trim_aside n s).slotsHold h
    · exact h
  | laneMode m =>
    simp only [execute, withModes, laneModeTaken]
    repeat' split
    · exact h
    · exact commandMode_slots _ h
    · exact h
  | ackStart => exact ((Aside.refl s).keeping rfl rfl rfl rfl rfl rfl).slotsHold h
  | restart => exact ((Aside.refl s).keeping rfl rfl rfl rfl rfl rfl).slotsHold h

theorem goodFrame_slots (q : LinePort) (f : Frame) (h : s.slotsHold) : (goodFrame q f s).slotsHold := by
  have hfree {t : State} (q : LinePort) (ht : t.slotsHold) : (freeReception q t).slotsHold := (freeReception_aside q (.refl t)).slotsHold ht
  have hrelay {t : State} (q : LinePort) (ht : t.slotsHold) : (relay q f t).slotsHold := (relay_aside q f (.refl t)).slotsHold ht
  have hhold {t : State} (q r : LinePort) (x : HeldContent) (b : Bool) (ht : t.slotsHold) : (holdReception q r x b t).slotsHold :=
    (holdReception_aside q r x b (.refl t)).slotsHold ht
  have hbroadcast {t : State} (q : LinePort) (ht : t.slotsHold) : (takeBroadcast q f t).slotsHold := by
    have hact : (actOnBroadcast f t).slotsHold := by
      unfold actOnBroadcast
      repeat' split
      · exact execute_slots _ ht
      · exact ht
      · exact (takeSight_aside _ (.refl t)).slotsHold ht
      · exact (takeSuspect_aside _ (.refl t)).slotsHold ht
      all_goals exact ht
    simp only [takeBroadcast]
    split
    · exact hrelay q hact
    · exact hfree q hact
  have haddressed {t : State} (q : LinePort) (ht : t.slotsHold) : (takeAddressed q f t).slotsHold := by
    unfold takeAddressed
    split
    · exact hhold _ _ _ _ (execute_slots _ ht)
    · exact hhold _ _ _ _ ht
    · exact hhold _ _ _ _ ht
    · exact hfree _ <| (takeSight_aside _ (.refl t)).slotsHold ht
    · exact hfree _ <| (takeSuspect_aside _ (.refl t)).slotsHold ht
    · exact hfree _ ht
    · exact hfree _ ht
  have henumerate {t : State} (ht : t.slotsHold) : (takeEnumerate f t).slotsHold := by
    have haddress (k : Nat) : (t.onLine fun l => { l with address := k }).slotsHold := (onLine_aside _ (.refl t)).slotsHold ht
    unfold takeEnumerate runEnumerate
    split
    · simp only
      repeat' split
      · exact hfree _ ht
      · exact hhold _ _ _ _ (haddress _)
      · exact hhold _ _ _ _ (haddress _)
      · exact hhold _ _ _ _ (haddress _)
    · exact hfree _ ht
  have hheard : (heardHead s).slotsHold := (onLine_aside _ (.refl s)).slotsHold h
  cases q with
  | up =>
    simp only [goodFrame, routeUp]
    repeat' split
    · exact henumerate hheard
    · exact hbroadcast _ hheard
    · exact haddressed _ hheard
    · exact hfree _ hheard
    · exact hrelay _ hheard
  | down =>
    simp only [goodFrame, routeDown]
    repeat' split
    · exact hfree _ h
    · exact hbroadcast _ h
    · exact haddressed _ h
    · exact hfree _ h
    · exact hrelay _ h

theorem arrive_slots {a : Arrival} {kind : Byte} {payload : List Byte} (h : s.slotsHold) (hu : arrive a kind payload s = some u) :
    u.slotsHold := by
  have hstart := (startReception_aside a.port (.refl s)).slotsHold h
  simp only [arrive] at hu
  repeat' split at hu
  all_goals cases hu
  · exact goodFrame_slots _ _ h
  · exact goodFrame_slots _ _ hstart
  · exact hstart

end Sys2Proof.Machine

/-! PROOFS. Every step keeps the slots: the resets, the timebase, every command, and the statement itself (`StepsKeepTheSlots`). -/

namespace Sys2Proof.Machine

open Sys2Proof

variable {s t u : State} {p : Port}

/-! ### The resets -/

/-- Section 1.9: with both contexts as they start, and no slot but those of the recovery list in use. -/
theorem slotsHold_of_started {n : Nat} (hctx : ∀ p, s.ctx p = .started n) (hport : ∀ p, (s.port p).outstanding = none)
    (hqueue : s.dialog.proofQueue = []) (htimer : s.dialog.proofTimer = none) (hreserved : s.lane.reserved = ⟨0, 0⟩)
    (hcredits : s.lane.credits = ⟨[], []⟩) (hjournal : s.journal.reserved = 0) (hheld : s.journal.held = s.standing.recovery.length)
    (hcap : s.standing.recovery.length ≤ 16) (hused : s.journal.records.length + s.journal.held ≤ 512) : s.slotsHold := by
  refine State.slotsHold_iff.mpr ⟨⟨fun p => ?_, ?_, hheld, hcap, ?_⟩, fun p => ⟨?_, ?_, fun o ho => ?_, ?_⟩, ?_, ?_, ?_, ?_⟩
  · rw [State.creditSlotsHold, hctx, hreserved, hcredits]
    cases p <;> exact ⟨rfl, Nat.zero_le _⟩
  · rw [hctx, hctx, hjournal]
    rfl
  · rwa [Journal.used, hjournal]
  · rw [hctx]
    exact ⟨rfl, rfl⟩
  · rw [hctx]
    simp [Context.knowsCard, Context.started]
  · rw [hport] at ho
    cases ho
  · rw [hctx]
    exact nofun
  · simp [htimer, hqueue]
  · simp [hqueue]
  · simp [hqueue]
  · simp [hqueue]

theorem send_aside (w : Sent) (h : Aside s t) : Aside s (t.send w) := h.keeping rfl rfl rfl rfl rfl rfl

theorem sendDrives_aside (h : Aside s t) : Aside s (sendDrives t) :=
  send_aside _ <| send_aside _ <| send_aside _ <| send_aside _ <| send_aside _ <| send_aside _ h

theorem sendSample_aside (h : Aside s t) : Aside s (sendSample t) := send_aside _ <| onBeam_aside _ h

theorem startWork_slots {n : Nat} (h : ({ s with lane := resetLane s.params s.pins s.beam.faults n } : State).slotsHold) :
    (startWork n s).slotsHold :=
  (sendSample_aside <| sendDrives_aside <| openTest_aside <| .refl _).slotsHold h

theorem coldReset_slots (s : State) : (coldReset s).slotsHold := by
  simp only [coldReset]
  split
  · exact slotsHold_of_started (n := 150) (fun p => by cases p <;> rfl) (fun p => by cases p <;> rfl) rfl rfl rfl rfl rfl rfl
      (Nat.zero_le _) (Nat.zero_le _)
  · exact startWork_slots <| slotsHold_of_started (n := 150) (fun p => by cases p <;> rfl) (fun p => by cases p <;> rfl) rfl rfl rfl rfl
      rfl rfl (Nat.zero_le _) (Nat.zero_le _)

/-- R26: recording a write as torn concerns its own port alone. -/
theorem Local.recordOutstanding (h : s.contextHolds p) : Local p s (recordOutstanding p s) := by
  unfold Machine.recordOutstanding
  split
  next hwriting =>
    obtain ⟨hslots, hknows, -, -⟩ := h
    obtain ⟨i, n, pre, b, hw⟩ := Context.writes_of_state hslots hknows (.inr (DialogState.writing_iff.mp hwriting))
    have hquiet : Aside s { s with params := { s.params with eventMask := 0 } } := (Aside.refl s).keeping rfl rfl rfl rfl rfl rfl
    have htorn := ((Local.refl p s).aside hquiet).trans (Local.recordTorn (p := p) (i := i) (n := n) (pre := pre) (b := b) hw)
    exact htorn.aside ((Aside.refl _).keeping rfl rfl rfl rfl rfl rfl)
  next => exact .refl p s

theorem warmReset_slots (h : s.slotsHold) : (warmReset s).slotsHold := by
  obtain ⟨haccounts, hports, -⟩ := State.slotsHold_iff.mp h
  have ha := Local.recordOutstanding (hports .a)
  have hb := Local.recordOutstanding (s := recordOutstanding .a s) (p := .b) ((hports .b).of_eq ha.ctx ha.port ha.active)
  have hcut := cutOff_aside .down <| cutOff_aside .up <| .refl (recordOutstanding .b (recordOutstanding .a s))
  obtain ⟨-, -, hheld, hcap, hused⟩ := hcut.accounts 0 (hb.accounts 0 (ha.accounts 0 haccounts))
  simp only [Journal.used] at hused
  refine startWork_slots <| slotsHold_of_started (n := (warmValues (cutOffAll (recordOutstanding .b (recordOutstanding .a s)))).params.pollPeriod .steady)
    (fun p => ?_) (fun p => by cases p <;> rfl) rfl rfl rfl rfl rfl hheld hcap ?_
  · cases p <;> rfl
  · show (cutOffAll (recordOutstanding .b (recordOutstanding .a s))).journal.records.length
      + (cutOffAll (recordOutstanding .b (recordOutstanding .a s))).journal.held ≤ 512
    exact (Nat.le_add_right _ _).trans hused

/-! ### The timebase -/

theorem Timer.tick_isSome (x : Timer) : x.tick.isSome = x.isSome := by cases x <;> rfl

theorem Dialogs.tick_ctx (d : Dialogs) (p : Port) : d.tick.ctx.get p = (d.ctx.get p).tick ∧ d.tick.port.get p = (d.port.get p).tick := by
  cases p <;> exact ⟨rfl, rfl⟩

theorem tick_slots (h : s.slotsHold) : (tick s).slotsHold := by
  obtain ⟨haccounts, hports, htimer, hbehind, honce, howned⟩ := State.slotsHold_iff.mp h
  have hctx (p : Port) : (tick s).ctx p = (s.ctx p).tick := (Dialogs.tick_ctx s.dialog p).1
  have hport (p : Port) : (tick s).port p = (s.port p).tick := (Dialogs.tick_ctx s.dialog p).2
  have hdialog : ({ s with dialog := s.dialog.tick } : State).Accounts 0 :=
    haccounts.of_res (fun q => by cases q <;> exact ⟨rfl, rfl⟩) rfl rfl rfl rfl
  refine State.slotsHold_iff.mpr ⟨hdialog.of_le rfl rfl (fun d => ?_) (List.length_map ..) ⟨rfl, rfl⟩ id, fun p => ?_, ?_, hbehind, honce,
    fun r hr hr' => ?_⟩
  · have := (Lane.tickCredits_length s.lane d).le
    cases d <;> exact this
  · obtain ⟨hslots, ⟨hcard, himage, hheld, hpoll⟩, hawaited, hactive⟩ := hports p
    rw [State.contextHolds, hctx, hport]
    refine ⟨hslots, ⟨hcard, himage, hheld, ?_⟩, fun o ho => ?_, hactive⟩
    · simpa only [Context.tick, Timer.tick_isSome] using hpoll
    · obtain ⟨o', ho', rfl⟩ := Option.map_eq_some_iff.mp ho
      obtain ⟨hnone, hstate⟩ := hawaited o' ho'
      exact ⟨by rw [Context.tick, hnone]; rfl, hstate⟩
  · exact (Bool.eq_iff_iff.mp (Timer.tick_isSome s.dialog.proofTimer)).trans htimer
  · rw [hctx]
    exact howned r hr hr'

/-! ### Every command -/

/-- A command that takes effect by `effect`, with its own equation. -/
theorem slots_of_exec {c : Instr} {r : State → Option State} (heq : exec c s = effect c s r) (h : exec c s = .next t) (hs : s.slotsHold)
    (hr : ∀ u, r s = some u → u.slotsHold) : t.slotsHold :=
  effect_keeps (fun u hu => (follow_aside (.refl u)).slotsHold hu) hr hs (heq ▸ h)

theorem slots_of_effect {c : Instr} {r : State → Option State} (h : effect c s r = .next t) (hs : s.slotsHold)
    (hr : ∀ u, r s = some u → u.slotsHold) : t.slotsHold :=
  effect_keeps (fun u hu => (follow_aside (.refl u)).slotsHold hu) hr hs h

/-- An effect that is taken when a condition holds. -/
theorem slots_of_when {b : Prop} [Decidable b] (hf : b → t.slotsHold) (h : (if b then some t else none) = some u) : u.slotsHold := by
  split at h
  next hb => cases h; exact hf hb
  next => cases h

/-- An effect that is taken on what is found. -/
theorem slots_of_map {α : Type} {o : Option α} {f : α → State} (hf : ∀ x, o = some x → (f x).slotsHold) (h : o.map f = some u) :
    u.slotsHold := by
  obtain ⟨x, hx, rfl⟩ := Option.map_eq_some_iff.mp h
  exact hf x hx

theorem slots_of_arriveCommand {a : Arrival} {tag : Byte} {c : LineCommand} {i : Instr} (hs : s.slotsHold)
    (h : effect i s (arriveCommand a tag c) = .next t) : t.slotsHold :=
  effect_keeps (fun u hu => (follow_aside (.refl u)).slotsHold hu) (fun _ => arrive_slots hs) hs h

theorem slots_of_answerCommand {v : Purpose} {m : List Byte} (hs : s.slotsHold) (h : exec (v.answerCommand p m) s = .next t) :
    t.slotsHold := slots_of_exec (exec_answerCommand v p m s) h hs fun _ => onAnswer_slots hs

theorem onPins_aside (f : Pins → Pins) (s : State) : Aside s (s.onPins f) := (Aside.refl s).keeping rfl rfl rfl rfl rfl rfl

theorem tallyGap_aside (n : Nat) (s : State) : Aside s (s.onLane (Lane.tallyGap n)) := by
  have hbegin (l : Lane) : (l.beginTally n).reserved = l.reserved ∧ (l.beginTally n).credits = l.credits := by
    unfold Lane.beginTally
    split
    · cases ‹Direction› <;> exact ⟨rfl, rfl⟩
    · exact ⟨rfl, rfl⟩
  have hgap : (s.lane.tallyGap n).reserved = s.lane.reserved ∧ (s.lane.tallyGap n).credits = s.lane.credits := by
    unfold Lane.tallyGap
    split
    · cases ‹Direction› <;> exact ⟨rfl, rfl⟩
    · exact ⟨rfl, rfl⟩
    · exact hbegin _
    · exact ⟨rfl, rfl⟩
  exact onLane_aside hgap.1 hgap.2

/-- R9: the outcome of the CHECK outstanding, by its answer. -/
theorem checkAnswered_slots {m : List Byte} (h : s.slotsHold) (hu : checkAnswered m s = some u) : u.slotsHold := by
  unfold checkAnswered at hu
  split at hu
  next hq _ _ => exact slots_of_when (fun _ => checkEnds_slots _ h hq) hu
  next => cases hu

theorem proofExpires_slots (h : s.slotsHold) (hdue : s.dialog.proofTimer.due = true) : (proofExpires s).slotsHold := by
  unfold proofExpires
  split
  next hq => exact checkEnds_slots _ h hq
  next hq =>
    obtain ⟨-, -, htimer, -⟩ := State.slotsHold_iff.mp h
    have hnone : s.dialog.proofTimer.isSome = false := Bool.eq_false_iff.mpr fun e => htimer.mp e hq
    cases ht : s.dialog.proofTimer with
    | none => simp [ht, Timer.due] at hdue
    | some _ => simp [ht] at hnone

theorem endReception_slots {q : LinePort} {bytes : List Byte} {endMark : Bool} (h : s.slotsHold) :
    (endReception q bytes endMark s).slotsHold := by
  unfold endReception
  split
  · exact goodFrame_slots _ _ h
  · exact (freeReception_aside q (.refl s)).slotsHold h

theorem advanceClock_slots (h : s.slotsHold) : (advanceClock s).slotsHold := by
  have hsecond : Aside s { s with second := 1000 } := (Aside.refl s).keeping rfl rfl rfl rfl rfl rfl
  simp only [advanceClock]
  split
  · exact hsecond.slotsHold h
  · exact (testSwitch_aside <| onMgmt_aside _ _).slotsHold <| hsecond.slotsHold h

theorem State.reckoning_of_recheckable (h : s.recheckable p = true) : (s.ctx p).state = .reckoning := by
  simp only [State.recheckable, Bool.and_eq_true, beq_iff_eq] at h
  exact h.1.1

theorem exec_slots {c : Instr} (hs : s.slotsHold) (h : exec c s = .next t) : t.slotsHold := by
  have haside {v : State} (k : Aside s v) : v.slotsHold := k.slotsHold hs
  cases c with
  | coldReset cause =>
    cases cause with
    | powerOn => cases h; exact coldReset_slots _
    | pinAsserted => cases h; exact coldReset_slots _
    | pinReleased =>
      cases h
      split
      · exact coldReset_slots _
      · exact hs
  | warmReset => exact slots_of_exec (exec_warmReset s) h hs fun _ => slots_of_when fun _ => warmReset_slots hs
  | emergencyPinChange asserted =>
    rw [exec_emergencyPinChange] at h
    split at h
    · cases h; exact haside (onPins_aside _ s)
    · refine slots_of_effect h hs fun u hu => ?_
      split at hu <;> cases hu
      exact haside ((onPins_aside _ s).keeping rfl rfl rfl rfl rfl rfl)
  | emergencyTaken => exact slots_of_exec (exec_emergencyTaken s) h hs fun _ => slots_of_when fun _ => takeEmergency_slots _ hs
  | linkPinChange port up =>
    rw [exec_linkPinChange] at h
    split at h
    · cases h; exact haside (onPins_aside _ s)
    · refine slots_of_effect h hs fun u hu => ?_
      split at hu <;> cases hu
      exact haside (onLine_aside _ (onPins_aside _ s))
  | linkTaken port => exact slots_of_exec (exec_linkTaken port s) h hs fun _ => slots_of_when fun _ => haside (takeLink_aside _ _ (.refl s))
  | holdInputChange port asserted =>
    rw [exec_holdInputChange] at h
    split at h
    · cases h; exact haside (onPins_aside _ s)
    · refine slots_of_effect h hs fun u hu => ?_
      cases hu
      exact haside (onPins_aside _ s)
  | frameStart port => exact slots_of_exec (exec_frameStart port s) h hs fun _ => slots_of_when fun _ => haside (startReception_aside _ (.refl s))
  | frameEnd port bytes endMark =>
    exact slots_of_exec (exec_frameEnd port bytes endMark s) h hs fun _ => slots_of_when fun _ => endReception_slots hs
  | transmissionBegin port =>
    exact slots_of_exec (exec_transmissionBegin port s) h hs fun _ => slots_of_when fun _ =>
      haside ((Aside.refl s).keeping rfl rfl rfl rfl rfl rfl)
  | transmissionEnd port =>
    exact slots_of_exec (exec_transmissionEnd port s) h hs fun _ => slots_of_map fun b _ => haside (endTransmission_aside _ b (.refl s))
  | heldConversion =>
    exact slots_of_exec (exec_heldConversion s) h hs fun u hu => by cases hu; exact haside (convertOne_aside (.refl s))
  | silenceTimerExpiry =>
    exact slots_of_exec (exec_silenceTimerExpiry s) h hs fun _ => slots_of_when fun _ => haside (onLine_aside _ (.refl s))
  | enumerate n => exact slots_of_exec (exec_enumerate n s) h hs fun _ => arrive_slots hs
  | time arrival tag date secs => exact slots_of_arriveCommand hs h
  | set arrival tag entries => exact slots_of_arriveCommand hs h
  | query arrival tag => exact slots_of_arriveCommand hs h
  | stageOpen arrival tag bankTag => exact slots_of_arriveCommand hs h
  | stageLoad arrival tag bankTag segment part values => exact slots_of_arriveCommand hs h
  | stageSwitch arrival tag effective => exact slots_of_arriveCommand hs h
  | stageDiscard arrival tag => exact slots_of_arriveCommand hs h
  | denyAdd arrival tag cardId reason action => exact slots_of_arriveCommand hs h
  | denyDrop arrival tag cardId => exact slots_of_arriveCommand hs h
  | collect arrival tag k => exact slots_of_arriveCommand hs h
  | trim arrival tag firstSeq n => exact slots_of_arriveCommand hs h
  | laneMode arrival tag mode => exact slots_of_arriveCommand hs h
  | ackStart arrival tag => exact slots_of_arriveCommand hs h
  | restart arrival tag => exact slots_of_arriveCommand hs h
  | unknownKind arrival kind payload => exact slots_of_exec (exec_unknownKind arrival kind payload s) h hs fun _ => arrive_slots hs
  | sight arrival payload => exact slots_of_exec (exec_sight arrival payload s) h hs fun _ => arrive_slots hs
  | suspect arrival payload => exact slots_of_exec (exec_suspect arrival payload s) h hs fun _ => arrive_slots hs
  | clockAdvance => exact slots_of_exec (exec_clockAdvance s) h hs fun _ => slots_of_when fun _ => advanceClock_slots hs
  | timeAgeExpiry => exact slots_of_exec (exec_timeAgeExpiry s) h hs fun _ => slots_of_when fun _ => haside (onMgmt_aside _ s)
  | switchApplication => exact slots_of_exec (exec_switchApplication s) h hs fun _ => slots_of_map fun b _ => applySwitch_slots b hs
  | recoveryExpiry cardId =>
    refine slots_of_exec (exec_recoveryExpiry cardId s) h hs fun u hu => ?_
    split at hu
    next he => exact slots_of_when (fun _ => haside (resolveUnresolved_aside _ (State.mem_of_recoveryOf he) (.refl s))) hu
    next => cases hu
  | pollTimerExpiry port => exact slots_of_exec (exec_pollTimerExpiry port s) h hs fun _ => slots_of_when fun hdue => pollExpires_slots hs hdue
  | senseAnswer port message => exact slots_of_answerCommand (v := .sense) hs h
  | readAnswer port message => exact slots_of_answerCommand (v := .read) hs h
  | proveAnswer port message => exact slots_of_answerCommand (v := .prove) hs h
  | checkAnswer message => exact slots_of_exec (exec_checkAnswer message s) h hs fun _ => checkAnswered_slots hs
  | proofTimeoutExpiry => exact slots_of_exec (exec_proofTimeoutExpiry s) h hs fun _ => slots_of_when fun hdue => proofExpires_slots hs hdue
  | verbDeadlineExpiry port =>
    refine slots_of_exec (exec_verbDeadlineExpiry port s) h hs fun u hu => ?_
    split at hu
    next ho => exact slots_of_when (fun _ => deadlineExpires_slots hs ho) hu
    next => cases hu
  | recheckBeforeCommit port =>
    refine slots_of_exec (exec_recheckBeforeCommit port s) h hs fun u hu => ?_
    split at hu
    next hb => exact slots_of_map (fun _ _ => recheck_slots hs (State.reckoning_of_recheckable hb)) hu
    next => cases hu
  | markAnswer port message => exact slots_of_answerCommand (v := .mark) hs h
  | commitAnswer port message => exact slots_of_answerCommand (v := .commit) hs h
  | confirmingReadAnswer port message => exact slots_of_answerCommand (v := .confirmRead) hs h
  | reissuedCommitAnswer port message => exact slots_of_answerCommand (v := .reissue) hs h
  | sampleTimerExpiry =>
    exact slots_of_exec (exec_sampleTimerExpiry s) h hs fun _ => slots_of_when fun _ =>
      (sendSample_aside <| .refl _).slotsHold (missPeriod_slots hs)
  | sampleSet message =>
    refine slots_of_exec (exec_sampleSet message s) h hs fun u hu => ?_
    split at hu
    · exact slots_of_when (fun _ => processSample_slots _ hs) hu
    · cases hu
  | anomaly =>
    exact slots_of_exec (exec_anomaly s) h hs fun _ => slots_of_when fun _ => haside (intrusion_aside _ _ <| onBeam_aside _ <| .refl s)
  | creditLifeExpiry =>
    refine slots_of_exec (exec_creditLifeExpiry s) h hs fun u hu => ?_
    split at hu
    · exact slots_of_when (fun _ => haside (lapse_aside _ _ _ <| .refl s)) hu
    · cases hu
  | waitLimitExpiry direction =>
    exact slots_of_exec (exec_waitLimitExpiry direction s) h hs fun _ => slots_of_map fun _ _ => haside (lapse_aside _ _ _ <| .refl s)
  | limitAsserted atOpen atClosed =>
    rw [exec_limitAsserted] at h
    split at h
    · cases h; exact haside (onPins_aside _ s)
    · refine slots_of_effect h hs fun u hu => ?_
      cases hu
      exact readLimits_slots _ _ (haside (onPins_aside _ s))
  | closeDelayExpiry =>
    exact slots_of_exec (exec_closeDelayExpiry s) h hs fun _ => slots_of_when fun _ =>
      haside (closeTest_aside <| (Aside.refl s).keeping rfl rfl rfl rfl rfl rfl)
  | motionTimerExpiry => exact slots_of_exec (exec_motionTimerExpiry s) h hs fun _ => slots_of_when fun _ => motionExpires_slots hs
  | briskTimerExpiry =>
    exact slots_of_exec (exec_briskTimerExpiry s) h hs fun _ => slots_of_when fun _ => haside ((Aside.refl s).keeping rfl rfl rfl rfl rfl rfl)
  | dormantTimerExpiry =>
    exact slots_of_exec (exec_dormantTimerExpiry s) h hs fun _ => slots_of_when fun _ => haside ((Aside.refl s).keeping rfl rfl rfl rfl rfl rfl)
  | tallyGapExpiry => exact slots_of_exec (exec_tallyGapExpiry s) h hs fun _ => slots_of_when fun _ => haside (tallyGap_aside _ s)

/-! ### Every step -/

/-- The queue of waiting commands holds no slot. -/
theorem pending_slots (q : List Instr) (h : s.slotsHold) : ({ s with pending := q } : State).slotsHold :=
  ((Aside.refl s).keeping (u := { s with pending := q }) rfl rfl rfl rfl rfl rfl).slotsHold h

theorem idle_slots (h : s.slotsHold) : (idle s).slotsHold := by
  unfold idle
  split
  · exact h
  split
  · exact pending_slots _ h
  · exact tick_slots h

/-- Settles O60: every command leaves each slot its owner, whether by an operation beside the dialogs (`Aside`) or by one on a
single port (`Local`). -/
theorem stepsKeepTheSlots : Obligations.StepsKeepTheSlots := by
  intro s t hs h
  obtain ⟨c, rest, -, hexec⟩ | ⟨-, rfl⟩ := step_next h
  · exact exec_slots (pending_slots rest hs) hexec
  · exact idle_slots hs

end Sys2Proof.Machine

/-! PROOFS. Contexts held for a switch: how they go on into RECKONING, when the switch is applied (`SwitchBringsTheStagedBank`) or
cancelled (`StageIsOpenedAndDiscarded`). -/

namespace Sys2Proof.Machine

open Sys2Proof

variable {s t u v : State} {p : Port} {i : Image} {b : Bank} {k : Intended}

/-! ### One held context -/

@[simp] theorem otherPort_otherPort (p : Port) : otherPort (otherPort p) = p := by cases p <;> rfl

/-- R14: what the Fare Reckoner's answer to one port leaves to the other. -/
theorem Local.enterReckoning (h : Local p s t) : Local p s (enterReckoning p t) := by
  have hreckoning := h.reckoning
  have hkeep (k : Intended) : Local p s (keepIntended p k (Machine.reckoning p t)) := by
    simp only [keepIntended]
    repeat' split
    · exact h.reckoned k
    next hfree => exact (h.reckoned k).takeJournalRes (one_le_free_of_journalSlotFree hfree)
    · exact (h.reckoned k).refuse _ _ _
  simp only [Machine.enterReckoning]
  repeat' split
  · exact hreckoning.refuse _ _ _
  · exact hkeep _
  · exact hreckoning

theorem refuse_switchHeld (code : RefusalCode) (amount : Option Nat) (s : State) :
    ((refuse p code false amount s).ctx p).switchHeld = false := by
  simp only [refuse, Bool.false_eq_true, if_false]
  rw [toHolding_ctx]
  split <;> rfl

/-- R14, R80: a context in RECKONING waits no longer. -/
theorem enterReckoning_switchHeld (p : Port) (s : State) : ((enterReckoning p s).ctx p).switchHeld = false := by
  have hkeep (k : Intended) : ((keepIntended p k (reckoning p s)).ctx p).switchHeld = false := by
    have hreckoned : ((reckoned p k s).ctx p).switchHeld = false := by rw [reckoned_ctx]
    simp only [keepIntended]
    repeat' split
    · exact hreckoned
    · rw [takeJournalRes_ctx]
      exact hreckoned
    · exact refuse_switchHeld ..
  simp only [enterReckoning]
  repeat' split
  · exact refuse_switchHeld ..
  · exact hkeep _
  · rw [State.ctx_onCtx]

theorem enterReckoning_clock (p : Port) (s : State) : (enterReckoning p s).clock = s.clock := by
  have hkeep (k : Intended) : Grows s (keepIntended p k (reckoning p s)) := by
    have hreckoned : Grows s (reckoned p k s) := onCtx_grows <| onCtx_grows <| .refl s
    simp only [keepIntended]
    repeat' split
    · exact hreckoned
    · exact reserveJournal_grows <| onCtx_grows hreckoned
    · exact refuse_grows hreckoned
  refine Grows.clock (s := s) ?_
  simp only [enterReckoning]
  repeat' split
  · exact refuse_grows <| onCtx_grows <| .refl s
  · exact hkeep _
  · exact onCtx_grows <| .refl s

/-- R14: Intended records that call for one slot are kept. -/
theorem enterReckoning_ctx_of_taken (hb : s.tariff.active = some b) (hi : (s.ctx p).image = some i)
    (hk : reckon (portDirection p) b i s.clock = .taken k) (hone : k.contents.length ≤ 1) :
    (enterReckoning p s).ctx p = { s.ctx p with state := .reckoning, switchHeld := false, intended := some k } := by
  rw [enterReckoning_taken hb hi hk, if_pos hone, reckoned_ctx]

/-! ### Both contexts -/

theorem Local.releaseHeldContext (p : Port) (s : State) : Local p s (releaseHeldContext p s) := by
  unfold Machine.releaseHeldContext
  split
  · exact (Local.refl p s).enterReckoning
  · exact .refl p s

theorem releaseHeldContext_of_unheld (h : (s.ctx p).switchHeld = false) : releaseHeldContext p s = s :=
  if_neg (by rw [h]; exact Bool.false_ne_true)

theorem releaseHeldContext_of_held (h : (s.ctx p).switchHeld = true) : releaseHeldContext p s = enterReckoning p s := if_pos h

theorem releaseHeldContext_switchHeld (p : Port) (s : State) : ((releaseHeldContext p s).ctx p).switchHeld = false := by
  cases h : (s.ctx p).switchHeld with
  | false => rw [releaseHeldContext_of_unheld h, h]
  | true => rw [releaseHeldContext_of_held h, enterReckoning_switchHeld]

theorem releaseHeldContext_clock (p : Port) (s : State) : (releaseHeldContext p s).clock = s.clock := by
  unfold releaseHeldContext
  split
  · exact enterReckoning_clock p s
  · rfl

/-- R80, log 22: each context goes on from a state in which the other, at most, has gone on before. -/
theorem releaseHeldContexts_port (p : Port) (s : State) :
    ∃ u, (u = s ∨ u = releaseHeldContext (otherPort p) s)
      ∧ (releaseHeldContexts s).ctx p = (releaseHeldContext p u).ctx p ∧ (releaseHeldContexts s).port p = (releaseHeldContext p u).port p := by
  cases p with
  | a =>
    have hb := Local.releaseHeldContext .b (releaseHeldContext .a s)
    exact ⟨s, .inl rfl, hb.ctx, hb.port⟩
  | b => exact ⟨_, .inr rfl, rfl, rfl⟩

/-- What a context meets when it goes on: itself, the bank and the clock as they were. -/
theorem met_of_released (h : u = s ∨ u = releaseHeldContext (otherPort p) s) :
    u.ctx p = s.ctx p ∧ u.port p = s.port p ∧ u.tariff = s.tariff ∧ u.clock = s.clock := by
  obtain rfl | rfl := h
  · exact ⟨rfl, rfl, rfl, rfl⟩
  · have hother := Local.releaseHeldContext (otherPort p) s
    have hctx := hother.ctx
    have hport := hother.port
    rw [otherPort_otherPort] at hctx hport
    exact ⟨hctx, hport, (releaseHeldContext_frame _ s).1, releaseHeldContext_clock ..⟩

/-- A context that is not held is not touched. -/
theorem releaseHeldContexts_of_unheld (h : (s.ctx p).switchHeld = false) :
    (releaseHeldContexts s).ctx p = s.ctx p ∧ (releaseHeldContexts s).port p = s.port p := by
  obtain ⟨u, hu, hctx, hport⟩ := releaseHeldContexts_port p s
  obtain ⟨hctx', hport', -, -⟩ := met_of_released hu
  rw [releaseHeldContext_of_unheld (by rw [hctx', h])] at hctx hport
  exact ⟨hctx.trans hctx', hport.trans hport'⟩

theorem releaseHeldContexts_switchHeld (p : Port) (s : State) : ((releaseHeldContexts s).ctx p).switchHeld = false := by
  obtain ⟨u, -, hctx, -⟩ := releaseHeldContexts_port p s
  rw [hctx, releaseHeldContext_switchHeld]

/-- R14, R80, R82: a held context whose Intended records call for one slot keeps them. -/
theorem releaseHeldContexts_taken (hheld : (s.ctx p).switchHeld = true) (hb : s.tariff.active = some b) (hi : (s.ctx p).image = some i)
    (hk : reckon (portDirection p) b i s.clock = .taken k) (hone : k.contents.length ≤ 1) :
    (releaseHeldContexts s).ctx p = { s.ctx p with state := .reckoning, switchHeld := false, intended := some k } := by
  obtain ⟨u, hu, hctx, -⟩ := releaseHeldContexts_port p s
  obtain ⟨hctx', -, htariff, hclock⟩ := met_of_released hu
  rw [hctx, releaseHeldContext_of_held (by rw [hctx', hheld]),
    enterReckoning_ctx_of_taken (htariff ▸ hb) (by rw [hctx', hi]) (by rw [hclock, hk]) hone, hctx']

/-- With one context held, it alone goes on. -/
theorem releaseHeldContexts_of_one (hheld : (s.ctx p).switchHeld = true) (hother : (s.ctx (otherPort p)).switchHeld = false) :
    releaseHeldContexts s = enterReckoning p s := by
  cases p with
  | a =>
    have hb : ((enterReckoning .a s).ctx .b).switchHeld = false := by
      rw [show (enterReckoning .a s).ctx .b = s.ctx .b from (Local.refl Port.a s).enterReckoning.ctx, show (s.ctx .b).switchHeld = false from hother]
    rw [releaseHeldContexts, releaseHeldContext_of_held hheld, releaseHeldContext_of_unheld hb]
  | b => rw [releaseHeldContexts, releaseHeldContext_of_unheld (show (s.ctx .a).switchHeld = false from hother), releaseHeldContext_of_held hheld]

theorem releaseHeldContexts_of_none (h : ∀ p, (s.ctx p).switchHeld = false) : releaseHeldContexts s = s := by
  rw [releaseHeldContexts, releaseHeldContext_of_unheld (h .a), releaseHeldContext_of_unheld (h .b)]

/-! ### The switch applied -/

/-- R82: the bank switched, its event asked for, the contexts not told yet. -/
def switched (b : Bank) (s : State) : State :=
  event (.bankActive b.tag) (s.onTariff fun _ => { active := some b, stage := {}, switch := .none, switchAt := none })

theorem applySwitch_eq (b : Bank) (s : State) : applySwitch b s = releaseHeldContexts (switched b s) := rfl

theorem switched_frame (b : Bank) (s : State) :
    (switched b s).dialog = s.dialog ∧ (switched b s).standing = s.standing
      ∧ (switched b s).tariff = { active := some b, stage := {}, switch := .none, switchAt := none }
      ∧ (switched b s).journal = s.journal ∧ (switched b s).lane = s.lane := by
  simp [switched]

theorem switched_clock (b : Bank) (s : State) : (switched b s).clock = s.clock := event_clock _ _

/-- R195: the event number counts the events asked for. -/
theorem sendCopy_eventNo (q : LinePort) (f : Frame) (s : State) : (sendCopy q f s).mgmt.eventNo = s.mgmt.eventNo := by
  simp only [sendCopy]
  repeat' split
  all_goals simp [setSendDrop]

theorem event_eventNo (e : Event) (s : State) :
    (event e s).mgmt.eventNo = if s.params.eventMask.getLsbD e.row = true then (s.mgmt.eventNo + 1) % 65536 else s.mgmt.eventNo := by
  unfold event
  split
  · rw [sendCopy_eventNo]
    rfl
  · rfl

/-- R177, R195: the BANK_ACTIVE event. -/
theorem switched_event (b : Bank) (s : State) :
    (switched b s).dialog = s.dialog ∧ (switched b s).journal = s.journal ∧ (switched b s).standing = s.standing
      ∧ (switched b s).lane.credits = s.lane.credits
      ∧ (switched b s).mgmt.eventNo = (if s.params.eventMask.getLsbD 9 = true then (s.mgmt.eventNo + 1) % 65536 else s.mgmt.eventNo)
      ∧ (s.params.eventMask.getLsbD 9 = true → s.line.link.up = true → s.line.held = [] → s.line.count .own < 4 →
        (switched b s).line.localQ.up = s.line.localQ.up ++ [⟨s.eventFrame (.bankActive b.tag), .own, false⟩])
      ∧ (s.params.eventMask.getLsbD 9 = true → s.line.link.up = true → 4 ≤ s.line.count .own →
        (switched b s).line.localQ = s.line.localQ ∧ (switched b s).mgmt.flags.sendDrop = true) := by
  obtain ⟨hdialog, hstanding, -, hjournal, hlane⟩ := switched_frame b s
  refine ⟨hdialog, hjournal, hstanding, congrArg Lane.credits hlane, event_eventNo _ _, fun hon hup hheld hroom => ?_, fun hon hup hfull => ?_⟩
  · rw [switched, event_of_room (s := s.onTariff _) (e := .bankActive b.tag) hon hup hheld hroom]
    simp [LineIf.queued]
    rfl
  · rw [switched, event_of_full (s := s.onTariff _) (e := .bankActive b.tag) hon hup hfull]
    exact ⟨rfl, rfl⟩

/-- Settles O36. -/
theorem switchBringsTheStagedBank : Obligations.SwitchBringsTheStagedBank := by
  intro b s hreset hdue hbank hfree
  have hready : s.switchReady = true := by
    have hphase (p : Port) : (s.ctx p).state.farePhase = false := by
      obtain ⟨h1, h2, h3⟩ := hfree p
      cases hs : (s.ctx p).state <;> simp_all [DialogState.farePhase]
    simp [State.switchReady, hdue, hphase]
  have hswitch : s.switchBank = some b := by rw [State.switchBank, if_pos hready, hbank]
  have hexec : exec .switchApplication s = .next (follow (applySwitch b s)) := by
    rw [exec_switchApplication]
    exact effect_some rfl hreset (by rw [hswitch]; rfl)
  obtain ⟨hdialog, -, htariff, -⟩ := switched_frame b s
  have hctx (p : Port) : (switched b s).ctx p = s.ctx p := congrArg (fun d => d.ctx.get p) hdialog
  have hfollow (p : Port) : (follow (applySwitch b s)).ctx p = (releaseHeldContexts (switched b s)).ctx p :=
    congrArg (fun d => d.ctx.get p) (follow_frame _).1
  refine ⟨_, hexec, ?_, fun p => ?_, fun p i k hheld hi hk hone => ?_, fun hnone => ?_⟩
  · rw [(follow_frame _).2.2.1, applySwitch_eq, (releaseHeldContexts_frame _).1, htariff]
  · rw [hfollow, releaseHeldContexts_switchHeld]
  · rw [hfollow, releaseHeldContexts_taken (b := b) (by rw [hctx, hheld]) (by rw [htariff]) (by rw [hctx, hi]) (by rw [switched_clock, hk]) hone]
    exact ⟨rfl, rfl⟩
  · rw [applySwitch_eq, releaseHeldContexts_of_none fun p => by rw [hctx, hnone]]
    simp only [follow_frame, follow_laneRest]
    exact switched_event b s

/-! ### The switch cancelled -/

/-- What a refusal leaves is read from a few parts of the states alone. -/
theorem State.refusedTo.of_eq {code : RefusalCode} {amount : Option Nat} (h : s.refusedTo t p code amount)
    (hport : (u.port p).tag = (s.port p).tag) (himage : (u.ctx p).image = (s.ctx p).image) (hcard : (u.ctx p).cardId = (s.ctx p).cardId)
    (hflight : (u.ctx p).inFlight = true → (s.ctx p).inFlight = true ∨ t.standing.inFlight.get p = none)
    (hjournal : code ≠ .clone → (u.ctx p).journalRes = (s.ctx p).journalRes ∧ u.journal = s.journal ∧ ∀ c, u.recordOf c = s.recordOf c)
    (hv : v.dialog = t.dialog ∧ v.standing = t.standing ∧ v.journal = t.journal ∧ v.params = t.params ∧ v.sent = t.sent
      ∧ v.lane.tempo = t.lane.tempo) : u.refusedTo v p code amount := by
  obtain ⟨hdialog, hstanding, hj, hparams, hsent, htempo⟩ := hv
  have hctx : v.ctx p = t.ctx p := congrArg (fun d => d.ctx.get p) hdialog
  unfold State.refusedTo at h ⊢
  rw [hport, himage, hcard, hctx, hstanding, hj, hparams, hsent, htempo]
  obtain ⟨hshown, hrecords, hstate, hheld, hcredit, hres, hflown, hinFlight, hpoll⟩ := h
  refine ⟨hshown, fun hcode => ?_, hstate, hheld, hcredit, hres, hflown, fun hf => (hflight hf).elim hinFlight id, hpoll⟩
  obtain ⟨hres', hjournal', hrecord⟩ := hjournal hcode
  rw [hres', hjournal', hrecord]
  exact hrecords hcode

/-- R73, R80: the stage replaced and the switch cancelled, the contexts not told yet. -/
def restaged (g : Stage) (s : State) : State := s.onTariff fun t => { t with stage := g, switch := .none, switchAt := none }

theorem replaceStage_eq (g : Stage) (s : State) : replaceStage g s = releaseHeldContexts (restaged g s) := rfl

/-- R14: a held context refused as it goes on, in a state that differs from the given one in the stage and in that context's state. -/
theorem refusedTo_of_restaged {code : RefusalCode} {amount : Option Nat} {g : Stage} {w : State} {f : LineIf → LineIf}
    (ho : (s.port p).outstanding = none) (hp : (s.port p).pendingShow = none)
    (hw : w = reckoning p (restaged g s) ∨ ∃ k, w = reckoned p k (restaged g s))
    (hv : v = follow ((refuse p code false amount w).onBuffers f)) : s.refusedTo v p code amount := by
  have hport : w.port p = s.port p := by obtain rfl | ⟨k, rfl⟩ := hw <;> rfl
  have hrefused := refuse_refusedTo p code amount w (by rw [hport, ho]) (by rw [hport, hp])
  have hctx : ∃ k, w.ctx p = { s.ctx p with state := .reckoning, switchHeld := false, intended := k } := by
    obtain rfl | ⟨k, rfl⟩ := hw
    · exact ⟨_, reckoning_ctx ..⟩
    · exact ⟨_, reckoned_ctx ..⟩
  obtain ⟨k, hctx⟩ := hctx
  have hjournal : w.journal = s.journal := by obtain rfl | ⟨k, rfl⟩ := hw <;> rfl
  have hrecord (c : Content) : s.recordOf c = w.recordOf c := by obtain rfl | ⟨k, rfl⟩ := hw <;> rfl
  refine hrefused.of_eq (by rw [hport]) (by rw [hctx]) (by rw [hctx]) (by rw [hctx]; exact .inl)
    (fun _ => ⟨by rw [hctx], hjournal.symm, hrecord⟩) ?_
  subst hv
  simp [State.onBuffers, State.onLine]

/-- R73, R80: a stage command that replaces the stage cancels the switch, and the contexts held for it go on. -/
theorem exec_restaged {a : Arrival} {tag : Byte} {c : LineCommand} {j : Instr} {g : Stage} (hj : asLineCommand j = some (a, tag, c))
    (hw : j.wf = true) (h : s.canAnswer a) (hc : c ≠ .restart)
    (hx : execute c (s.onArrival a.port) = ⟨.done, .nothing, replaceStage g (s.onArrival a.port)⟩) :
    exec j s = .next (follow ((replaceStage g (s.onArrival a.port)).onBuffers fun l =>
      { l with
        receiving := l.receiving.put a.port false, held := l.held ++ [⟨a.port, .up, .reply ⟨c.kind, tag, .done, .nothing⟩, false⟩] })) := by
  have hrestart : (c == .restart && !s.mgmt.restartPending) = false := by simp [hc]
  have hexec := addressedCommandIsExecutedAndAnswered _ _ _ _ s hw hj h
  simp only [hx, hrestart] at hexec
  exact hexec

/-- The state in which the line has taken the frame of a stage command that replaces the stage, and is answering it. -/
def Restaged (a : Arrival) (tag kind : Byte) (g : Stage) (s t : State) : Prop :=
  t = follow ((replaceStage g (s.onArrival a.port)).onBuffers fun l =>
    { l with
      receiving := l.receiving.put a.port false, held := l.held ++ [⟨a.port, .up, .reply ⟨kind, tag, .done, .nothing⟩, false⟩] })

namespace Restaged

variable {a : Arrival} {tag kind : Byte} {g : Stage}

theorem ctx (h : Restaged a tag kind g s t) (p : Port) : t.ctx p = (releaseHeldContexts (restaged g (s.onArrival a.port))).ctx p := by
  subst h
  exact congrArg (fun d => d.ctx.get p) (follow_frame _).1

theorem port (h : Restaged a tag kind g s t) (p : Port) : t.port p = (releaseHeldContexts (restaged g (s.onArrival a.port))).port p := by
  subst h
  exact congrArg (fun d => d.port.get p) (follow_frame _).1

theorem journal (h : Restaged a tag kind g s t) : t.journal = (releaseHeldContexts (restaged g (s.onArrival a.port))).journal := by
  subst h
  exact (follow_frame _).2.2.2.1

theorem tariff (h : Restaged a tag kind g s t) : t.tariff = { s.tariff with stage := g, switch := .none, switchAt := none } := by
  subst h
  rw [(follow_frame _).2.2.1]
  exact (releaseHeldContexts_frame _).1

theorem held (h : Restaged a tag kind g s t) :
    t.line.held.getLast? = some ⟨a.port, .up, .reply ⟨kind, tag, .done, .nothing⟩, false⟩ := by
  subst h
  rw [(follow_frame _).2.2.2.2.1]
  simp [State.onBuffers, State.onLine, LineIf.setHold]

theorem unheld (h : Restaged a tag kind g s t) (hp : (s.ctx p).switchHeld = false) : t.ctx p = s.ctx p ∧ t.port p = s.port p := by
  rw [h.ctx, h.port]
  exact releaseHeldContexts_of_unheld (s := restaged g (s.onArrival a.port)) hp

theorem taken (h : Restaged a tag kind g s t) (hp : (s.ctx p).switchHeld = true) (hb : s.tariff.active = some b)
    (hi : (s.ctx p).image = some i) (hk : reckon (portDirection p) b i s.clock = .taken k) (hone : k.contents.length ≤ 1) :
    t.ctx p = { s.ctx p with state := .reckoning, switchHeld := false, intended := some k } := by
  rw [h.ctx]
  exact releaseHeldContexts_taken (s := restaged g (s.onArrival a.port)) hp hb hi hk hone

/-- With no other context held, the command leaves what the context's own going on leaves. -/
theorem released_alone {q : LinePort} (hp : (s.ctx p).switchHeld = true) (hother : (s.ctx (otherPort p)).switchHeld = false) :
    releaseHeldContexts (restaged g (s.onArrival q)) = enterReckoning p (restaged g (s.onArrival q)) :=
  releaseHeldContexts_of_one (s := restaged g (s.onArrival q)) hp hother

/-- R14, R150: Intended records that call for a second slot. -/
theorem second (h : Restaged a tag kind g s t) (hp : (s.ctx p).switchHeld = true) (hother : (s.ctx (otherPort p)).switchHeld = false)
    (hb : s.tariff.active = some b) (hi : (s.ctx p).image = some i) (hk : reckon (portDirection p) b i s.clock = .taken k)
    (htwo : 1 < k.contents.length) (hfree : 16 < s.journal.free) :
    t.ctx p = { s.ctx p with
        state := .reckoning, switchHeld := false, intended := some k, journalRes := (s.ctx p).journalRes + 1 }
      ∧ t.journal = { s.journal with reserved := s.journal.reserved + 1 } := by
  have hreckon := enterReckoning_taken (s := restaged g (s.onArrival a.port)) hb hi hk
  rw [if_neg (Nat.not_le.mpr htwo), if_pos (show State.journalSlotFree (restaged g (s.onArrival a.port)) = true from decide_eq_true hfree)] at hreckon
  rw [h.ctx, h.journal, released_alone hp hother, hreckon]
  refine ⟨?_, reserveJournal_journal _⟩
  rw [takeJournalRes_ctx, reckoned_ctx]
  rfl

/-- A state refused as it goes on. -/
theorem refused {code : RefusalCode} {amount : Option Nat} {w : State} (h : Restaged a tag kind g s t) (hp : (s.ctx p).switchHeld = true)
    (hother : (s.ctx (otherPort p)).switchHeld = false) (ho : (s.port p).outstanding = none) (hshow : (s.port p).pendingShow = none)
    (hw : w = reckoning p (restaged g (s.onArrival a.port)) ∨ ∃ k, w = reckoned p k (restaged g (s.onArrival a.port)))
    (hrefuse : enterReckoning p (restaged g (s.onArrival a.port)) = refuse p code false amount w) :
    (s.onArrival a.port).refusedTo t p code amount := by
  have ht := h
  rw [Restaged, replaceStage_eq, released_alone hp hother, hrefuse] at ht
  exact refusedTo_of_restaged ho hshow hw ht

theorem full (h : Restaged a tag kind g s t) (hp : (s.ctx p).switchHeld = true) (hother : (s.ctx (otherPort p)).switchHeld = false)
    (hb : s.tariff.active = some b) (hi : (s.ctx p).image = some i) (ho : (s.port p).outstanding = none)
    (hshow : (s.port p).pendingShow = none) (hk : reckon (portDirection p) b i s.clock = .taken k) (htwo : 1 < k.contents.length)
    (hfull : s.journal.free ≤ 16) : (s.onArrival a.port).refusedTo t p .journalFull none := by
  refine h.refused hp hother ho hshow (.inr ⟨k, rfl⟩) ?_
  rw [enterReckoning_taken (s := restaged g (s.onArrival a.port)) hb hi hk, if_neg (Nat.not_le.mpr htwo), if_neg]
  exact fun hfree => absurd (of_decide_eq_true hfree) (Nat.not_lt.mpr hfull)

theorem insufficient {amount : Nat} (h : Restaged a tag kind g s t) (hp : (s.ctx p).switchHeld = true)
    (hother : (s.ctx (otherPort p)).switchHeld = false) (hb : s.tariff.active = some b) (hi : (s.ctx p).image = some i)
    (ho : (s.port p).outstanding = none) (hshow : (s.port p).pendingShow = none)
    (hk : reckon (portDirection p) b i s.clock = .insufficient amount) : (s.onArrival a.port).refusedTo t p .insufficient (some amount) :=
  h.refused hp hother ho hshow (.inl rfl) (enterReckoning_insufficient (s := restaged g (s.onArrival a.port)) hb hi hk)

end Restaged

theorem replaceStage_of_none {q : LinePort} (g : Stage) (h : ∀ p, (s.ctx p).switchHeld = false) :
    replaceStage g (s.onArrival q) = restaged g (s.onArrival q) :=
  releaseHeldContexts_of_none (s := restaged g (s.onArrival q)) h

theorem stageDiscarded_of_closed (h : s.tariff.stage.state = .closed) : stageDiscarded s = s := by
  unfold stageDiscarded
  rw [h]

theorem stageDiscarded_of_open (h : s.tariff.stage.state ≠ .closed) : stageDiscarded s = replaceStage {} s := by
  unfold stageDiscarded
  split
  next hclosed => exact absurd hclosed h
  all_goals rfl

/-- Settles O26. -/
theorem stageIsOpenedAndDiscarded : Obligations.StageIsOpenedAndDiscarded := by
  refine ⟨fun a tag bankTag s hw h hnone => ?opened, fun a tag s hw h hnone => ?discarded, fun c a tag kind bankTag g s hw h hc => ?held⟩
  case opened =>
    have hrun : execute (.stageOpen bankTag) (s.onArrival a.port) = bare (stageOpened bankTag (s.onArrival a.port)) := rfl
    by_cases hbad : bankTag = 0 ∨ s.tariff.active.map Bank.tag = some bankTag
    · rw [stageOpened, if_pos (by exact hbad)] at hrun
      rw [if_pos hbad]
      have hreply := exec_lineCommand_answered (.stageOpen bankTag) rfl hw h nofun hrun rfl
      exact hreply
    · rw [stageOpened, if_neg (by exact hbad), replaceStage_of_none _ hnone] at hrun
      rw [if_neg hbad]
      have hreply := exec_lineCommand_answered (.stageOpen bankTag) rfl hw h nofun hrun rfl
      exact hreply
  case discarded =>
    have hrun : execute .stageDiscard (s.onArrival a.port) = ⟨.done, .nothing, stageDiscarded (s.onArrival a.port)⟩ := rfl
    by_cases hclosed : s.tariff.stage.state = .closed
    · rw [stageDiscarded_of_closed (s := s.onArrival a.port) hclosed] at hrun
      rw [if_pos hclosed]
      have hreply := exec_lineCommand_answered .stageDiscard rfl hw h nofun hrun rfl
      exact hreply
    · rw [stageDiscarded_of_open (s := s.onArrival a.port) hclosed, replaceStage_of_none _ hnone] at hrun
      rw [if_neg hclosed]
      have hreply := exec_lineCommand_answered .stageDiscard rfl hw h nofun hrun rfl
      exact hreply
  case held =>
    have hexec : ∃ t, exec c s = .next t ∧ Restaged a tag kind g s t := by
      obtain ⟨rfl, rfl, rfl, hzero, hactive⟩ | ⟨rfl, rfl, rfl, hopen⟩ := hc
      · refine ⟨_, exec_restaged (c := .stageOpen bankTag) rfl hw h nofun ?_, rfl⟩
        show bare (stageOpened bankTag (s.onArrival a.port)) = _
        rw [stageOpened, if_neg (by exact not_or.mpr ⟨hzero, hactive⟩)]
        rfl
      · refine ⟨_, exec_restaged (c := .stageDiscard) rfl hw h nofun ?_, rfl⟩
        show (⟨.done, .nothing, stageDiscarded (s.onArrival a.port)⟩ : Executed) = _
        rw [stageDiscarded_of_open (s := s.onArrival a.port) hopen]
    obtain ⟨t, hexec, ht⟩ := hexec
    refine ⟨t, hexec, ht.tariff, ht.held, fun p hp => ht.unheld hp, fun p b i hp hb hi => ⟨fun k hk hone => ?_, fun hother ho hshow =>
      ⟨fun k hk htwo => ⟨fun hfree => ?_, fun hfull => ?_⟩, fun amount hk => ?_⟩⟩⟩
    · exact ht.taken hp hb hi hk hone
    · exact ht.second hp hother hb hi hk htwo hfree
    · exact ht.full hp hother hb hi ho hshow hk htwo hfull
    · exact ht.insufficient hp hother hb hi ho hshow hk

end Sys2Proof.Machine

/-! PROOFS. The card dialogs up to the proof: the poll (`PollSensesAndATapIsRead`), READ and PROVE (`CardIsReadAndProved`), and the verbs
that end with no answer (`VerbWithoutAnAnswerIsIssuedAgain`). -/

namespace Sys2Proof.Machine

open Sys2Proof

variable {s t u : State} {p : Port} {v : Purpose} {c : Instr} {b : List Byte} {i : Image}

/-! ### The endings of a verb as commands -/

theorem exec_fieldLost (hr : s.pins.reset = false) (h : s.endsFieldLost p v c) (ht : ∀ o, onEnd p v o .fieldLost (endVerb p s) = some t) :
    exec c s = .next (follow t) := by
  obtain ⟨m, rfl, h⟩ := h
  obtain ⟨o, -, hexec⟩ := exec_answered hr h
  exact hexec t (ht o)

theorem exec_endsAnswered (hr : s.pins.reset = false) (h : s.endsAnswered p v c b)
    (ht : ∀ o, (s.port p).outstanding = some o → onEnd p v o (.answered b) (endVerb p s) = some t) : exec c s = .next (follow t) := by
  obtain ⟨m, rfl, h⟩ := h
  obtain ⟨o, ho, hexec⟩ := exec_answered hr h
  exact hexec t (ht o ho)

/-! ### What may follow the end of a verb -/

/-- R5, R6: the context waits anew for a card. -/
theorem toIdle_eq (p : Port) (s : State) : toIdle p s = s.onCtx p fun _ =>
    { pollTimer := some (s.params.pollPeriod s.lane.tempo), pollPeriod := s.params.pollPeriod s.lane.tempo } := by
  simp [toIdle, startPoll, State.onCtx, State.onDialog]

theorem onCtx_onCtx (p : Port) (f g : Context → Context) (s : State) : (s.onCtx p f).onCtx p g = s.onCtx p (g ∘ f) := by
  simp [State.onCtx, State.onDialog]

/-- R2: a verb has ended, and its context takes the next step without another one. -/
theorem endVerb_onCtx (p : Port) (f : Context → Context) (s : State) : (endVerb p s).onCtx p f =
    { s with
      dialog := { s.dialog with ctx := s.dialog.ctx.put p (f (s.ctx p)), port := s.dialog.port.put p (s.port p).ended }
      sent := s.shown p } := by
  rw [endVerb_eq]
  rfl

/-- R2: a verb has ended, and the next one of its context is issued. -/
theorem issue_endVerb (p : Port) (v : Purpose) (f : Context → Context) (s : State) : issue p v ((endVerb p s).onCtx p f) =
    { s with
      dialog := { s.dialog with
        ctx := s.dialog.ctx.put p (f (s.ctx p))
        port := s.dialog.port.put p ((s.port p).issued v s.params
          (if v = .prove then some (Config.challenge s.dialog.challengeNo) else none))
        challengeNo := s.dialog.challengeNo + if v = .prove then 1 else 0 }
      sent := .verb p (nextTag (s.port p).tag) ((s.onCtx p f).verbFor p v) :: s.shown p } := by
  rw [issue_eq _ _ _ (by exact endVerb_outstanding p s)]
  have hpending : ((endVerb p s).onCtx p f).shown p = s.shown p := by
    have hnone : (((endVerb p s).onCtx p f).port p).pendingShow = none := endVerb_pendingShow p s
    rw [State.shown, hnone, endVerb_eq]
    rfl
  have htag : ((endVerb p s).onCtx p f).port p = (s.port p).ended := by
    rw [endVerb_eq]
    simp [State.port, State.onCtx, State.onDialog]
  have hverb : ((endVerb p s).onCtx p f).verbFor p v = (s.onCtx p f).verbFor p v := by
    rw [endVerb_eq]
    cases v <;> rfl
  rw [hpending, htag, hverb, endVerb_eq]
  simp [State.onCtx, State.onDialog, State.ctx, PortLink.issued, PortLink.ended]

/-- R2: a verb has ended, and a SHOW follows it. -/
theorem showNow_endVerb (p : Port) (w : Show) (s : State) : showNow p w (endVerb p s) =
    { s with
      dialog := { s.dialog with port := s.dialog.port.put p (s.port p).ended }
      sent := .display p (s.port p).tag w :: s.shown p } := by
  rw [showNow_eq _ _ _ (endVerb_outstanding p s) (endVerb_pendingShow p s)]
  simp [endVerb_eq, State.port, PortLink.ended]

/-! ### The poll -/

/-- R5, R6: a tap. -/
theorem startDialog_endVerb (p : Port) (n : Nat) (s : State) : startDialog p n (endVerb p s) =
    { s with
      dialog := { s.dialog with
        ctx := s.dialog.ctx.put p { state := .reading, cardId := some n, attempts := 1 }
        port := s.dialog.port.put p ((s.port p).issued .read s.params none) }
      lane := { s.lane with tempo := .brisk, briskTimer := some (s.params.briskHold * 1000), dormantTimer := none }
      sent := .verb p (nextTag (s.port p).tag) (.read n) :: s.shown p } := by
  have hbrisk : makeBrisk (endVerb p s) = endVerb p (makeBrisk s) := by
    rw [endVerb_eq, endVerb_eq]
    rfl
  have hstart : startDialog p n (endVerb p s) =
      issue p .read ((endVerb p (makeBrisk s)).onCtx p fun _ => { state := .reading, cardId := some n, attempts := 1 }) := by
    rw [← hbrisk]
    show issue p .read (((makeBrisk (endVerb p s)).onCtx p fun _ => _).onCtx p fun c => { c with attempts := 1 }) = _
    rw [onCtx_onCtx]
    rfl
  rw [hstart, issue_endVerb]
  simp only [State.verbFor, State.ctx_onCtx, Option.getD_some]
  rfl

theorem exec_sensed {r : SenseResult} (hr : s.pins.reset = false) (h : s.endsAnswered p .sense c b) (hp : parseSense b = some r) :
    exec c s = .next (follow (senseFound p r (endVerb p s))) :=
  exec_endsAnswered hr h fun o _ => by rw [onEnd, senseEnds, hp]; rfl

/-- Settles O38. -/
theorem pollSensesAndATapIsRead : Obligations.PollSensesAndATapIsRead := by
  refine ⟨fun p s hr hdue ho => ?_, fun p c s hr => ⟨fun hlost => ?_, fun b hb => ⟨fun hnone => ?_, fun n hcard => ⟨fun hsame => ?_, fun hother => ?_⟩,
    fun hclash => ?_⟩⟩⟩
  · rw [exec_pollTimerExpiry]
    refine effect_some rfl hr ?_
    rw [if_pos (by rw [hdue]; rfl), pollExpires, issueFirst, onCtx_onCtx, issue_eq p .sense (s.onCtx p _) ho]
    rfl
  · rw [exec_fieldLost hr hlost fun o => rfl, toIdle_eq, endVerb_onCtx, endVerb_eq]
  · rw [exec_sensed hr hb hnone, senseFound, toIdle_eq, endVerb_onCtx, endVerb_eq]
  · have hagain : senseFound p (.card n) (endVerb p s) = startPoll p (endVerb p s) := if_pos (by rwa [endVerb_ctx])
    rw [exec_sensed hr hb hcard, hagain, startPoll, endVerb_onCtx, endVerb_eq]
  · have htap : senseFound p (.card n) (endVerb p s) = startDialog p n (endVerb p s) := if_neg (by rwa [endVerb_ctx])
    rw [exec_sensed hr hb hcard, htap, startDialog_endVerb]
  · refine ⟨_, exec_sensed hr hb hclash, ?_⟩
    rw [senseFound, pollAgain]
    have hctx : (showNow p ⟨.oneCard, none, none⟩ (endVerb p s)).ctx p = s.ctx p := by rw [showNow_ctx, endVerb_ctx]
    rw [hctx]
    by_cases hholding : (s.ctx p).state = .holding
    · rw [if_pos hholding, if_pos hholding, startPoll, showNow_endVerb]
      simp [State.onCtx, State.onDialog, State.ctx]
    · rw [if_neg hholding, if_neg hholding, toIdle_eq, showNow_endVerb]
      simp [State.onCtx, State.onDialog, State.ctx]

/-! ### READ and PROVE -/

/-- R22, R23: a refusal at the end of a verb, read from the state in which the verb was outstanding. -/
theorem State.refusedTo.of_endVerb {code : RefusalCode} {amount : Option Nat} (h : (endVerb p s).refusedTo t p code amount) :
    s.refusedTo t p code amount := by
  have hport : (endVerb p s).port p = (s.port p).ended := by simp [endVerb_eq, State.port]
  have hframe : (endVerb p s).journal = s.journal ∧ ∀ c, (endVerb p s).recordOf c = s.recordOf c := by
    rw [endVerb_eq]
    exact ⟨rfl, fun _ => rfl⟩
  exact h.of_eq (by rw [hport]; rfl) (by rw [endVerb_ctx]) (by rw [endVerb_ctx]) (by rw [endVerb_ctx]; exact .inl)
    (fun _ => ⟨by rw [endVerb_ctx], hframe.1.symm, fun c => (hframe.2 c).symm⟩) ⟨rfl, rfl, rfl, rfl, rfl, rfl⟩

theorem refuse_endVerb (p : Port) (code : RefusalCode) (amount : Option Nat) (s : State) :
    s.refusedTo (follow (refuse p code false amount (endVerb p s))) p code amount :=
  (refuse_refusedTo p code amount (endVerb p s) (endVerb_outstanding p s) (endVerb_pendingShow p s)).of_endVerb

/-- R7: the card's own image has been read. -/
theorem exec_imageRead {n : Nat} (hr : s.pins.reset = false) (h : s.endsAnswered p .read c b) (hcard : (s.ctx p).cardId = some n)
    (hb : imageCardId b = some n) : exec c s = .next (follow (imageRead p b (endVerb p s))) := by
  refine exec_endsAnswered hr h fun o _ => ?_
  rw [onEnd, readEnds]
  simp only [hb, endVerb_ctx, hcard, if_true]

/-- R8: a proof has been given. -/
theorem exec_proofGiven {o : Outstanding} {challenge : BitVec 64} (hr : s.pins.reset = false) (h : s.endsAnswered p .prove c b)
    (hlen : b.length = 8) (ho : (s.port p).outstanding = some o) (hch : o.challenge = some challenge) :
    exec c s = .next (follow (proofGiven p challenge (BitVec.ofNat 64 (ofBe b)) (endVerb p s))) := by
  refine exec_endsAnswered hr h fun o' ho' => ?_
  cases ho.symm.trans ho'
  rw [onEnd, hch, proveEnds, parseProof, if_pos hlen]
  rfl

theorem proofGiven_endVerb {n : Nat} (challenge proof : BitVec 64) (hcard : (s.ctx p).cardId = some n) (hi : (s.ctx p).image = some i) :
    proofGiven p challenge proof (endVerb p s) = sendCheck
      { s with
        dialog := { s.dialog with
          ctx := s.dialog.ctx.put p { s.ctx p with state := .checking, attempts := 0 }
          port := s.dialog.port.put p (s.port p).ended
          proofQueue := s.dialog.proofQueue ++ [⟨p, n, i.keyGen, challenge, proof, 1, false⟩] }
        sent := s.shown p } := by
  rw [proofGiven, endVerb_onCtx]
  simp [endVerb_ctx, hcard, hi, enqueueProof, State.onDialog]

/-- Settles O39. -/
theorem cardIsReadAndProved : Obligations.CardIsReadAndProved := by
  refine ⟨fun p c b n s hr h hcard hb => ⟨fun hbad => ?malformed, fun i hi hmax => ?exhausted, fun i hi hmax => ?kept⟩,
    fun p c b o challenge n i s hr h hlen ho hch hcard hi => ⟨fun hbusy => ?waits, fun hfree hempty => ?sent⟩, fun p v c s hr hv hlost => ?lost⟩
  case malformed =>
    refine ⟨_, exec_imageRead hr h hcard hb, ?_⟩
    rw [imageRead, hbad]
    exact refuse_endVerb p .malformed none s
  case exhausted =>
    refine ⟨_, exec_imageRead hr h hcard hb, ?_⟩
    simp only [imageRead, hi, if_pos hmax]
    exact refuse_endVerb p .exhausted none s
  case kept =>
    rw [exec_imageRead hr h hcard hb]
    simp only [imageRead, hi, if_neg hmax]
    rw [keepImage, issueFirst, onCtx_onCtx, issue_endVerb]
    simp [State.verbFor, hcard]
    rfl
  case waits =>
    rw [exec_proofGiven hr h hlen ho hch, proofGiven_endVerb _ _ hcard hi, sendCheck]
    obtain ⟨x, hx⟩ := Option.isSome_iff_exists.mp hbusy
    simp [hx]
  case sent =>
    rw [exec_proofGiven hr h hlen ho hch, proofGiven_endVerb _ _ hcard hi, sendCheck]
    simp [hfree, hempty, State.onDialog, State.send]
  case lost =>
    have htried : exec c s = .next (follow (tryAgain p true (endVerb p s))) := by
      obtain rfl | rfl := hv <;> exact exec_fieldLost hr hlost fun o => rfl
    refine ⟨_, htried, ?_⟩
    rw [tryAgain, if_pos rfl, toIdle_eq, showNow_endVerb]
    simp [State.onCtx, State.onDialog, State.ctx]

/-! ### Verbs that end with no answer -/

/-- R4: a verb that may be issued again, and is. -/
theorem retryOr_endVerb {failed : State → State} (h : (s.ctx p).attempts ≤ s.params.retries) :
    retryOr p v failed (endVerb p s) = issue p v ((endVerb p s).onCtx p fun x => { x with attempts := x.attempts + 1 }) := by
  have hparams : (endVerb p s).params = s.params := by rw [endVerb_eq]
  rw [retryOr, if_pos (by rwa [endVerb_ctx, hparams])]

theorem retryOr_failed {failed : State → State} (h : s.params.retries < (s.ctx p).attempts) :
    retryOr p v failed (endVerb p s) = failed (endVerb p s) := by
  have hparams : (endVerb p s).params = s.params := by rw [endVerb_eq]
  rw [retryOr, if_neg (by rw [endVerb_ctx, hparams]; omega)]

theorem follow_ctx (p : Port) (s : State) : (follow s).ctx p = s.ctx p := congrArg (fun d => d.ctx.get p) (follow_frame s).1

/-- R7, R8: used-up attempts: TRY_AGAIN, and HOLDING with the card. -/
theorem tryAgain_held (p : Port) (s : State) :
    (follow (tryAgain p false (endVerb p s))).port p = (s.port p).ended
      ∧ (follow (tryAgain p false (endVerb p s))).sent = .display p (s.port p).tag ⟨.tryAgain, none, none⟩ :: s.shown p
      ∧ ((follow (tryAgain p false (endVerb p s))).ctx p).state = .holding
      ∧ ((follow (tryAgain p false (endVerb p s))).ctx p).cardId = (s.ctx p).cardId
      ∧ ((follow (tryAgain p false (endVerb p s))).ctx p).pollTimer = some (s.params.pollPeriod s.lane.tempo) := by
  have hport : (follow (tryAgain p false (endVerb p s))).port p = (tryAgain p false (endVerb p s)).port p :=
    congrArg (fun d => d.port.get p) (follow_frame _).1
  have hnone : ((showNow p ⟨.tryAgain, none, none⟩ (endVerb p s)).port p).outstanding.isNone = true := by
    rw [showNow_outstanding, endVerb_outstanding]
    rfl
  rw [hport, follow_ctx, (follow_frame _).2.2.2.2.2.2.2.2.2.2.1, tryAgain, if_neg Bool.false_ne_true, toHolding_port, toHolding_ctx,
    if_pos hnone, showNow_ctx, endVerb_ctx]
  refine ⟨?_, ?_, rfl, rfl, ?_⟩
  · simp [showNow_endVerb, State.port]
  · simp [showNow_endVerb]
  · simp [showNow_endVerb]

/-- R24: the MARK has ended: its refusal is shown, and the context concludes. -/
theorem markEnds_endVerb {code : RefusalCode} {lost : Bool} (h : (s.ctx p).marking = some code) : markEnds p lost (endVerb p s) =
    if lost = true then toIdle p (withdraw p (showNow p (refusalShow (s.ctx p) code none) (endVerb p s)))
    else toHolding p (withdraw p (showNow p (refusalShow (s.ctx p) code none) (endVerb p s))) := by
  simp only [markEnds, endVerb_ctx, h]

/-- Settles O40. -/
theorem verbWithoutAnAnswerIsIssuedAgain : Obligations.VerbWithoutAnAnswerIsIssuedAgain := by
  refine ⟨fun p v c s hr hv h => ⟨fun hagain => ?again, fun hfailed => ?failed⟩, fun p code c s hr hmark => ⟨fun h => ?marked, fun hlost => ?lost⟩⟩
  case again =>
    rw [exec_unanswered hr h]
    obtain rfl | rfl | rfl := hv
    · rw [noAnswer, senseFailed, retryOr_endVerb hagain, issue_endVerb]
      rfl
    · rw [noAnswer, readFailed, retryOr_endVerb hagain, issue_endVerb]
      simp [State.verbFor]
    · rw [noAnswer, proveFailed, retryOr_endVerb hagain, issue_endVerb]
      simp [State.verbFor]
      rfl
  case failed =>
    refine ⟨_, exec_unanswered hr h, ?_⟩
    obtain ⟨hport, hsent, hstate, hcard, hpoll⟩ := tryAgain_held p s
    obtain rfl | rfl | rfl := hv
    · rw [noAnswer, senseFailed, retryOr_failed hfailed, toIdle_eq, endVerb_onCtx]
      simp [State.port, State.ctx]
    · rw [noAnswer, readFailed, retryOr_failed hfailed]
      exact ⟨hport, nofun, fun _ => ⟨hsent, hstate, hcard, hpoll⟩⟩
    · rw [noAnswer, proveFailed, retryOr_failed hfailed]
      exact ⟨hport, nofun, fun _ => ⟨hsent, hstate, hcard, hpoll⟩⟩
  case marked =>
    have hexec : exec c s = .next (follow (markEnds p false (endVerb p s))) := by
      obtain h | h := h
      · rw [exec_unanswered hr h, noAnswer]
      · exact exec_endsAnswered hr h fun o _ => by rw [onEnd, markEndsBy, if_pos rfl]
    refine ⟨_, hexec, ?_⟩
    rw [markEnds_endVerb hmark, if_neg Bool.false_ne_true]
    simp only [follow_frame, follow_ctx]
    rw [toHolding_ctx, withdraw_ctx, showNow_ctx, endVerb_ctx]
    refine ⟨?_, ?_⟩
    · simp [showNow_endVerb, refusalShow]
    · split <;> exact ⟨rfl, rfl, rfl⟩
  case lost =>
    refine ⟨_, exec_fieldLost hr hlost fun o => by rw [onEnd, markEndsBy], ?_⟩
    rw [markEnds_endVerb hmark, if_pos rfl, toIdle_eq]
    simp [showNow_endVerb, follow_ctx, refusalShow]

end Sys2Proof.Machine

/-! PROOFS. The verdict on a card (sections 2.7 and 1.6): its tests in their order (`VerdictTestsInTheirOrder`). -/

namespace Sys2Proof.Machine

open Sys2Proof

variable {s t u w : State} {p : Port} {i : Image} {b : Bank} {k : Intended} {r : ProofRequest} {rest : List ProofRequest} {o : ProofOutcome}

/-! ### The tests of the verdict, one equation each -/

theorem judge_noTariff (h : s.tariff.active = none) : judge p i o s = refuse p .noTariff false none s := by
  unfold judge
  rw [if_pos (by rw [h]; rfl)]

theorem judge_denied {e : DenyEntry} (ha : s.tariff.active.isSome = true) (hd : s.denied i.cardId = some e) :
    judge p i o s = refuseDenied p e s := by
  unfold judge
  rw [if_neg (by simpa using Option.isSome_iff_ne_none.mp ha)]
  simp only [hd]

theorem judge_blocked (ha : s.tariff.active.isSome = true) (hd : s.denied i.cardId = none) (hs : i.status = .blocked) :
    judge p i o s = refuse p .blocked false none s := by
  unfold judge
  rw [if_neg (by simpa using Option.isSome_iff_ne_none.mp ha)]
  simp only [hd]
  rw [if_pos hs]

/-- R42: the card is clear, and its proof decides. -/
theorem judge_clear (ha : s.tariff.active.isSome = true) (hd : s.denied i.cardId = none) (hs : i.status = .active) : judge p i o s =
    match o with
    | .fail | .unknownGen => refuse p .proofFail false none s
    | .unavailable => refuse p .proofUnavailable false none s
    | .pass => verdictInFlight p i s := by
  unfold judge
  rw [if_neg (by simpa using Option.isSome_iff_ne_none.mp ha)]
  simp only [hd]
  rw [if_neg (by simp [hs])] <;> cases o <;> rfl

theorem verdictInFlight_other (h : s.standing.inFlight.get (otherPort p) = some i.cardId) :
    verdictInFlight p i s = refuseClone p i.cardId .inFlight i.counter i.balance s := if_pos h

theorem verdictInFlight_alone (h : s.standing.inFlight.get (otherPort p) ≠ some i.cardId) :
    verdictInFlight p i s = verdictRecovery p i (joinInFlight p i.cardId s) := if_neg h

theorem verdictRecovery_none (h : s.recoveryOf i.cardId = none) : verdictRecovery p i s = verdictSighting p i s := by
  rw [verdictRecovery]
  simp only [h]

theorem verdictSighting_absent (h : s.sighting i.cardId = none) : verdictSighting p i s = verdictProceed p s := by
  rw [verdictSighting, touch_of_absent h]
  simp only [h]

/-- R45 to R47: a record that stands decides. -/
theorem verdictSighting_stands {y : Sighting} (h : s.stands i.cardId y) : verdictSighting p i s =
    match cloneCheck i y with
    | some reason => refuseClone p i.cardId reason i.counter i.balance s
    | none =>
      if regrants p i y s then verdictRegrant p i y s
      else if passback p i y s then refuse p (passbackCode p) false none s
      else verdictProceed p s := by
  rw [verdictSighting, touch_of_stands h]
  simp only [h.1] <;> rfl

/-- R45: a record with a greater counter, or with the same and another balance. -/
theorem cloneCheck_conflict {y : Sighting} (h : i.counter < y.counter ∨ (i.counter = y.counter ∧ i.balance ≠ y.balance)) :
    ∃ reason, cloneCheck i y = some reason := by
  unfold cloneCheck
  by_cases hless : i.counter < y.counter
  · exact ⟨_, if_pos hless⟩
  · exact ⟨_, (if_neg hless).trans (if_pos (h.resolve_left hless))⟩

theorem cloneCheck_agrees {y : Sighting} (hless : ¬i.counter < y.counter) (hsame : ¬(i.counter = y.counter ∧ i.balance ≠ y.balance)) :
    cloneCheck i y = none := by
  rw [cloneCheck, if_neg hless, if_neg hsame]

/-! ### What a verdict reads of the state before it -/

/-- State `w` is on the way from state `s` to the end of a dialog's step, and what a refusal shows is as it was. -/
structure OnTheWay (p : Port) (s w : State) : Prop where
  port : w.port p = s.port p
  image : (w.ctx p).image = (s.ctx p).image
  card : (w.ctx p).cardId = (s.ctx p).cardId
  flight : (s.ctx p).inFlight = true → (w.ctx p).inFlight = true ∨ w.standing.inFlight.get p = none

/-- And so is what a refusal records; the head request has left the queue. -/
structure OnTheBooks (p : Port) (s w : State) : Prop extends OnTheWay p s w where
  queue : w.dialog.proofQueue = s.dialog.proofQueue.tail
  res : (w.ctx p).journalRes = (s.ctx p).journalRes
  journal : w.journal = s.journal
  record : ∀ c, w.recordOf c = s.recordOf c

theorem refuse_queue (p : Port) (code : RefusalCode) (mark : Bool) (amount : Option Nat) (s : State) :
    (refuse p code mark amount s).dialog.proofQueue = s.dialog.proofQueue := ((Local.refl p s).refuse code mark amount).queue

theorem follow_queue (s : State) : (follow s).dialog.proofQueue = s.dialog.proofQueue := congrArg Dialogs.proofQueue (follow_frame s).1

theorem refuse_inFlight (code : RefusalCode) (mark : Bool) (amount : Option Nat) (h : s.standing.inFlight.get p = none) :
    (refuse p code mark amount s).standing.inFlight.get p = none := by
  have hwithdraw (u : State) (hu : u.standing.inFlight.get p = none) : (withdraw p u).standing.inFlight.get p = none := by
    unfold withdraw
    split
    · exact ByPort.get_put_same ..
    · exact hu
  simp only [refuse]
  split
  · simpa [State.onCtx, State.onDialog] using h
  · rw [(toHolding_frame ..).1]
    exact hwithdraw _ (by simpa using h)

theorem OnTheWay.withdrawn {code : RefusalCode} {amount : Option Nat} (h : OnTheWay p s w) (hf : (s.ctx p).inFlight = true) :
    (w.ctx p).inFlight = true ∨ (follow (refuse p code false amount w)).standing.inFlight.get p = none := by
  rw [(follow_frame _).2.1]
  exact (h.flight hf).imp id (refuse_inFlight code false amount)

/-- R48: a refusal as a clone, once it has been found. -/
theorem OnTheWay.refuses {amount : Option Nat} (h : OnTheWay p s w) (ho : (s.port p).outstanding = none) (hshow : (s.port p).pendingShow = none) :
    s.refusedTo (follow (refuse p .clone false amount w)) p .clone amount :=
  (refuse_refusedTo p .clone amount w (by rw [h.port, ho]) (by rw [h.port, hshow])).of_eq (by rw [h.port]) h.image.symm h.card.symm h.withdrawn
    (fun hcode => absurd rfl hcode) ⟨rfl, rfl, rfl, rfl, rfl, rfl⟩

theorem OnTheBooks.refuses {code : RefusalCode} {amount : Option Nat} (h : OnTheBooks p s w) (ho : (s.port p).outstanding = none)
    (hshow : (s.port p).pendingShow = none) :
    s.refusedTo (follow (refuse p code false amount w)) p code amount
      ∧ (follow (refuse p code false amount w)).dialog.proofQueue = s.dialog.proofQueue.tail :=
  ⟨(refuse_refusedTo p code amount w (by rw [h.port, ho]) (by rw [h.port, hshow])).of_eq (by rw [h.port]) h.image.symm h.card.symm h.withdrawn
    (fun _ => ⟨h.res.symm, h.journal.symm, fun c => (h.record c).symm⟩) ⟨rfl, rfl, rfl, rfl, rfl, rfl⟩,
    by rw [follow_queue, refuse_queue, h.queue]⟩

theorem OnTheBooks.joinInFlight (n : Nat) (h : OnTheBooks p s w) : OnTheBooks p s (joinInFlight p n w) := by
  have hctx : (Machine.joinInFlight p n w).ctx p = { w.ctx p with inFlight := true } := State.ctx_onCtx ..
  exact ⟨⟨h.port, by rw [hctx]; exact h.image, by rw [hctx]; exact h.card, fun _ => .inl (by rw [hctx])⟩, h.queue, by rw [hctx]; exact h.res,
    h.journal, h.record⟩

theorem takeCreditRes_ctx (p : Port) (s : State) : (takeCreditRes p s).ctx p = { s.ctx p with creditRes := true } :=
  (State.ctx_of_dialog (t := s) (p := p) (f := fun c => { c with creditRes := true }) (u := takeCreditRes p s) rfl).1

theorem OnTheBooks.takeCreditRes (h : OnTheBooks p s w) : OnTheBooks p s (takeCreditRes p w) := by
  have hctx := takeCreditRes_ctx p w
  exact ⟨⟨h.port, by rw [hctx]; exact h.image, by rw [hctx]; exact h.card, by rw [hctx]; exact h.flight⟩, h.queue, by rw [hctx]; exact h.res,
    h.journal, h.record⟩

theorem cloneFinding_inFlight (p : Port) (n m : Nat) (reason : CloneReason) (x : Int) (s : State) :
    (cloneFinding p n reason m x s).standing.inFlight = s.standing.inFlight := by
  have hfound : (addFound .localPart n s).standing.inFlight = s.standing.inFlight := by
    unfold addFound
    repeat' split
    all_goals rfl
  simp [cloneFinding, hfound]

theorem OnTheWay.cloneFinding {n m : Nat} {reason : CloneReason} {x : Int} (h : OnTheWay p s w) :
    OnTheWay p s (cloneFinding p n reason m x w) := by
  obtain ⟨j, hctx⟩ := cloneFinding_ctx p n reason m x w
  exact ⟨by rw [cloneFinding_port, h.port], by rw [hctx]; exact h.image, by rw [hctx]; exact h.card, by rw [hctx, cloneFinding_inFlight]; exact h.flight⟩

/-! ### The outcome of the head request -/

/-- R9, R11: the request has left the queue, and its context takes the verdict. -/
def judging (p : Port) (o : ProofOutcome) (s : State) : State :=
  (popProof s).onCtx p fun c => { c with state := .judging, proof := some o }

theorem judging_ctx (p : Port) (o : ProofOutcome) (s : State) :
    (judging p o s).ctx p = { s.ctx p with state := .judging, proof := some o } := by
  rw [judging, State.ctx_onCtx, popProof, (sendCheck_dialog _).1]
  rfl

theorem judging_books (p : Port) (o : ProofOutcome) (s : State) : OnTheBooks p s (judging p o s) := by
  obtain ⟨-, hport, hqueue, -⟩ := sendCheck_dialog (s.onDialog fun d => { d with proofQueue := d.proofQueue.tail, proofTimer := none })
  obtain ⟨-, -, -, -, hjournal, hline, hmgmt, -⟩ := popProof_frame s
  have hctx := judging_ctx p o s
  exact ⟨⟨hport p, by rw [hctx], by rw [hctx], by rw [hctx]; exact .inl⟩, hqueue, by rw [hctx], hjournal,
    State.recordOf_congr (congrArg Journal.nextSeq hjournal) (congrArg Mgmt.clock hmgmt) (congrArg LineIf.connected hline)⟩

/-- R9: the CHECK of the head request ends by command `c` with the outcome `x`, none for no answer or GARBLED. -/
def State.checkEndsBy (s : State) (n : Nat) (c : Instr) (x : Option ProofOutcome) : Prop :=
  (c = .proofTimeoutExpiry ∧ n = 0 ∧ x = none)
    ∨ ∃ message o, c = .checkAnswer message ∧ parseCheck message = some (s.dialog.proofTag, o)
      ∧ x = (match o with | .pass => some .pass | .fail => some .fail | .unknownGen => some .unknownGen | .garbled => none)

theorem exec_checkEnds {n : Nat} {c : Instr} {x : Option ProofOutcome} (hreset : s.pins.reset = false)
    (hq : s.dialog.proofQueue = r :: rest) (ht : s.dialog.proofTimer = some n) (hc : s.checkEndsBy n c x) :
    exec c s = .next (follow (checkEnds r x s)) := by
  obtain ⟨rfl, rfl, rfl⟩ | ⟨m, o, rfl, hm, rfl⟩ := hc
  · rw [exec_proofTimeoutExpiry]
    refine effect_some rfl hreset ?_
    rw [if_pos (by rw [ht]; rfl), proofExpires]
    simp only [hq]
  · rw [exec_checkAnswer]
    refine effect_some rfl hreset ?_
    simp only [checkAnswered, hq, ht, hm, if_true]
    cases o <;> rfl

/-- R9: a first CHECK without an outcome is sent once more. -/
theorem exec_checkAgain {n : Nat} {c : Instr} (hreset : s.pins.reset = false) (hq : s.dialog.proofQueue = r :: rest)
    (ht : s.dialog.proofTimer = some n) (hr : r.abandoned = false) (hc : s.checkEndsBy n c none) (hone : r.attempt = 1) :
    exec c s = .next (follow
      { s with
        dialog := { s.dialog with
          proofQueue := { r with attempt := 2 } :: rest
          proofTag := nextTag s.dialog.proofTag, proofTimer := some s.params.proofTimeout }
        sent := .check (nextTag s.dialog.proofTag) { r with attempt := 2 } :: s.sent }) := by
  rw [exec_checkEnds hreset hq ht hc]
  unfold checkEnds
  rw [if_neg (by simp [hr])]
  simp only [if_pos hone, resendCheck, sendCheck, State.onDialog, hq, List.tail_cons]
  rfl

/-- R9, R11: the outcome is known, and brings the verdict. -/
theorem exec_verdict {n : Nat} {c : Instr} {x : Option ProofOutcome} (hreset : s.pins.reset = false)
    (hq : s.dialog.proofQueue = r :: rest) (ht : s.dialog.proofTimer = some n) (hp : r.port = p) (hr : r.abandoned = false)
    (hstate : (s.ctx p).state = .checking) (hi : (s.ctx p).image = some i) (hc : s.checkEndsBy n c x) (hknown : x ≠ none ∨ r.attempt ≠ 1) :
    exec c s = .next (follow (judge p i (x.getD .unavailable) (judging p (x.getD .unavailable) s))) := by
  have hctx : (popProof s).ctx p = s.ctx p := by
    rw [popProof, (sendCheck_dialog _).1]
    rfl
  have hproof (o : ProofOutcome) : proofKnown p o (popProof s) = judge p i o (judging p o s) := by
    rw [proofKnown]
    simp only [hctx, hstate, hi]
    rfl
  rw [exec_checkEnds hreset hq ht hc]
  unfold checkEnds
  rw [if_neg (by simp [hr]), hp]
  cases x with
  | some o => simp only [hproof, Option.getD_some]
  | none =>
    have hsecond := hknown.resolve_left (fun h => h rfl)
    simp only [if_neg hsecond, hproof, Option.getD_none]

/-! ### A clone found by a verdict -/

theorem refuse_clone_keeps (p : Port) (amount : Option Nat) (s : State) :
    (refuse p .clone false amount s).standing.deny = s.standing.deny
      ∧ (refuse p .clone false amount s).standing.sightings = s.standing.sightings
      ∧ (refuse p .clone false amount s).journal.records = s.journal.records := by
  have hwithdraw (u : State) : (withdraw p u).standing.deny = u.standing.deny ∧ (withdraw p u).standing.sightings = u.standing.sightings := by
    unfold withdraw
    split <;> exact ⟨rfl, rfl⟩
  have hrecord : (refusalRecord p .clone (dropCreditRes p s)).journal.records = s.journal.records := by
    rw [refusalRecord, if_pos rfl]
    simp [dropJournalRes, releaseJournal, State.onJournal, State.onCtx, State.onDialog]
  simp [refuse, hwithdraw, hrecord]

/-- R48: what a clone finding keeps and adds. -/
theorem cloneFinding_keeps (p : Port) (n m : Nat) (reason : CloneReason) (x : Int) (s : State) :
    (cloneFinding p n reason m x s).standing = (addFound .localPart n s).standing
      ∧ (1 ≤ s.journal.free → (cloneFinding p n reason m x s).journal.records =
        s.journal.records ++ [s.recordOf (cloneContent (some (portDirection p)) n reason m x)]) := by
  refine ⟨by simp [cloneFinding], fun hfree => ?_⟩
  have hadded : (addFound .localPart n s).journal = s.journal ∧ ∀ c, (addFound .localPart n s).recordOf c = s.recordOf c := by
    refine ⟨by simp, State.recordOf_congr ?_ ?_ ?_⟩ <;> simp [addFound_clock]
  have hfree' : 1 ≤ (addFound .localPart n s).journal.free := by rwa [hadded.1]
  simp only [cloneFinding, appendClone, if_pos hfree', event_frame, broadcastSuspect_frame, appendRecord_journal]
  rw [← hadded.1, ← hadded.2]
  rfl

/-- R48: without the mark indication a clone is refused at once; the finding stands. -/
theorem OnTheWay.refuseClone {n m : Nat} {reason : CloneReason} {x : Int} (h : OnTheWay p s w) (ho : (s.port p).outstanding = none)
    (hshow : (s.port p).pendingShow = none) (hmark : w.params.markOnClone = false) :
    s.refusedTo (follow (refuseClone p n reason m x w)) p .clone none
      ∧ (follow (refuseClone p n reason m x w)).denied n = (addFound .localPart n w).denied n
      ∧ (follow (refuseClone p n reason m x w)).standing.sightings = w.standing.sightings
      ∧ (1 ≤ w.journal.free → (follow (refuseClone p n reason m x w)).journal.records =
        w.journal.records ++ [w.recordOf (cloneContent (some (portDirection p)) n reason m x)]) := by
  obtain ⟨hdeny, hsightings, hrecords⟩ := refuse_clone_keeps p none (Machine.cloneFinding p n reason m x w)
  obtain ⟨hstanding, hrecord⟩ := cloneFinding_keeps p n m reason x w
  rw [Machine.refuseClone, hmark]
  refine ⟨h.cloneFinding.refuses ho hshow, ?_, ?_, fun hfree => ?_⟩
  · rw [State.denied, (follow_frame _).2.1, hdeny, hstanding]
    rfl
  · rw [(follow_frame _).2.1, hsightings, hstanding, addFound_sightings]
  · rw [(follow_frame _).2.2.2.1, hrecords, hrecord hfree]

/-! ### The reservations -/

theorem State.laneRefusal_congr (h : t.lane = s.lane) : t.laneRefusal p = s.laneRefusal p := by
  unfold State.laneRefusal State.creditSlotFree
  rw [h]

theorem State.laneRefusal_of_test {code : RefusalCode} (h : laneTest p s.lane.eff = some code) : s.laneRefusal p = some code := by
  simp only [State.laneRefusal, h]

theorem State.laneRefusal_of_busy (h : laneTest p s.lane.eff = none)
    (hfull : 4 ≤ (s.lane.credits.get (portDirection p)).length + s.lane.reserved.get (portDirection p)) :
    s.laneRefusal p = some .laneBusy := by
  have hbusy : s.creditSlotFree (portDirection p) = false := decide_eq_false (by simpa [Config.creditCapacity] using hfull)
  simp only [State.laneRefusal, h, hbusy]
  rfl

theorem State.laneRefusal_of_free (h : laneTest p s.lane.eff = none)
    (hfree : (s.lane.credits.get (portDirection p)).length + s.lane.reserved.get (portDirection p) < 4) : s.laneRefusal p = none := by
  have hslot : s.creditSlotFree (portDirection p) = true := decide_eq_true hfree
  simp only [State.laneRefusal, h, hslot]
  rfl

theorem verdictProceed_refused {code : RefusalCode} (h : s.laneRefusal p = some code) : verdictProceed p s = refuse p code false none s := by
  simp only [verdictProceed, h]

theorem verdictProceed_full (h : s.laneRefusal p = none) (hfull : s.journal.free ≤ 16) :
    verdictProceed p s = refuse p .journalFull false none (takeCreditRes p s) := by
  have hslot : (takeCreditRes p s).journalSlotFree = false := decide_eq_false (Nat.not_lt.mpr hfull)
  simp only [verdictProceed, h, hslot]
  rfl

/-- R12: one slot of each kind is reserved. -/
def reservedBoth (p : Port) (s : State) : State := takeJournalRes p (takeCreditRes p s)

theorem verdictProceed_reserved (h : s.laneRefusal p = none) (hfree : 16 < s.journal.free) :
    verdictProceed p s = readyToReckon p (reservedBoth p s) := by
  have hslot : (takeCreditRes p s).journalSlotFree = true := decide_eq_true hfree
  simp only [verdictProceed, h, hslot]
  rfl

theorem reservedBoth_ctx (p : Port) (s : State) :
    (reservedBoth p s).ctx p = { s.ctx p with creditRes := true, journalRes := (s.ctx p).journalRes + 1 } := by
  rw [reservedBoth, takeJournalRes_ctx, takeCreditRes_ctx]

theorem reservedBoth_facts (p : Port) (s : State) :
    (reservedBoth p s).lane = { s.lane with
        reserved := s.lane.reserved.put (portDirection p) (s.lane.reserved.get (portDirection p) + 1) }
      ∧ (reservedBoth p s).journal = { s.journal with reserved := s.journal.reserved + 1 }
      ∧ (reservedBoth p s).standing = s.standing ∧ (reservedBoth p s).tariff = s.tariff ∧ (reservedBoth p s).params = s.params
      ∧ (reservedBoth p s).clock = s.clock ∧ (reservedBoth p s).line.address = s.line.address
      ∧ (reservedBoth p s).line.connected = s.line.connected ∧ ∀ q, (reservedBoth p s).port q = s.port q := by
  have hgrows : Grows (takeCreditRes p s) (reservedBoth p s) := reserveJournal_grows <| onCtx_grows <| .refl _
  obtain ⟨-, -, htariff, -, hlane, -⟩ := reserveJournal_frame ((takeCreditRes p s).onCtx p fun c => { c with journalRes := c.journalRes + 1 })
  refine ⟨hlane, reserveJournal_journal _, ?_, htariff, ?_, hgrows.clock, ?_, ?_, fun q => takeJournalRes_port ..⟩ <;>
    simp [reservedBoth, takeJournalRes, takeCreditRes, reserveCredit]

/-! ### The verdict -/

/-- R24: a refusal with the mark indication. -/
theorem refuse_marked {code : RefusalCode} {n : Nat} (ho : (s.port p).outstanding = none) (hn : (s.ctx p).cardId = some n) :
    ((refuse p code true none s).ctx p).state = .marking ∧ ((refuse p code true none s).ctx p).marking = some code
      ∧ (refuse p code true none s).sent.head? = some (.verb p (nextTag (s.port p).tag) (.mark n)) := by
  obtain ⟨hctx, hport⟩ := refusalRecord_dropCreditRes p code s
  simp only [refuse, if_pos]
  refine ⟨by rw [issue_ctx, State.ctx_onCtx], by rw [issue_ctx, State.ctx_onCtx], ?_⟩
  have hport' : ((refusalRecord p code (dropCreditRes p s)).onCtx p fun c => { c with
      state := .marking, marking := some code, switchHeld := false }).port p = s.port p := congrFun hport p
  rw [issue_eq _ _ _ (by rw [hport', ho]), hport']
  simp only [List.head?_cons, State.verbFor, State.ctx_onCtx, hctx, hn, Option.getD_some]

/-- What a verdict reads of the lists, the tariff and the lane. -/
theorem judging_facts (p : Port) (o : ProofOutcome) (s : State) :
    (judging p o s).standing = s.standing ∧ (judging p o s).tariff = s.tariff ∧ (judging p o s).lane = s.lane
      ∧ (judging p o s).journal = s.journal ∧ (judging p o s).params = s.params ∧ (judging p o s).mgmt = s.mgmt := by
  obtain ⟨hstanding, htariff, -, hlane, hjournal, -, hmgmt, hparams, -⟩ := popProof_frame s
  exact ⟨hstanding, htariff, hlane, hjournal, hparams, hmgmt⟩

theorem lapsedKind_ne_admittedKind (d : Direction) : admittedKind d ≠ lapsedKind d := by cases d <;> nofun

theorem State.stands_congr {n : Nat} {y : Sighting} (hstanding : t.standing.sightings = s.standing.sightings) (hclock : t.mgmt.clock = s.mgmt.clock)
    (hparams : t.params = s.params) (h : s.stands n y) : t.stands n y := by
  unfold State.stands State.sighting State.tooOld State.clock at h ⊢
  rwa [hstanding, hclock, hparams]

/-- Command `c` brings the verdict on the context of port `p`, with outcome `o`; `rest` is left of the proof queue. -/
structure VerdictTaken (p : Port) (i : Image) (c : Instr) (o : ProofOutcome) (rest : List ProofRequest) (s : State) : Prop where
  run : exec c s = .next (follow (judge p i o (judging p o s)))
  queue : s.dialog.proofQueue.tail = rest
  outstanding : (s.port p).outstanding = none
  pendingShow : (s.port p).pendingShow = none

/-- R42: steps 1 to 3 of the verdict pass. -/
structure ClearCard (i : Image) (s : State) : Prop where
  active : s.tariff.active.isSome = true
  denied : s.denied i.cardId = none
  status : i.status = .active

theorem judging_denied (n : Nat) (p : Port) (o : ProofOutcome) (s : State) : (judging p o s).denied n = s.denied n := by
  rw [State.denied, (judging_facts p o s).1, State.denied]

theorem judging_active (p : Port) (o : ProofOutcome) (s : State) : (judging p o s).tariff.active = s.tariff.active := by
  rw [(judging_facts p o s).2.1]

theorem ClearCard.judging (h : ClearCard i s) (p : Port) (o : ProofOutcome) : ClearCard i (judging p o s) :=
  ⟨by rw [judging_active, h.active], by rw [judging_denied, h.denied], h.status⟩

/-- Steps 5 and 6: a card that is not in flight at the other port and has no recovery entry. -/
theorem judge_free (h : ClearCard i s) (hflight : s.standing.inFlight.get (otherPort p) ≠ some i.cardId)
    (hrec : s.recoveryOf i.cardId = none) : judge p i .pass s = verdictSighting p i (joinInFlight p i.cardId s) := by
  rw [judge_clear h.active h.denied h.status, verdictInFlight_alone hflight, verdictRecovery_none (by exact hrec)]

/-- The state in which steps 7 to 10 are taken. -/
def judgingFree (p : Port) (i : Image) (s : State) : State := joinInFlight p i.cardId (judging p .pass s)

theorem judgingFree_facts (p : Port) (i : Image) (s : State) :
    (judgingFree p i s).standing = { s.standing with inFlight := s.standing.inFlight.put p (some i.cardId) }
      ∧ (judgingFree p i s).tariff = s.tariff ∧ (judgingFree p i s).lane = s.lane ∧ (judgingFree p i s).journal = s.journal
      ∧ (judgingFree p i s).params = s.params ∧ (judgingFree p i s).mgmt = s.mgmt
      ∧ (judgingFree p i s).ctx p = { s.ctx p with state := .judging, proof := some .pass, inFlight := true } := by
  obtain ⟨hstanding, htariff, hlane, hjournal, hparams, hmgmt⟩ := judging_facts p .pass s
  refine ⟨?_, htariff, hlane, hjournal, hparams, hmgmt, ?_⟩
  · show { (judging p .pass s).standing with inFlight := (judging p .pass s).standing.inFlight.put p (some i.cardId) } = _
    rw [hstanding]
  · have hjoined : (judgingFree p i s).ctx p = { (judging p .pass s).ctx p with inFlight := true } := State.ctx_onCtx ..
    rw [hjoined, judging_ctx]

theorem judgingFree_books (p : Port) (i : Image) (s : State) : OnTheBooks p s (judgingFree p i s) := (judging_books p .pass s).joinInFlight _

theorem judgingFree_stands {y : Sighting} (h : s.stands i.cardId y) : (judgingFree p i s).stands i.cardId y := by
  obtain ⟨hstanding, -, -, -, hparams, hmgmt, -⟩ := judgingFree_facts p i s
  exact State.stands_congr (by rw [hstanding]) (by rw [hmgmt]) hparams h

/-- Steps 7 to 10 follow. -/
theorem judge_judgingFree (hclear : ClearCard i s)
    (hflight : s.standing.inFlight.get (otherPort p) ≠ some i.cardId) (hrec : s.recoveryOf i.cardId = none) :
    judge p i .pass (judging p .pass s) = verdictSighting p i (judgingFree p i s) := by
  have hstanding := (judging_facts p .pass s).1
  exact judge_free (hclear.judging p .pass) (by rwa [hstanding]) (by rw [State.recoveryOf, hstanding]; exact hrec)

namespace VerdictTaken

variable {c : Instr}

theorem refused {code : RefusalCode} (h : VerdictTaken p i c o rest s) (hu : judge p i o (judging p o s) = refuse p code false none w)
    (hw : OnTheBooks p s w) : ∃ t, exec c s = .next t ∧ s.refusedTo t p code none ∧ t.dialog.proofQueue = rest := by
  obtain ⟨hrefused, hqueue⟩ := hw.refuses (code := code) (amount := none) h.outstanding h.pendingShow
  have hrun := h.run
  rw [hu] at hrun
  exact ⟨_, hrun, hrefused, by rw [hqueue, h.queue]⟩

theorem denied {e : DenyEntry} (h : VerdictTaken p i c o rest s) (ha : s.tariff.active.isSome = true) (hd : s.denied i.cardId = some e)
    (he : e.action = .refuse) : ∃ t, exec c s = .next t ∧ s.refusedTo t p .denied none ∧ t.dialog.proofQueue = rest := by
  refine h.refused ((judge_denied (by rwa [judging_active]) ((judging_denied ..).trans hd)).trans ?_) (judging_books p o s)
  rw [refuseDenied, he]
  rfl

theorem marked {e : DenyEntry} (h : VerdictTaken p i c o rest s) (hcard : (s.ctx p).cardId = some i.cardId)
    (ha : s.tariff.active.isSome = true) (hd : s.denied i.cardId = some e) (he : e.action = .refuseAndMark) :
    ∃ t, exec c s = .next t ∧ (t.ctx p).state = .marking ∧ (t.ctx p).marking = some .denied
      ∧ t.sent.head? = some (.verb p (nextTag (s.port p).tag) (.mark i.cardId)) := by
  have hbooks := judging_books p o s
  have hrefused : judge p i o (judging p o s) = refuse p .denied true none (judging p o s) := by
    rw [judge_denied (by rwa [judging_active]) ((judging_denied ..).trans hd), refuseDenied, he]
    rfl
  obtain ⟨hmarking, hcode, hsent⟩ := refuse_marked (p := p) (code := .denied) (s := judging p o s) (n := i.cardId)
    (by rw [hbooks.port, h.outstanding]) (by rw [hbooks.card, hcard])
  refine ⟨_, h.run, ?_⟩
  rw [hrefused, follow_ctx, (follow_frame _).2.2.2.2.2.2.2.2.2.2.1, ← hbooks.port]
  exact ⟨hmarking, hcode, hsent⟩

/-- Step 5: the card is in flight at the other port. -/
theorem inFlight (h : VerdictTaken p i c .pass rest s) (hclear : ClearCard i s)
    (hother : s.standing.inFlight.get (otherPort p) = some i.cardId) (hmark : s.params.markOnClone = false)
    (hroom : s.standing.deny.length < 4096) :
    ∃ t, exec c s = .next t ∧ s.refusedTo t p .clone none
      ∧ t.denied i.cardId = some ⟨i.cardId, .clone, .localPart, .refuse⟩ ∧ t.standing.sightings = s.standing.sightings
      ∧ (1 ≤ s.journal.free → t.journal.records = s.journal.records ++
          [s.recordOf (cloneContent (some (portDirection p)) i.cardId .inFlight i.counter i.balance)]) := by
  obtain ⟨hstanding, -, -, hjournal, hparams, -⟩ := judging_facts p .pass s
  have hclear' := hclear.judging p .pass
  have hclone : judge p i .pass (judging p .pass s) = refuseClone p i.cardId .inFlight i.counter i.balance (judging p .pass s) :=
    (judge_clear hclear'.active hclear'.denied hclear'.status).trans (verdictInFlight_other (by rw [hstanding, hother]))
  obtain ⟨hrefused, hfound, hsightings, hrecords⟩ := (judging_books p .pass s).toOnTheWay.refuseClone (n := i.cardId) (m := i.counter)
    (reason := .inFlight) (x := i.balance) h.outstanding h.pendingShow (by rw [hparams, hmark])
  refine ⟨_, h.run, ?_⟩
  rw [hclone]
  refine ⟨hrefused, ?_, by rw [hsightings, hstanding], fun hfree => ?_⟩
  · have haction : (judging p .pass s).foundAction = .refuse := by
      rw [State.foundAction, hparams, hmark]
      rfl
    rw [hfound, denied_addFound, hclear'.denied]
    show (if (judging p .pass s).standing.deny.length < 4096 then _ else _) = _
    rw [hstanding, if_pos hroom, haction]
  · rw [hrecords (by rw [hjournal]; exact hfree), (judging_books p .pass s).record, hjournal]

/-- Step 7: the clone check fails. -/
theorem cloned {y : Sighting} (h : VerdictTaken p i c .pass rest s) (hj : judge p i .pass (judging p .pass s) = verdictSighting p i (judgingFree p i s))
    (hy : s.stands i.cardId y) (hconflict : i.counter < y.counter ∨ (i.counter = y.counter ∧ i.balance ≠ y.balance))
    (hmark : s.params.markOnClone = false) :
    ∃ t, exec c s = .next t ∧ s.refusedTo t p .clone none ∧ t.standing.sightings = s.standing.sightings := by
  obtain ⟨hstanding, -, -, -, hparams, -⟩ := judgingFree_facts p i s
  obtain ⟨reason, hreason⟩ := cloneCheck_conflict hconflict
  obtain ⟨hrefused, -, hsightings, -⟩ := (judgingFree_books p i s).toOnTheWay.refuseClone (n := i.cardId) (m := i.counter)
    (reason := reason) (x := i.balance) h.outstanding h.pendingShow (by rw [hparams, hmark])
  refine ⟨_, h.run, ?_⟩
  rw [hj, verdictSighting_stands (judgingFree_stands hy)]
  simp only [hreason]
  exact ⟨hrefused, by rw [hsightings, hstanding]⟩

/-- Step 9: the passback window. -/
theorem passback {y : Sighting} (h : VerdictTaken p i c .pass rest s) (hj : judge p i .pass (judging p .pass s) = verdictSighting p i (judgingFree p i s))
    (hy : s.stands i.cardId y) (hkind : y.kind = admittedKind (portDirection p)) (hcounter : i.counter = y.counter)
    (hbalance : i.balance = y.balance) (hage : s.age y.time ≤ s.params.passbackWindow) :
    ∃ t, exec c s = .next t ∧ s.refusedTo t p (passbackCode p) none ∧ t.dialog.proofQueue = rest := by
  obtain ⟨-, -, -, -, hparams, hmgmt, -⟩ := judgingFree_facts p i s
  have hagrees : cloneCheck i y = none := cloneCheck_agrees (by omega) (by simp [hbalance])
  have hregrants : regrants p i y (judgingFree p i s) = false := by
    simp [regrants, hkind, lapsedKind_ne_admittedKind]
  have hpassback : Machine.passback p i y (judgingFree p i s) = true := by
    have hage' : (judgingFree p i s).age y.time = s.age y.time := by rw [State.age, State.clock, hmgmt]; rfl
    simp [Machine.passback, hkind, hcounter, hage', hparams, hage]
  refine h.refused ?_ (judgingFree_books p i s)
  rw [hj, verdictSighting_stands (judgingFree_stands hy)]
  simp only [hagrees, hregrants, hpassback]
  rfl

/-- Step 10: the lane test and the slots. -/
theorem proceeds_refused {code : RefusalCode} (h : VerdictTaken p i c .pass rest s)
    (hj : judge p i .pass (judging p .pass s) = verdictProceed p (judgingFree p i s)) (hlane : s.laneRefusal p = some code) :
    ∃ t, exec c s = .next t ∧ s.refusedTo t p code none ∧ t.dialog.proofQueue = rest := by
  have hsame : (judgingFree p i s).lane = s.lane := (judgingFree_facts p i s).2.2.1
  exact h.refused (hj.trans (verdictProceed_refused ((State.laneRefusal_congr hsame).trans hlane))) (judgingFree_books p i s)

theorem proceeds_full (h : VerdictTaken p i c .pass rest s)
    (hj : judge p i .pass (judging p .pass s) = verdictProceed p (judgingFree p i s)) (hlane : s.laneRefusal p = none)
    (hfull : s.journal.free ≤ 16) :
    ∃ t, exec c s = .next t ∧ s.refusedTo t p .journalFull none ∧ t.dialog.proofQueue = rest := by
  obtain ⟨-, -, hsame, hjournal, -⟩ := judgingFree_facts p i s
  exact h.refused (hj.trans (verdictProceed_full ((State.laneRefusal_congr hsame).trans hlane) (by rwa [hjournal])))
    (judgingFree_books p i s).takeCreditRes

theorem proceeds_reserved (h : VerdictTaken p i c .pass rest s)
    (hj : judge p i .pass (judging p .pass s) = verdictProceed p (judgingFree p i s)) (hlane : s.laneRefusal p = none)
    (hfree : 16 < s.journal.free) : exec c s = .next (follow (readyToReckon p (reservedBoth p (judgingFree p i s)))) := by
  obtain ⟨-, -, hsame, hjournal, -⟩ := judgingFree_facts p i s
  rw [h.run, hj, verdictProceed_reserved ((State.laneRefusal_congr hsame).trans hlane) (by rwa [hjournal])]

end VerdictTaken

/-- R12: which modes the lane test of a port lets pass. -/
theorem laneTest_closed {m : Mode} (h : m = .closed ∨ m = .freeExit ∨ m = .fault) : laneTest p m = some .laneClosed := by
  obtain rfl | rfl | rfl := h <;> rfl

theorem laneTest_direction {m : Mode} (h : (m = .entryOnly ∧ p = .b) ∨ (m = .exitOnly ∧ p = .a)) : laneTest p m = some .laneDirection := by
  obtain ⟨rfl, rfl⟩ | ⟨rfl, rfl⟩ := h <;> rfl

theorem laneTest_open {m : Mode} (h : m = .normal ∨ (m = .entryOnly ∧ p = .a) ∨ (m = .exitOnly ∧ p = .b)) : laneTest p m = none := by
  obtain rfl | ⟨rfl, rfl⟩ | ⟨rfl, rfl⟩ := h <;> rfl

/-- R12, R41: what a PROCEED verdict has reserved. -/
theorem reservedBoth_judgingFree (p : Port) (i : Image) (s : State) :
    (reservedBoth p (judgingFree p i s)).lane = { s.lane with
        reserved := s.lane.reserved.put (portDirection p) (s.lane.reserved.get (portDirection p) + 1) }
      ∧ (reservedBoth p (judgingFree p i s)).journal = { s.journal with reserved := s.journal.reserved + 1 }
      ∧ (reservedBoth p (judgingFree p i s)).standing =
        { s.standing with inFlight := s.standing.inFlight.put p (some i.cardId) }
      ∧ (reservedBoth p (judgingFree p i s)).tariff = s.tariff ∧ (reservedBoth p (judgingFree p i s)).clock = s.clock := by
  obtain ⟨hlane, hjournal, hstanding, htariff, -, hclock, -⟩ := reservedBoth_facts p (judgingFree p i s)
  obtain ⟨hstanding', htariff', hlane', hjournal', -, hmgmt', -⟩ := judgingFree_facts p i s
  rw [hlane, hjournal, hstanding, htariff, hclock, hlane', hjournal', hstanding', htariff', State.clock, hmgmt']
  exact ⟨rfl, rfl, rfl, rfl, rfl⟩

/-- Settles O41. -/
theorem verdictTestsInTheirOrder : Obligations.VerdictTestsInTheirOrder := by
  intro p r rest n card i c x s hreset hq ht hp hr hstate hi hcard hcardId hres hcredit hflight ho hshow hc
  subst hcardId
  refine ⟨fun hx hone => ?again, fun hknown => ?_⟩
  case again =>
    subst hx
    exact exec_checkAgain hreset hq ht hr hc hone
  have hrun := exec_verdict hreset hq ht hp hr hstate hi hc hknown
  have h : VerdictTaken p i c (x.getD .unavailable) rest s := ⟨hrun, by rw [hq, List.tail_cons], ho, hshow⟩
  have hbooks := judging_books p (x.getD .unavailable) s
  have hclear (hs : s.tariff.active.isSome = true ∧ s.denied i.cardId = none ∧ i.status = .active) := ClearCard.mk hs.1 hs.2.1 hs.2.2
  refine ⟨fun hnone => ?noTariff, fun e ha hd => ⟨fun he => ?denied, fun he => ?marked⟩, fun ha hd hs => ?blocked, fun hs hx => ?failed,
    fun hs hx => ?unavailable, fun hs hx hother hmark hroom => ?inFlight,
    fun y ⟨⟨hs, hx, hother⟩, hrec⟩ hy => ⟨fun hconflict hmark => ?cloned, fun hkind hcounter hbalance hage => ?passback⟩,
    fun ⟨⟨⟨hs, hx, hother⟩, hrec⟩, hsight⟩ => ?proceeds⟩
  case noTariff => exact h.refused (judge_noTariff (by rw [judging_active, hnone])) hbooks
  case denied => exact h.denied ha hd he
  case marked => exact h.marked hcard ha hd he
  case blocked => exact h.refused (judge_blocked (by rwa [judging_active]) (by rw [judging_denied, hd]) hs) hbooks
  case failed =>
    have hclear' := (hclear hs).judging p (x.getD .unavailable)
    refine h.refused ((judge_clear hclear'.active hclear'.denied hclear'.status).trans ?_) hbooks
    obtain rfl | rfl := hx <;> rfl
  case unavailable =>
    have hclear' := (hclear hs).judging p (x.getD .unavailable)
    subst hx
    exact h.refused (judge_clear hclear'.active hclear'.denied hclear'.status) hbooks
  case inFlight =>
    subst hx
    exact h.inFlight (hclear hs) hother hmark hroom
  case cloned =>
    subst hx
    exact h.cloned (judge_judgingFree (hclear hs) hother hrec) hy hconflict hmark
  case passback =>
    subst hx
    have hrefused := h.passback (judge_judgingFree (hclear hs) hother hrec) hy hkind hcounter hbalance hage
    cases p <;> exact hrefused
  case proceeds =>
    subst hx
    have hstanding := (judgingFree_facts p i s).1
    have hj : judge p i .pass (judging p .pass s) = verdictProceed p (judgingFree p i s) :=
      (judge_judgingFree (hclear hs) hother hrec).trans (verdictSighting_absent (by rw [State.sighting, hstanding]; exact hsight))
    refine ⟨fun hout => ?laneClosed, fun hwrong => ?laneDirection, fun hright => ⟨fun hbusy => ?laneBusy, fun hslot =>
      ⟨fun hfull => ?journalFull, fun hfree => ⟨fun hdue => ?waits, fun b k hswitch hb hk hone => ?reckons⟩⟩⟩⟩
    case laneClosed =>
      refine h.proceeds_refused hj (State.laneRefusal_of_test ?_)
      exact laneTest_closed hout
    case laneDirection =>
      refine h.proceeds_refused hj (State.laneRefusal_of_test ?_)
      exact laneTest_direction hwrong
    case laneBusy => exact h.proceeds_refused hj (State.laneRefusal_of_busy (laneTest_open hright) hbusy)
    case journalFull => exact h.proceeds_full hj (State.laneRefusal_of_free (laneTest_open hright) hslot) hfull
    case waits =>
      have hexec := h.proceeds_reserved hj (State.laneRefusal_of_free (laneTest_open hright) hslot) hfree
      obtain ⟨hlane, hjournal, hstanding, htariff, -⟩ := reservedBoth_judgingFree p i s
      have hctx := reservedBoth_ctx p (judgingFree p i s)
      rw [(judgingFree_facts p i s).2.2.2.2.2.2] at hctx
      rw [readyToReckon, if_pos (by rw [htariff, hdue])] at hexec
      refine ⟨_, hexec, ?_⟩
      rw [follow_ctx, State.ctx_onCtx, hctx, (follow_laneRest _).2.1, (follow_frame _).2.2.2.1, (follow_frame _).2.1]
      refine ⟨rfl, rfl, rfl, by rw [hres], rfl, ?_, ?_, ?_⟩
      · exact congrArg Lane.reserved hlane
      · exact congrArg Journal.reserved hjournal
      · exact congrArg Standing.inFlight hstanding
    case reckons =>
      have hexec := h.proceeds_reserved hj (State.laneRefusal_of_free (laneTest_open hright) hslot) hfree
      obtain ⟨hlane, hjournal, hstanding, htariff, hclock⟩ := reservedBoth_judgingFree p i s
      have hctx := reservedBoth_ctx p (judgingFree p i s)
      rw [(judgingFree_facts p i s).2.2.2.2.2.2] at hctx
      rw [readyToReckon, if_neg (by rwa [htariff]), enterReckoning_taken (i := i) (k := k) (by rw [htariff, hb]) (by rw [hctx, hi]) (by rw [hclock, hk]),
        if_pos hone] at hexec
      refine ⟨_, hexec, ?_⟩
      rw [follow_ctx, reckoned_ctx, hctx, (follow_laneRest _).2.1, (follow_frame _).2.2.2.1, (follow_frame _).2.1]
      refine ⟨rfl, rfl, rfl, by rw [hres], rfl, ?_, ?_, ?_⟩
      · exact congrArg Lane.reserved hlane
      · exact congrArg Journal.reserved hjournal
      · exact congrArg Standing.inFlight hstanding

end Sys2Proof.Machine

/-! PROOFS. The recheck before COMMIT (`CommitIsIssuedAfterTheRecheck`), and the verdicts that let a card in without writing it
(`CardIsAdmittedWithoutAWrite`). -/

namespace Sys2Proof.Machine

open Sys2Proof

variable {s t u w : State} {p : Port} {i : Image} {k : Intended} {c : Instr}

/-! ### The recheck (R15) -/

theorem OnTheWay.refl (p : Port) (s : State) : OnTheWay p s s := ⟨rfl, rfl, rfl, .inl⟩

theorem recheck_denied {e : DenyEntry} (h : s.denied i.cardId = some e) : recheck p i s = refuseDenied p e s := by
  simp only [recheck, h]

/-- R49: the clone check against the record that the touch has left. -/
theorem recheck_allowed (h : s.denied i.cardId = none) : recheck p i s =
    match ((touch i.cardId s).sighting i.cardId).bind (cloneCheck i) with
    | some reason => refuseClone p i.cardId reason i.counter i.balance (touch i.cardId s)
    | none => issue p .commit ((touch i.cardId s).onCtx p fun c => { c with state := .committing, attempts := 0 }) := by
  simp only [recheck, h] <;> rfl

theorem recheck_passes (h : s.denied i.cardId = none) (hnone : ((touch i.cardId s).sighting i.cardId).bind (cloneCheck i) = none) :
    recheck p i s = issue p .commit ((touch i.cardId s).onCtx p fun c => { c with state := .committing, attempts := 0 }) := by
  rw [recheck_allowed h, hnone]

theorem exec_recheck (hr : s.pins.reset = false) (hstate : (s.ctx p).state = .reckoning) (hi : (s.ctx p).image = some i)
    (hk : (s.ctx p).intended = some k) : exec (.recheckBeforeCommit p) s = .next (follow (recheck p i s)) := by
  have hcond : s.recheckable p = true := by simp [State.recheckable, hstate, hi, hk]
  rw [exec_recheckBeforeCommit]
  refine effect_some rfl hr ?_
  rw [if_pos hcond, hi]
  rfl

/-- R16: the COMMIT of a context in RECKONING. -/
theorem issue_commit {n pre : Nat} (hk : (s.ctx p).intended = some k) (hcard : (s.ctx p).cardId = some n)
    (hpre : (s.ctx p).preCounter = some pre) (ho : (s.port p).outstanding = none) (hshow : (s.port p).pendingShow = none) :
    issue p .commit (s.onCtx p fun c => { c with state := .committing, attempts := 0 }) =
      { s with
        dialog := { s.dialog with
          ctx := s.dialog.ctx.put p { s.ctx p with state := .committing, attempts := 0 }
          port := s.dialog.port.put p ((s.port p).issued .commit s.params none) }
        sent := .verb p (nextTag (s.port p).tag)
          (.commit n pre k.balance k.entry k.lastExit k.dailyDate k.dailySpent) :: s.sent } := by
  have hshown : (s.onCtx p fun c => { c with state := .committing, attempts := 0 }).shown p = s.sent := by
    have : ((s.onCtx p fun c => { c with state := .committing, attempts := 0 }).port p).pendingShow = none := hshow
    rw [State.shown, this]
    rfl
  have hverb : (s.onCtx p fun c => { c with state := .committing, attempts := 0 }).verbFor p .commit =
      .commit n pre k.balance k.entry k.lastExit k.dailyDate k.dailySpent := by
    show Context.commit ((s.onCtx p fun c => { c with state := .committing, attempts := 0 }).ctx p) = _
    rw [State.ctx_onCtx]
    simp [Context.commit, hk, hcard, hpre]
  rw [issue_eq _ _ _ (by exact ho), hshown, hverb]
  rfl

theorem touch_of_old {n : Nat} {y : Sighting} (hy : s.sighting n = some y) (hold : s.tooOld y.time) :
    touch n s = { s with standing := { s.standing with sightings := dropBy Sighting.cardId n s.standing.sightings } } := by
  have haged : s.agedOut y = true := (State.agedOut_iff y).mpr hold
  simp only [touch, hy, haged, if_true]
  rfl

/-- Settles O43. -/
theorem commitIsIssuedAfterTheRecheck : Obligations.CommitIsIssuedAfterTheRecheck := by
  refine ⟨fun p i k n pre s hr hstate hi hk hcard hn hpre ho hshow => ?_, fun p c b s hr h hb => ?mismatch⟩
  case mismatch =>
    refine ⟨_, exec_endsAnswered hr h fun o _ => ?_, refuse_endVerb p .cardChanged none s⟩
    rw [onEnd, commitEnds, hb]
    rfl
  subst hn
  have hexec := exec_recheck hr hstate hi hk
  refine ⟨fun e hd he => ?denied, fun y hd hy hmark hconflict => ?cloned, fun hd hpasses => ?issued, fun y hd hy hold => ?aged⟩
  case denied =>
    refine ⟨_, hexec, ?_⟩
    rw [recheck_denied hd, refuseDenied, he]
    exact refuse_refusedTo p .denied none s ho hshow
  case cloned =>
    obtain ⟨reason, hreason⟩ := cloneCheck_conflict hconflict
    obtain ⟨hrefused, -, hsightings, -⟩ := (OnTheWay.refl p s).refuseClone (n := i.cardId) (m := i.counter) (reason := reason) (x := i.balance)
      ho hshow hmark
    refine ⟨_, hexec, ?_⟩
    rw [recheck_allowed hd, touch_of_stands hy, hy.1, Option.bind_some, hreason]
    exact ⟨hrefused, hsightings⟩
  case issued =>
    have htouch : touch i.cardId s = s := by
      obtain hnone | ⟨y, hy, -⟩ := hpasses
      · exact touch_of_absent hnone
      · exact touch_of_stands hy
    have hpass : (s.sighting i.cardId).bind (cloneCheck i) = none := by
      obtain hnone | ⟨y, hy, hok⟩ := hpasses
      · rw [hnone]
        rfl
      · rw [hy.1, Option.bind_some]
        exact cloneCheck_agrees (by omega) fun ⟨hsame, hother⟩ => by
          obtain hless | ⟨-, hbalance⟩ := hok
          · omega
          · exact hother hbalance
    rw [hexec, recheck_passes hd (by rwa [htouch]), htouch, issue_commit hk hcard hpre ho hshow]
  case aged =>
    have habsent : (touch i.cardId s).sighting i.cardId = none := by
      rw [touch_of_old hy hold]
      exact (findBy_dropBy _ _ _ _).trans (if_pos rfl)
    refine ⟨dropBy Sighting.cardId i.cardId s.standing.sightings, ?_, fun c => findBy_dropBy _ _ _ _⟩
    rw [hexec, recheck_passes hd (by rw [habsent]; rfl), touch_of_old hy hold]
    exact congrArg (fun z => Host.Outcome.next (follow z)) (issue_commit (s := { s with standing := _ }) hk hcard hpre ho hshow)

/-! ### Admissions (R20, R21) -/

/-- R109: a credit that joins its queue in service. -/
theorem joinCredit_facts {d : Direction} {kind : CreditKind} {n : Nat} (h : s.lane.eff.inService = true) :
    (joinCredit d kind n s).lane.credits = s.lane.credits.put d (s.lane.credits.get d ++ [s.newCredit d kind n])
      ∧ (joinCredit d kind n s).lane.reserved = s.lane.reserved.put d (s.lane.reserved.get d - 1)
      ∧ (joinCredit d kind n s).lane.nextCreditNo = (s.lane.nextCreditNo + 1) % 65536
      ∧ (joinCredit d kind n s).journal = s.journal ∧ (joinCredit d kind n s).standing = s.standing := by
  have hin : (s.onLane (Lane.join d (s.newCredit d kind n))).lane.eff.inService = true := h
  simp only [joinCredit, if_pos hin, openTest_accounts, arbitrate_accounts, openTest_slots, arbitrate_slots, openTest_frame, arbitrate_frame]
  exact ⟨rfl, rfl, rfl, rfl, rfl⟩

/-- R20, R21: the end of an admission, in service and with no verb outstanding. -/
structure AdmittedFrom (p : Port) (kind : CreditKind) (n amount : Nat) (balance : Int) (s t : State) : Prop where
  credits : t.lane.credits.get (portDirection p) = s.lane.credits.get (portDirection p) ++ [s.newCredit (portDirection p) kind n]
  reserved : t.lane.reserved = s.lane.reserved.put (portDirection p) (s.lane.reserved.get (portDirection p) - 1)
  nextCreditNo : t.lane.nextCreditNo = (s.lane.nextCreditNo + 1) % 65536
  journal : t.journal = s.journal
  sightings : t.standing.sightings = s.standing.sightings
  recovery : t.standing.recovery = s.standing.recovery
  sent : t.sent.head? = some (.display p (s.port p).tag ⟨.accepted, some amount, some balance⟩)
  state : (t.ctx p).state = .holding
  creditRes : (t.ctx p).creditRes = false
  inFlight : (t.ctx p).inFlight = false
  withdrawn : (s.ctx p).inFlight = true → t.standing.inFlight.get p = none
  grows : Grows s t

theorem withdraw_standing (p : Port) (s : State) :
    (withdraw p s).standing.sightings = s.standing.sightings ∧ (withdraw p s).standing.recovery = s.standing.recovery
      ∧ (withdraw p s).standing.deny = s.standing.deny
      ∧ ((s.ctx p).inFlight = true → (withdraw p s).standing.inFlight.get p = none) := by
  unfold withdraw
  split
  next => exact ⟨rfl, rfl, rfl, fun _ => ByPort.get_put_same ..⟩
  next hno => exact ⟨rfl, rfl, rfl, fun h => absurd h hno⟩

theorem admitted_admittedFrom {kind : CreditKind} {n amount : Nat} {balance : Int} (hin : s.lane.eff.inService = true)
    (ho : (s.port p).outstanding = none) (hshow : (s.port p).pendingShow = none) :
    AdmittedFrom p kind n amount balance s (admitted p amount balance (spendCreditRes p kind n s)) := by
  obtain ⟨hcredits, hreserved, hnext, hjournal, hstanding⟩ :=
    joinCredit_facts (d := portDirection p) (kind := kind) (n := n) (s := s.onCtx p fun c => { c with creditRes := false }) hin
  have hctx : (spendCreditRes p kind n s).ctx p = { s.ctx p with creditRes := false } := by
    rw [(spendCreditRes_ctx ..).1, State.ctx_onCtx]
  have hport : (spendCreditRes p kind n s).port p = s.port p := (spendCreditRes_ctx ..).2
  have hshown := showNow_eq p ⟨.accepted, some amount, some balance⟩ (spendCreditRes p kind n s) (by rw [hport, ho]) (by rw [hport, hshow])
  obtain ⟨hsightings, hrecovery, -, hwithdrawn⟩ := withdraw_standing p (showNow p ⟨.accepted, some amount, some balance⟩ (spendCreditRes p kind n s))
  have hheld (x : State) : ((toHolding p x).ctx p).state = .holding ∧ ((toHolding p x).ctx p).creditRes = (x.ctx p).creditRes
      ∧ ((toHolding p x).ctx p).inFlight = (x.ctx p).inFlight := by
    rw [toHolding_ctx]
    split <;> exact ⟨rfl, rfl, rfl⟩
  have hlane : (admitted p amount balance (spendCreditRes p kind n s)).lane = (spendCreditRes p kind n s).lane := by simp [admitted]
  have hstanding' : (admitted p amount balance (spendCreditRes p kind n s)).standing =
      (withdraw p (showNow p ⟨.accepted, some amount, some balance⟩ (spendCreditRes p kind n s))).standing := by simp [admitted]
  refine ⟨?_, ?_, ?_, ?_, ?_, ?_, ?_, (hheld _).1, ?_, ?_, fun h => ?_, ?_⟩
  · rw [hlane]
    exact (congrArg (fun z => z.get (portDirection p)) hcredits).trans (ByDir.get_put_same ..)
  · rw [hlane]
    exact hreserved
  · rw [hlane]
    exact hnext
  · have : (admitted p amount balance (spendCreditRes p kind n s)).journal = (spendCreditRes p kind n s).journal := by simp [admitted]
    rw [this]
    exact hjournal
  · rw [hstanding', hsightings, (showNow_frame ..).1]
    exact congrArg Standing.sightings hstanding
  · rw [hstanding', hrecovery, (showNow_frame ..).1]
    exact congrArg Standing.recovery hstanding
  · have : (admitted p amount balance (spendCreditRes p kind n s)).sent =
        (showNow p ⟨.accepted, some amount, some balance⟩ (spendCreditRes p kind n s)).sent := by simp [admitted]
    rw [this, hshown, hport]
    rfl
  · rw [admitted, (hheld _).2.1, withdraw_ctx, showNow_ctx, hctx]
  · rw [admitted, (hheld _).2.2, withdraw_ctx]
  · rw [hstanding']
    exact hwithdrawn (by rw [showNow_ctx, hctx]; exact h)
  · exact toHolding_grows <| withdraw_grows <| showNow_grows <| joinCredit_grows <| onCtx_grows <| .refl s

/-! ### Admission without a write -/

/-- State `u` is about to let in the card of state `s` with record `c` and sighting `y`: its slots are reserved and its card is in flight. -/
structure ReadyToAdmit (p : Port) (c : Content) (y : Sighting) (s u : State) : Prop where
  lane : u.lane = { s.lane with reserved := s.lane.reserved.put (portDirection p) (s.lane.reserved.get (portDirection p) + 1) }
  port : u.port p = s.port p
  clock : u.clock = s.clock
  params : u.params = s.params
  records : u.journal.records = s.journal.records ++ [s.recordOf c]
  sighting : u.sighting y.cardId = some y
  inFlight : (u.ctx p).inFlight = true

theorem ReadyToAdmit.admits {kind : CreditKind} {n amount : Nat} {balance : Int} {x : Content} {y : Sighting} (h : ReadyToAdmit p x y s u)
    (hnormal : s.lane.eff = .normal) (ho : (s.port p).outstanding = none) (hshow : (s.port p).pendingShow = none)
    (ht : t = admitted p amount balance (spendCreditRes p kind n u)) :
    (t.lane.credits.get (portDirection p) = s.lane.credits.get (portDirection p) ++
          [⟨s.lane.nextCreditNo, portDirection p, kind, n, s.stamp, s.params.creditLife * 1000, 0⟩]
        ∧ t.lane.reserved = s.lane.reserved
        ∧ t.journal.records = s.journal.records ++ [s.recordOf x]
        ∧ t.sighting y.cardId = some y
        ∧ t.sent.head? = some (.display p (s.port p).tag ⟨.accepted, some amount, some balance⟩)
        ∧ (t.ctx p).state = .holding ∧ (t.ctx p).creditRes = false ∧ t.standing.inFlight.get p = none)
      ∧ t.standing.recovery = u.standing.recovery ∧ t.journal = u.journal := by
  have hin : u.lane.eff.inService = true := by
    rw [h.lane]
    show s.lane.eff.inService = true
    rw [hnormal]
    rfl
  have hadmitted := admitted_admittedFrom (kind := kind) (n := n) (amount := amount) (balance := balance) (p := p) hin (by rw [h.port, ho])
    (by rw [h.port, hshow])
  rw [← ht] at hadmitted
  refine ⟨⟨?_, ?_, ?_, ?_, ?_, hadmitted.state, hadmitted.creditRes, hadmitted.withdrawn h.inFlight⟩, hadmitted.recovery, hadmitted.journal⟩
  · rw [hadmitted.credits, State.newCredit, State.stamp, h.clock, h.params, h.lane]
    rfl
  · rw [hadmitted.reserved, h.lane]
    simp
  · rw [hadmitted.journal, h.records]
  · rw [State.sighting, hadmitted.sightings]
    exact h.sighting
  · rw [hadmitted.sent, h.port]

/-- R44, R34: what the resolution of an entry as recovered leaves. -/
theorem resolveRecovered_facts (e : RecoveryEntry) (s : State) :
    (resolveRecovered e s).journal.records = s.journal.records ++ [s.recordOf (recoveredContent e)]
      ∧ (resolveRecovered e s).journal.held = s.journal.held - 1
      ∧ (resolveRecovered e s).standing.recovery = s.standing.recovery.erase e
      ∧ (resolveRecovered e s).sighting e.cardId =
        some ⟨e.cardId, e.preCounter + 1, e.intendedBalance, admittedKind e.direction, s.line.address, s.stamp⟩
      ∧ (resolveRecovered e s).clock = s.clock := by
  have hheld : Grows s (appendHeld (recoveredContent e) s) := appendHeld_grows <| .refl s
  have hclock : (appendHeld (recoveredContent e) s).clock = s.clock := hheld.clock
  have hown : (removeRecovery e (appendHeld (recoveredContent e) s)).ownSighting e.cardId (e.preCounter + 1) e.intendedBalance (admittedKind e.direction)
      = ⟨e.cardId, e.preCounter + 1, e.intendedBalance, admittedKind e.direction, s.line.address, s.stamp⟩ := by
    simp only [State.ownSighting, State.stamp]
    rw [show (removeRecovery e (appendHeld (recoveredContent e) s)).clock = s.clock from hclock]
    simp
  simp only [resolveRecovered, hown, writeAndBroadcast]
  refine ⟨?_, ?_, ?_, ?_, ?_⟩
  · simp [appendHeld, (appendRecord_grown (take := fun j => { j with held := j.held - 1 }) (s := s) rfl rfl rfl).1]
  · simp [appendHeld, (appendRecord_used _ _ s).2.1]
  · simp [writeSighting, removeRecovery, State.onStanding]
  · rw [State.sighting, (broadcastSight_frame ..).2.1]
    exact sighting_writeSighting ⟨e.cardId, _, _, _, _, _⟩ _
  · exact (broadcastSight_grows (.refl _)).clock.trans hclock

theorem judge_recovered {e : RecoveryEntry} (h : ClearCard i s) (hflight : s.standing.inFlight.get (otherPort p) ≠ some i.cardId)
    (hrec : s.recoveryOf i.cardId = some e) (hcounter : i.counter = e.preCounter + 1) (hbalance : i.balance = e.intendedBalance)
    (hdir : portDirection p = e.direction) (hlane : s.laneRefusal p = none) : judge p i .pass s =
      admitted p e.fare i.balance (spendCreditRes p .recovered i.cardId
        (resolveRecovered e (takeCreditRes p (joinInFlight p i.cardId s)))) := by
  rw [judge_clear h.active h.denied h.status, verdictInFlight_alone hflight, verdictRecovery]
  simp only [show (joinInFlight p i.cardId s).recoveryOf i.cardId = some e from hrec]
  rw [if_pos ⟨hcounter, hbalance⟩, if_pos hdir, verdictRecovered]
  simp only [(State.laneRefusal_congr (t := joinInFlight p i.cardId s) (s := s) rfl).trans hlane]
  rfl

/-- R21: the REGRANT record stands in the slot reserved for it. -/
def regrantRecorded (p : Port) (i : Image) (s : State) : State :=
  appendReserved (regrantContent p i) ((reservedBoth p (joinInFlight p i.cardId s)).onCtx p fun c => { c with journalRes := c.journalRes - 1 })

/-- R46, R21: the state in which a regrant is concluded. -/
def regranting (p : Port) (i : Image) (y : Sighting) (s : State) : State :=
  writeAndBroadcast ((regrantRecorded p i s).ownSighting y.cardId y.counter y.balance (admittedKind (portDirection p))) (regrantRecorded p i s)

theorem judge_regrant {y : Sighting} (h : ClearCard i s) (hflight : s.standing.inFlight.get (otherPort p) ≠ some i.cardId)
    (hrec : s.recoveryOf i.cardId = none) (hy : s.stands i.cardId y) (hkind : y.kind = lapsedKind (portDirection p))
    (hcounter : i.counter = y.counter) (hbalance : i.balance = y.balance) (hage : s.age y.time ≤ s.params.grace)
    (hlane : s.laneRefusal p = none) (hfree : 16 < s.journal.free) :
    judge p i .pass s = admitted p 0 i.balance (spendCreditRes p .regrant i.cardId (regranting p i y s)) := by
  have hagrees : cloneCheck i y = none := cloneCheck_agrees (by omega) (by simp [hbalance])
  have hregrants : regrants p i y (joinInFlight p i.cardId s) = true := by
    have hage' : (joinInFlight p i.cardId s).age y.time = s.age y.time := rfl
    simp [regrants, hkind, hcounter, hbalance, hage', hage]
  have hslot : (takeCreditRes p (joinInFlight p i.cardId s)).journalSlotFree = true := decide_eq_true hfree
  rw [judge_free h hflight hrec, verdictSighting_stands (s := joinInFlight p i.cardId s) hy]
  simp only [hagrees, hregrants, if_true, verdictRegrant,
    (State.laneRefusal_congr (t := joinInFlight p i.cardId s) (s := s) rfl).trans hlane, hslot]
  rfl

theorem joinInFlight_ctx (p : Port) (n : Nat) (s : State) : (joinInFlight p n s).ctx p = { s.ctx p with inFlight := true } :=
  State.ctx_onCtx ..

theorem recovered_ready {e : RecoveryEntry} (p : Port) (n : Nat) (s : State) :
    ReadyToAdmit p (recoveredContent e)
      ⟨e.cardId, e.preCounter + 1, e.intendedBalance, admittedKind e.direction, s.line.address, s.stamp⟩ s
      (resolveRecovered e (takeCreditRes p (joinInFlight p n s))) := by
  obtain ⟨hrecords, -, -, hsighting, hclock⟩ := resolveRecovered_facts e (takeCreditRes p (joinInFlight p n s))
  have hdialog : (resolveRecovered e (takeCreditRes p (joinInFlight p n s))).dialog = (takeCreditRes p (joinInFlight p n s)).dialog := by
    simp [resolveRecovered]
  refine ⟨?_, ?_, hclock, ?_, hrecords, hsighting, ?_⟩
  · simp [resolveRecovered]
    rfl
  · rw [State.port, hdialog]
    rfl
  · simp [resolveRecovered, takeCreditRes, reserveCredit, joinInFlight]
  · rw [State.ctx, hdialog]
    show ((takeCreditRes p (joinInFlight p n s)).ctx p).inFlight = true
    rw [takeCreditRes_ctx, joinInFlight_ctx]

theorem regrant_ready (p : Port) (i : Image) (y : Sighting) (s : State) :
    ReadyToAdmit p (regrantContent p i) ⟨y.cardId, y.counter, y.balance, admittedKind (portDirection p), s.line.address, s.stamp⟩ s
        (regranting p i y s)
      ∧ (regranting p i y s).standing.recovery = s.standing.recovery := by
  obtain ⟨hlane, hjournal, hstanding, -, hparams, hclock, haddress, hconnected, hport⟩ := reservedBoth_facts p (joinInFlight p i.cardId s)
  have hgrows : Grows (reservedBoth p (joinInFlight p i.cardId s)) (regrantRecorded p i s) := appendReserved_grows <| onCtx_grows <| .refl _
  have hclock' : (regrantRecorded p i s).clock = s.clock := hgrows.clock.trans hclock
  obtain ⟨hdialog, hstanding', -, -, hlane', hparams', -⟩ := appendReserved_frame (regrantContent p i)
    ((reservedBoth p (joinInFlight p i.cardId s)).onCtx p fun c => { c with journalRes := c.journalRes - 1 })
  have hown : (regrantRecorded p i s).ownSighting y.cardId y.counter y.balance (admittedKind (portDirection p))
      = ⟨y.cardId, y.counter, y.balance, admittedKind (portDirection p), s.line.address, s.stamp⟩ := by
    rw [State.ownSighting, State.stamp, hclock', regrantRecorded, (appendReserved_line ..).1]
    exact congrArg (fun a => Sighting.mk _ _ _ _ a _) haddress
  have hregranting : regranting p i y s = writeAndBroadcast
      ⟨y.cardId, y.counter, y.balance, admittedKind (portDirection p), s.line.address, s.stamp⟩ (regrantRecorded p i s) := by
    rw [← hown]
    rfl
  have hrecord (c : Content) : (reservedBoth p (joinInFlight p i.cardId s)).recordOf c = s.recordOf c :=
    State.recordOf_congr (by rw [hjournal]) hclock hconnected c
  rw [hregranting]
  refine ⟨⟨?_, ?_, ?_, ?_, ?_, ?_, ?_⟩, ?_⟩
  · rw [(writeAndBroadcast_frame ..).2.2.2.1]
    exact hlane'.trans hlane
  · rw [State.port, (writeAndBroadcast_frame ..).1]
    exact (congrArg (fun d => d.port.get p) hdialog).trans (hport p)
  · exact (broadcastSight_grows (.refl _)).clock.trans hclock'
  · rw [(writeAndBroadcast_frame ..).2.2.2.2.2.1]
    exact hparams'.trans hparams
  · rw [(writeAndBroadcast_frame ..).2.2.2.2.1]
    refine ((appendRecord_grown (take := fun j => { j with reserved := j.reserved - 1 }) rfl rfl rfl).1).trans ?_
    show (reservedBoth p (joinInFlight p i.cardId s)).journal.records ++ [(reservedBoth p (joinInFlight p i.cardId s)).recordOf _] = _
    rw [hrecord, hjournal]
    rfl
  · rw [writeAndBroadcast, State.sighting, (broadcastSight_frame ..).2.1]
    exact sighting_writeSighting ⟨y.cardId, _, _, _, _, _⟩ _
  · rw [State.ctx, (writeAndBroadcast_frame ..).1, regrantRecorded, hdialog]
    show (((reservedBoth p (joinInFlight p i.cardId s)).onCtx p fun c => { c with journalRes := c.journalRes - 1 }).ctx p).inFlight = true
    rw [State.ctx_onCtx, reservedBoth_ctx, joinInFlight_ctx]
  · rw [writeAndBroadcast, (broadcastSight_frame ..).2.1]
    show (regrantRecorded p i s).standing.recovery = s.standing.recovery
    rw [regrantRecorded, hstanding']
    show (reservedBoth p (joinInFlight p i.cardId s)).standing.recovery = s.standing.recovery
    rw [hstanding]
    rfl

/-- Settles O42. -/
theorem cardIsAdmittedWithoutAWrite : Obligations.CardIsAdmittedWithoutAWrite := by
  intro p i s hi ha hd hs hflight ho hshow hnormal hslot hfree
  have hclear : ClearCard i s := ⟨ha, hd, hs⟩
  have hlane : s.laneRefusal p = none := State.laneRefusal_of_free (laneTest_open (.inl hnormal)) hslot
  refine ⟨fun e hrec hdir hcounter hbalance => ?recovered, fun y hrec hy hkind hcounter hbalance hage => ?regrant⟩
  case recovered =>
    have hcard : e.cardId = i.cardId := by simpa using List.find?_some hrec
    have hjudge := judge_recovered hclear hflight hrec hcounter hbalance hdir.symm hlane
    obtain ⟨hadmitted, hrecovery, hjournal⟩ := (recovered_ready (e := e) p i.cardId s).admits hnormal ho hshow hjudge
    obtain ⟨-, hheld, herased, -⟩ := resolveRecovered_facts e (takeCreditRes p (joinInFlight p i.cardId s))
    rw [hdir, recoveredContent, hcard, hdir, ← hcounter, ← hbalance] at hadmitted
    exact ⟨hadmitted, hrecovery.trans herased, (congrArg Journal.held hjournal).trans hheld⟩
  case regrant =>
    have hcard : y.cardId = i.cardId := State.sighting_cardId hy.1
    have hjudge := judge_regrant hclear hflight hrec hy hkind hcounter hbalance hage hlane hfree
    obtain ⟨hready, hkept⟩ := regrant_ready p i y s
    obtain ⟨hadmitted, hrecovery, -⟩ := hready.admits hnormal ho hshow hjudge
    rw [hcard, ← hcounter, ← hbalance] at hadmitted
    exact ⟨hadmitted, hrecovery.trans hkept⟩

end Sys2Proof.Machine

/-! PROOFS. How a write ends (sections 1.7 and 1.8): confirmed with its records, sighting and credit, issued again, or torn
(`WriteIsConfirmedOrTorn`). -/

namespace Sys2Proof.Machine

open Sys2Proof

variable {s t u v w : State} {p : Port} {q : LinePort} {i : Image} {k : Intended} {c : Instr} {n pre : Nat} {r : Sighting}

/-! ### The local places that a step takes before its SIGHT (R177) -/

/-- From state `s` to state `t` at most `m` local places have been taken, none of them by a held entry. -/
structure Takes (m : Nat) (s t : State) : Prop where
  grows : Grows s t
  places : s.line.held = [] → s.line.count .own + m ≤ 4 → t.line.held = [] ∧ t.line.count .own ≤ s.line.count .own + m
  link : t.line.link = s.line.link
  address : t.line.address = s.line.address
  params : t.params = s.params

theorem Takes.refl (s : State) : Takes 0 s s := ⟨.refl s, fun h _ => ⟨h, le_rfl⟩, rfl, rfl, rfl⟩

theorem Takes.trans {m j : Nat} (h : Takes m s t) (h' : Takes j t u) : Takes (m + j) s u := by
  refine ⟨h.grows.trans h'.grows, fun hheld hroom => ?_, h'.link.trans h.link, h'.address.trans h.address, h'.params.trans h.params⟩
  obtain ⟨hheld', hcount⟩ := h.places hheld (by omega)
  obtain ⟨hheld'', hcount'⟩ := h'.places hheld' (by omega)
  exact ⟨hheld'', by omega⟩

/-- What leaves the line and the parameters alone. -/
theorem Takes.quiet (h : Grows s t) (hl : t.line = s.line) (hp : t.params = s.params) : Takes 0 s t :=
  ⟨h, fun hheld _ => ⟨by rw [hl, hheld], by rw [hl]; exact le_rfl⟩, by rw [hl], by rw [hl], hp⟩

theorem sendCopy_takes (q : LinePort) (f : Frame) (s : State) : Takes 1 s (sendCopy q f s) := by
  refine ⟨sendCopy_grows <| .refl s, fun hheld hroom => ?_, by simp, by simp, by simp⟩
  cases hup : s.line.link.get q with
  | true =>
    rw [sendCopy_of_room hup hheld (by omega)]
    exact ⟨hheld, (LineIf.count_queued ..).le⟩
  | false =>
    rw [sendCopy_of_down hup]
    exact ⟨hheld, Nat.le_succ _⟩

theorem event_takes (e : Event) (s : State) : Takes 1 s (event e s) := by
  unfold event
  split
  · have hnumbered : Takes 0 s (s.onMgmt fun m => { m with eventNo := (m.eventNo + 1) % 65536 }) :=
      ⟨(Grows.refl s).trans ⟨List.prefix_rfl, fun _ => List.prefix_rfl, fun _ => rfl, id, rfl⟩, fun h _ => ⟨h, le_rfl⟩, rfl, rfl, rfl⟩
    exact hnumbered.trans (sendCopy_takes _ _ _)
  · exact ⟨.refl s, fun h _ => ⟨h, Nat.le_succ _⟩, rfl, rfl, rfl⟩

/-- R150, R155: a record that fills a reserved slot is reported only as it reaches the high-water mark. -/
theorem appendReserved_takes (x : Content) (hreserved : 1 ≤ s.journal.reserved) :
    Takes (if s.journal.records.length + 1 = s.params.highWater then 1 else 0) s (appendReserved x s) := by
  have happended : Takes 0 s (s.onJournal fun j =>
      ({ j with reserved := j.reserved - 1 } : Journal).append x s.stamp (!s.line.connected) (s.clock.state != .good)) :=
    Takes.quiet ((Grows.refl s).trans ⟨by simp [Journal.append, State.onJournal], fun _ => List.prefix_rfl, fun _ => rfl, id, rfl⟩) rfl rfl
  have hlen : (s.onJournal fun j => ({ j with reserved := j.reserved - 1 } : Journal).append x s.stamp (!s.line.connected)
      (s.clock.state != .good)).journal.records.length = s.journal.records.length + 1 := by simp [State.onJournal, Journal.append]
  have hfree (v : State) (hv : v.journal = (s.onJournal fun j => ({ j with reserved := j.reserved - 1 } : Journal).append x s.stamp
      (!s.line.connected) (s.clock.state != .good)).journal) : fullEvent s.journal.free v = v := by
    refine if_neg fun ⟨hbefore, hafter⟩ => ?_
    rw [hv] at hafter
    simp only [State.onJournal, Journal.append, Journal.free, List.length_append, List.length_singleton] at hafter hbefore
    omega
  simp only [appendReserved, appendRecord, hlen]
  split
  · rw [hfree _ (event_frame ..).2.2.2.2.2.1]
    exact happended.trans (event_takes _ _)
  · rw [hfree _ rfl]
    exact happended

/-- R20: the records of a confirmed write reach the high-water mark at most once. -/
theorem appendWritten_takes (j : Nat) (b : Int) (cs : List Content) (s : State) (hreserved : cs.length ≤ s.journal.reserved) :
    Takes (if s.journal.records.length < s.params.highWater ∧ s.params.highWater ≤ s.journal.records.length + cs.length then 1 else 0) s
      (appendWritten j b cs s) := by
  induction cs generalizing s with
  | nil =>
    rw [if_neg (by simp only [List.length_nil]; omega)]
    exact .refl s
  | cons x xs ih =>
    rw [List.length_cons] at hreserved
    obtain ⟨hlen, -, hleft⟩ := appendRecord_used (fun j => { j with reserved := j.reserved - 1 }) (x.written j b) s
    have hfirst := appendReserved_takes (x.written j b) (s := s) (by omega)
    have hrest := ih (appendReserved (x.written j b) s) (by simp only [appendReserved, hleft]; omega)
    have hhigh : (appendReserved (x.written j b) s).params.highWater = s.params.highWater := by simp
    have hlen' : (appendReserved (x.written j b) s).journal.records.length = s.journal.records.length + 1 := hlen
    rw [hhigh, hlen'] at hrest
    have hboth : Takes _ s (appendWritten j b (x :: xs) s) := hfirst.trans hrest
    convert hboth using 1
    rw [List.length_cons]
    split_ifs <;> omega

theorem localQ_sendCopy {f : Frame} (hq : s.line.link.get q = true) (hheld : s.line.held = []) (hroom : s.line.count .own < 4) :
    (sendCopy q f s).line.localQ.get q = s.line.localQ.get q ++ [⟨f, .own, false⟩] := by
  rw [sendCopy_of_room hq hheld hroom]
  simp [LineIf.queued, LineIf.setHold]

/-- A frame that has joined a local queue stays in it with what came before and what comes after. -/
theorem queued_between {x : Buffered} (h : Grows s u) (hq : v.line.localQ.get q = u.line.localQ.get q ++ [x]) (h' : Grows v t) :
    ∃ earlier later, t.line.localQ.get q = s.line.localQ.get q ++ earlier ++ x :: later := by
  obtain ⟨earlier, he⟩ := h.localQ q
  obtain ⟨later, hl⟩ := h'.localQ q
  refine ⟨earlier, later, ?_⟩
  rw [← hl, hq, ← he]
  simp

/-- R34: the SIGHT of a sighting, as this part makes it. -/
def State.sightFrame (s : State) (r : Sighting) : Frame := ⟨18, 63, byte s.line.address, s.params.sightHops, sightPayload r⟩

/-- R34, R177: a SIGHT that at most one event precedes finds a place for each copy; none finds one while all four are taken. -/
theorem sightSent_of_broadcast {m : Nat} (hm : m ≤ 1) (hpre : Takes m s u) (hpost : Grows (broadcastSight r u) t) : s.sightSent t r := by
  refine ⟨fun hheld hcount q hq => ?_, fun hfull => ?_⟩
  · obtain ⟨hheld', hcount'⟩ := hpre.places hheld (by omega)
    have hup := sendCopy_takes .up (s.sightFrame r) u
    obtain ⟨hheld'', hcount''⟩ := hup.places hheld' (by omega)
    have hframe : broadcastSight r u = sendCopy .down (s.sightFrame r) (sendCopy .up (s.sightFrame r) u) := by
      rw [State.sightFrame, ← hpre.address, ← hpre.params]
      rfl
    rw [hframe] at hpost
    rw [← hpre.link] at hq
    cases q with
    | up =>
      exact queued_between hpre.grows (localQ_sendCopy hq hheld' (by omega)) ((sendCopy_grows <| .refl _).trans hpost)
    | down =>
      rw [← hup.link] at hq
      exact queued_between (hpre.grows.trans hup.grows) (localQ_sendCopy hq hheld'' (by omega)) hpost
  · have hline : u.line = s.line := hpre.grows.full hfull
    have hbroadcast := broadcast_of_full (kind := 18) (payload := sightPayload r) (s := u) (by rwa [hline])
    have hbroadcast' : broadcastSight r u = if u.line.link.up = true ∨ u.line.link.down = true then u.dropping else u := hbroadcast
    have hkept : (broadcastSight r u).line = u.line := by
      rw [hbroadcast']
      split <;> rfl
    have hlast : t.line = s.line := (hpost.full (by rw [hkept, hline]; exact hfull)).trans (hkept.trans hline)
    refine ⟨by rw [hlast], fun hup => hpost.dropped ?_⟩
    rw [hbroadcast', if_pos (by rwa [hline])]
    rfl

/-! ### Confirmed (R20) -/

theorem appendWritten_grows (j : Nat) (b : Int) (cs : List Content) (h : Grows s t) : Grows s (appendWritten j b cs t) := by
  induction cs generalizing t with
  | nil => exact h
  | cons x xs ih => exact ih (appendReserved_grows h)

theorem appendWritten_contents (j : Nat) (b : Int) (cs : List Content) (s : State) :
    (appendWritten j b cs s).journal.records.map Record.content = s.journal.records.map Record.content ++ cs.map (Content.written j b) := by
  induction cs generalizing s with
  | nil => exact (List.append_nil _).symm
  | cons x xs ih =>
    have hone : (appendReserved (x.written j b) s).journal.records = s.journal.records ++ [s.recordOf (x.written j b)] :=
      (appendRecord_grown (take := fun j => { j with reserved := j.reserved - 1 }) rfl rfl rfl).1
    show (appendWritten j b xs (appendReserved (x.written j b) s)).journal.records.map Record.content = _
    rw [ih, hone, List.map_append, List.append_assoc]
    rfl

/-- R20: the records of a confirmed write stand in the slots reserved for them. -/
def writtenBy (p : Port) (k : Intended) (pre : Nat) (s : State) : State :=
  appendWritten (pre + 1) k.balance k.contents (s.onCtx p fun c => { c with journalRes := c.journalRes - k.contents.length })

theorem writtenBy_facts (p : Port) (k : Intended) (pre : Nat) (s : State) :
    (writtenBy p k pre s).lane = s.lane ∧ (writtenBy p k pre s).standing = s.standing ∧ (writtenBy p k pre s).params = s.params
      ∧ (writtenBy p k pre s).port p = s.port p ∧ ((writtenBy p k pre s).ctx p).inFlight = (s.ctx p).inFlight
      ∧ (writtenBy p k pre s).line.address = s.line.address ∧ Grows s (writtenBy p k pre s) := by
  obtain ⟨hdialog, hstanding, -, -, hlane, hparams, -⟩ := appendWritten_frame (pre + 1) k.balance k.contents
    (s.onCtx p fun c => { c with journalRes := c.journalRes - k.contents.length })
  refine ⟨hlane, hstanding, hparams, congrArg (fun d => d.port.get p) hdialog, ?_, (appendWritten_line ..).1,
    appendWritten_grows _ _ _ (onCtx_grows <| .refl s)⟩
  rw [writtenBy, (State.ctx_of_dialog hdialog).1]

theorem concludeWrite_eq (hcard : (s.ctx p).cardId = some n) (hpre : (s.ctx p).preCounter = some pre) (hk : (s.ctx p).intended = some k) :
    concludeWrite p s = admitted p k.amount k.balance (spendCreditRes p k.creditKind n
      (writeAndBroadcast ((writtenBy p k pre s).ownSighting n (pre + 1) k.balance (admittedKind (portDirection p))) (writtenBy p k pre s))) := by
  simp only [concludeWrite, hk, hcard, hpre]
  rfl

theorem follow_grows (h : Grows s t) : Grows s (follow t) :=
  h.keeping (by rw [(follow_frame t).2.2.2.1]) (follow_frame t).2.2.2.2.1 (follow_frame t).2.2.2.2.2.1

theorem endVerb_takes (p : Port) (s : State) : Takes 0 s (endVerb p s) := by
  rw [endVerb_eq]
  exact Takes.quiet ((Grows.refl s).keeping rfl rfl rfl) rfl rfl

theorem writeSighting_takes (r : Sighting) (s : State) : Takes 0 s (writeSighting r s) :=
  Takes.quiet ((Grows.refl s).keeping rfl rfl rfl) rfl rfl

theorem writeAndBroadcast_clock (r : Sighting) (s : State) : (writeAndBroadcast r s).clock = s.clock :=
  (broadcastSight_grows <| (Grows.refl s).keeping (u := writeSighting r s) rfl rfl rfl).clock

/-- R20: a write that has been confirmed at the end of a verb concludes. -/
theorem concludeWrite_concludedTo (hcard : (s.ctx p).cardId = some n) (hpre : (s.ctx p).preCounter = some pre)
    (hk : (s.ctx p).intended = some k) (hin : s.lane.eff.inService = true)
    (hreserved : s.slotsHold → k.contents.length ≤ s.journal.reserved) :
    s.concludedTo (follow (concludeWrite p (endVerb p s))) p n pre k := by
  obtain ⟨hlane, hstanding, hparams, hport, hflight, haddress, hgrows⟩ := writtenBy_facts p k pre (endVerb p s)
  have hverb : (endVerb p s).lane = s.lane ∧ (endVerb p s).journal = s.journal ∧ (endVerb p s).mgmt = s.mgmt ∧ (endVerb p s).params = s.params
      ∧ (endVerb p s).line = s.line ∧ (endVerb p s).port p = (s.port p).ended := by
    rw [endVerb_eq]
    exact ⟨rfl, rfl, rfl, rfl, rfl, by simp [State.port]⟩
  obtain ⟨hvlane, hvjournal, hvmgmt, hvparams, hvline, hvport⟩ := hverb
  have hclock : (writtenBy p k pre (endVerb p s)).clock = s.clock := hgrows.clock.trans (by rw [hvmgmt, State.clock])
  have hown : (writtenBy p k pre (endVerb p s)).ownSighting n (pre + 1) k.balance (admittedKind (portDirection p))
      = ⟨n, pre + 1, k.balance, admittedKind (portDirection p), s.line.address, s.stamp⟩ := by
    rw [State.ownSighting, State.stamp, hclock, haddress, hvline]
    rfl
  rw [concludeWrite_eq (by rw [endVerb_ctx, hcard]) (by rw [endVerb_ctx, hpre]) (by rw [endVerb_ctx, hk]), hown]
  have hadmitted := admitted_admittedFrom (p := p) (kind := k.creditKind) (n := n) (amount := k.amount) (balance := k.balance)
    (s := writeAndBroadcast ⟨n, pre + 1, k.balance, admittedKind (portDirection p), s.line.address, s.stamp⟩
      (writtenBy p k pre (endVerb p s)))
    (by rw [(writeAndBroadcast_frame ..).2.2.2.1, hlane, hvlane, hin])
    (by rw [State.port, (writeAndBroadcast_frame ..).1]; exact (congrArg PortLink.outstanding (hport.trans hvport)))
    (by rw [State.port, (writeAndBroadcast_frame ..).1]; exact (congrArg PortLink.pendingShow (hport.trans hvport)))
  have hstamp (r : Sighting) : (writeAndBroadcast r (writtenBy p k pre (endVerb p s))).stamp = s.stamp := by
    simp only [State.stamp, writeAndBroadcast_clock, hclock]
  refine ⟨?_, ?_, ?_, ?_, ?_, ?_, ?_, ?_, fun hslots => ?_⟩
  · rw [(follow_frame _).2.2.2.1, hadmitted.journal, (writeAndBroadcast_frame ..).2.2.2.2.1, writtenBy, appendWritten_contents]
    show (endVerb p s).journal.records.map Record.content ++ _ = _
    rw [hvjournal]
  · rw [State.sighting, (follow_frame _).2.1, hadmitted.sightings, writeAndBroadcast, (broadcastSight_frame ..).2.1]
    exact sighting_writeSighting ⟨n, _, _, _, _, _⟩ _
  · rw [(follow_laneRest _).1, hadmitted.credits, State.newCredit, hstamp,
      (writeAndBroadcast_frame ..).2.2.2.1, (writeAndBroadcast_frame ..).2.2.2.2.2.1, hlane, hparams, hvlane, hvparams]
    rfl
  · rw [(follow_laneRest _).2.2.1, hadmitted.nextCreditNo, (writeAndBroadcast_frame ..).2.2.2.1, hlane, hvlane]
  · rw [(follow_frame _).2.2.2.2.2.2.2.2.2.2.1, hadmitted.sent, State.port, (writeAndBroadcast_frame ..).1]
    show some (Sent.display p ((writtenBy p k pre (endVerb p s)).port p).tag _) = _
    rw [hport, hvport]
    rfl
  · rw [follow_ctx, hadmitted.state]
  · rw [follow_ctx, hadmitted.creditRes]
  · rw [follow_ctx, hadmitted.inFlight]
  · have hwritten := appendWritten_takes (pre + 1) k.balance k.contents
      ((endVerb p s).onCtx p fun c => { c with journalRes := c.journalRes - k.contents.length })
      (by show k.contents.length ≤ (endVerb p s).journal.reserved; rw [hvjournal]; exact hreserved hslots)
    have hquiet : Takes 0 (endVerb p s) ((endVerb p s).onCtx p fun c => { c with journalRes := c.journalRes - k.contents.length }) :=
      Takes.quiet (onCtx_grows <| .refl _) rfl rfl
    refine sightSent_of_broadcast ?_ ((((endVerb_takes p s).trans hquiet).trans hwritten).trans (writeSighting_takes
      ⟨n, pre + 1, k.balance, admittedKind (portDirection p), s.line.address, s.stamp⟩ _)) (follow_grows hadmitted.grows)
    split <;> omega

/-! ### Torn (R19) -/

/-- R19, R39: a torn write has been recorded and its sighting broadcast. -/
structure TornAt (p : Port) (n pre : Nat) (preBalance : Int) (k : Intended) (s u : State) : Prop where
  recovery : u.standing.recovery = s.standing.recovery ++ [s.tornEntry p k n pre preBalance]
  held : u.journal.held = s.journal.held + 1
  sighting : u.sighting n = some ⟨n, pre, preBalance, .torn, s.line.address, s.stamp⟩
  sent : ∀ t, Grows u t → s.sightSent t ⟨n, pre, preBalance, .torn, s.line.address, s.stamp⟩
  ctx : u.ctx p = { s.ctx p with creditRes := false, journalRes := 0 }
  port : u.port p = (s.port p).ended
  deny : u.standing.deny = s.standing.deny
  params : u.params = s.params

theorem broadcastTorn_eq {b : Int} (hcard : (s.ctx p).cardId = some n) (hpre : (s.ctx p).preCounter = some pre)
    (hb : (s.ctx p).preBalance = some b) : broadcastTorn p s = broadcastSight (s.ownSighting n pre b .torn) s := by
  simp only [broadcastTorn, hcard, hpre, hb]

theorem tornAt_endVerb {b : Int} (hcard : (s.ctx p).cardId = some n) (hpre : (s.ctx p).preCounter = some pre)
    (hb : (s.ctx p).preBalance = some b) (hk : (s.ctx p).intended = some k) (hroom : s.standing.recovery.length < 16) :
    TornAt p n pre b k s (broadcastTorn p (recordTorn p (endVerb p s))) := by
  obtain ⟨lane, reserved, htorn⟩ := recordTorn_eq (p := p) (i := k) (cardId := n) (pre := pre) (preBalance := b) (s := endVerb p s)
    (by rw [endVerb_ctx, hk]) (by rw [endVerb_ctx, hcard]) (by rw [endVerb_ctx, hpre]) (by rw [endVerb_ctx, hb])
    (by rw [endVerb_eq]; exact hroom)
  have hctx : (recordTorn p (endVerb p s)).ctx p = { s.ctx p with creditRes := false, journalRes := 0 } := by
    rw [htorn, endVerb_ctx]
    simp [State.ctx]
  have hport : (recordTorn p (endVerb p s)).port p = (s.port p).ended := by
    rw [htorn, endVerb_eq]
    simp [State.port]
  have hown : (recordTorn p (endVerb p s)).ownSighting n pre b .torn = ⟨n, pre, b, .torn, s.line.address, s.stamp⟩ := by
    rw [htorn, endVerb_eq]
    rfl
  rw [broadcastTorn_eq (by rw [hctx]; exact hcard) (by rw [hctx]; exact hpre) (by rw [hctx]; exact hb), hown]
  have htakes : Takes 0 s (recordTorn p (endVerb p s)) := by
    refine Takes.quiet ((Grows.refl s).keeping ?_ ?_ ?_) ?_ ?_ <;> rw [htorn, endVerb_eq]
  refine ⟨?_, ?_, ?_, fun t hgrows => sightSent_of_broadcast (Nat.zero_le 1) htakes hgrows, ?_, ?_, ?_, ?_⟩
  · rw [(broadcastSight_frame ..).2.1, htorn, endVerb_eq]
    rfl
  · rw [(broadcastSight_frame ..).2.2.2.2.2.1, htorn, endVerb_eq]
  · rw [State.sighting, (broadcastSight_frame ..).2.1, htorn, endVerb_eq]
    exact enterSighting_find ⟨n, pre, b, .torn, s.line.address, s.stamp⟩ _
  · rw [State.ctx, (broadcastSight_frame ..).1]
    exact hctx
  · rw [State.port, (broadcastSight_frame ..).1]
    exact hport
  · rw [(broadcastSight_frame ..).2.1, htorn, endVerb_eq]
  · rw [(broadcastSight_frame ..).2.2.2.2.2.2.1, htorn, endVerb_eq]

/-- What a torn write leaves once its card is withdrawn and its context has gone on. -/
theorem TornAt.tornTo {b : Int} (h : TornAt p n pre b k s u) (hrecovery : t.standing.recovery = u.standing.recovery)
    (hsightings : t.standing.sightings = u.standing.sightings) (hheld : t.journal.held = u.journal.held) (hgrows : Grows u t)
    (hctx : (t.ctx p).journalRes = 0 ∧ (t.ctx p).creditRes = false ∧ (t.ctx p).inFlight = false)
    (hflight : (s.ctx p).inFlight = true → t.standing.inFlight.get p = none) : s.tornTo t p n pre b k :=
  ⟨hrecovery.trans h.recovery, hheld.trans h.held, hctx.1, hctx.2.1, by rw [State.sighting, hsightings]; exact h.sighting,
    fun _ => h.sent t hgrows, hctx.2.2, hflight⟩

/-- R19: a torn write after which nothing was read: SEE_AGENT, and IDLE. -/
theorem torn_tornTo {b : Int} (hcard : (s.ctx p).cardId = some n) (hpre : (s.ctx p).preCounter = some pre)
    (hb : (s.ctx p).preBalance = some b) (hk : (s.ctx p).intended = some k) (hroom : s.standing.recovery.length < 16) :
    s.tornTo (follow (torn p (endVerb p s))) p n pre b k ∧ ((follow (torn p (endVerb p s))).ctx p).state = .idle
      ∧ (follow (torn p (endVerb p s))).sent.head? = some (.display p (s.port p).tag ⟨.seeAgent, none, none⟩) := by
  have h := tornAt_endVerb hcard hpre hb hk hroom
  have hshown := showNow_eq p ⟨.seeAgent, none, none⟩ (broadcastTorn p (recordTorn p (endVerb p s))) (by rw [h.port]; rfl) (by rw [h.port]; rfl)
  obtain ⟨hsightings, hrecovery, -, hwithdrawn⟩ := withdraw_standing p (showNow p ⟨.seeAgent, none, none⟩ (broadcastTorn p (recordTorn p (endVerb p s))))
  have hctx : (torn p (endVerb p s)).ctx p =
      { pollTimer := some (s.params.pollPeriod (torn p (endVerb p s)).lane.tempo), pollPeriod := s.params.pollPeriod (torn p (endVerb p s)).lane.tempo } := by
    rw [torn, toIdle_eq, State.ctx_onCtx]
    simp
  refine ⟨h.tornTo ?_ ?_ ?_ ?_ ?_ ?_, ?_, ?_⟩
  · rw [(follow_frame _).2.1, torn, (toIdle_frame ..).1, hrecovery, (showNow_frame ..).1]
  · rw [(follow_frame _).2.1, torn, (toIdle_frame ..).1, hsightings, (showNow_frame ..).1]
  · rw [(follow_frame _).2.2.2.1, torn, (toIdle_frame ..).2.2.2.2.1, (withdraw_frame ..).2.2.2.1, (showNow_frame ..).2.2.2.2.1]
  · exact follow_grows <| toIdle_grows <| withdraw_grows <| showNow_grows <| .refl _
  · rw [follow_ctx, hctx]
    exact ⟨rfl, rfl, rfl⟩
  · intro hf
    rw [(follow_frame _).2.1, torn, (toIdle_frame ..).1]
    exact hwithdrawn (by rw [showNow_ctx, h.ctx]; exact hf)
  · rw [follow_ctx, hctx]
  · rw [(follow_frame _).2.2.2.2.2.2.2.2.2.2.1, torn, (toIdle_frame ..).2.2.2.2.2.2.2.2.2.2.2.1, (withdraw_frame ..).2.2.2.2.2.2.2.2.2.2.1, hshown, h.port]
    rfl

/-! ### Torn, and a clone (R50) -/

theorem addFound_grows (o : DenyOrigin) (j : Nat) (h : Grows s t) : Grows s (addFound o j t) := by
  unfold addFound
  repeat' split
  · exact h
  · exact h.keeping rfl rfl rfl
  · exact h.trans ⟨List.prefix_rfl, fun _ => List.prefix_rfl, fun _ => rfl, id, rfl⟩

theorem appendClone_grows (x : Content) (h : Grows s t) : Grows s (appendClone p x t) := by
  unfold appendClone
  repeat' split
  · exact appendRecord_grows (fun _ => rfl) h
  · exact appendReserved_grows <| onCtx_grows h
  · exact h.trans ⟨List.prefix_rfl, fun _ => List.prefix_rfl, fun _ => rfl, id, rfl⟩

theorem cloneFinding_grows (j m : Nat) (reason : CloneReason) (b : Int) (h : Grows s t) : Grows s (cloneFinding p j reason m b t) :=
  event_grows <| broadcast_grows <| appendClone_grows _ <| addFound_grows _ _ h

theorem appendClone_held (x : Content) (s : State) : (appendClone p x s).journal.held = s.journal.held := by
  unfold appendClone
  repeat' split
  · exact (appendRecord_used id x s).2.1
  · exact (appendRecord_used (fun j => { j with reserved := j.reserved - 1 }) x _).2.1
  · rfl

/-- R48: a clone finding leaves the recovery list and its slots. -/
theorem cloneFinding_recovery (j m : Nat) (reason : CloneReason) (b : Int) (s : State) :
    (cloneFinding p j reason m b s).standing.recovery = s.standing.recovery
      ∧ (cloneFinding p j reason m b s).standing.sightings = s.standing.sightings
      ∧ (cloneFinding p j reason m b s).journal.held = s.journal.held := by
  have hfound : (addFound .localPart j s).standing.recovery = s.standing.recovery := by
    unfold addFound
    repeat' split
    all_goals rfl
  rw [(cloneFinding_keeps p j m reason b s).1]
  refine ⟨hfound, addFound_sightings .., ?_⟩
  simp only [cloneFinding, event_frame, broadcastSuspect_frame, appendClone_held, addFound_frame]

theorem refuse_clone_recovery (mark : Bool) (amount : Option Nat) (s : State) :
    (refuse p .clone mark amount s).standing.recovery = s.standing.recovery
      ∧ (refuse p .clone mark amount s).standing.sightings = s.standing.sightings
      ∧ (refuse p .clone mark amount s).standing.deny = s.standing.deny
      ∧ (refuse p .clone mark amount s).journal.held = s.journal.held := by
  have hrecord : (refusalRecord p .clone (dropCreditRes p s)).journal.held = s.journal.held := by
    rw [refusalRecord, if_pos rfl]
    simp [dropJournalRes, releaseJournal, State.onJournal, State.onCtx, State.onDialog]
  simp only [refuse]
  split
  · simp [State.onCtx, State.onDialog, hrecord]
  · simp [withdraw_standing, hrecord]

/-- R19, log 50: the card of a torn write has left the in-flight set before its clone is refused. -/
def tornWithdrawn (p : Port) (s : State) : State := withdraw p (broadcastTorn p (recordTorn p (endVerb p s)))

theorem tornClone_eq (p : Port) (i : Image) (s : State) : tornClone p i (endVerb p s) =
    refuse p .clone (tornWithdrawn p s).params.markOnClone none
      (cloneFinding p i.cardId .confirmConflict i.counter i.balance (tornWithdrawn p s)) := rfl

/-- R22 to R24: a refusal gives the slots back, with the mark indication and without. -/
theorem refuse_gives_back (code : RefusalCode) (mark : Bool) (amount : Option Nat) (s : State) :
    ((refuse p code mark amount s).ctx p).journalRes = 0 ∧ ((refuse p code mark amount s).ctx p).creditRes = false
      ∧ ((s.ctx p).inFlight = false → ((refuse p code mark amount s).ctx p).inFlight = false) := by
  have hctx := (refusalRecord_dropCreditRes p code s).1
  simp only [refuse]
  split
  · rw [issue_ctx, State.ctx_onCtx, hctx]
    exact ⟨rfl, rfl, id⟩
  · rw [toHolding_ctx, withdraw_ctx, showNow_ctx, hctx]
    split <;> exact ⟨rfl, rfl, fun _ => rfl⟩

/-- What a torn write leaves to the refusal of its clone. -/
theorem tornWithdrawn_facts {b : Int} (h : TornAt p n pre b k s (broadcastTorn p (recordTorn p (endVerb p s)))) :
    (tornWithdrawn p s).ctx p = { s.ctx p with creditRes := false, journalRes := 0, inFlight := false }
      ∧ (tornWithdrawn p s).port p = (s.port p).ended ∧ (tornWithdrawn p s).params = s.params
      ∧ (tornWithdrawn p s).standing.deny = s.standing.deny
      ∧ ((s.ctx p).inFlight = true → (tornWithdrawn p s).standing.inFlight.get p = none) := by
  obtain ⟨-, -, hdenied, hwithdrawn⟩ := withdraw_standing p (broadcastTorn p (recordTorn p (endVerb p s)))
  refine ⟨by rw [tornWithdrawn, withdraw_ctx, h.ctx], by rw [tornWithdrawn, withdraw_port, h.port], ?_, hdenied.trans h.deny,
    fun hf => hwithdrawn (by rw [h.ctx]; exact hf)⟩
  rw [tornWithdrawn, (withdraw_frame ..).2.2.2.2.2.2.1, h.params]

theorem denied_cloneFinding (j m : Nat) (reason : CloneReason) (b : Int) (s : State)
    (h : (s.denied j).isSome = true ∨ s.standing.deny.length < 4096) : ((cloneFinding p j reason m b s).denied j).isSome = true := by
  rw [State.denied, (cloneFinding_keeps ..).1]
  show ((addFound .localPart j s).denied j).isSome = true
  rw [denied_addFound]
  cases hd : s.denied j with
  | some e => rfl
  | none =>
    simp only [if_pos (h.resolve_left (by simp [hd]))]
    rfl

/-- R19, R41: the torn write stands, however its clone is refused. -/
theorem TornAt.refused {b : Int} {reason : CloneReason} {j m : Nat} {x : Int} {mark : Bool}
    (h : TornAt p n pre b k s (broadcastTorn p (recordTorn p (endVerb p s)))) :
    s.tornTo (follow (refuse p .clone mark none (cloneFinding p j reason m x (tornWithdrawn p s)))) p n pre b k := by
  obtain ⟨hctx, -, -, -, hflight⟩ := tornWithdrawn_facts h
  obtain ⟨hsightings, hrecovery, -, -⟩ := withdraw_standing p (broadcastTorn p (recordTorn p (endVerb p s)))
  obtain ⟨hrecovery', hsightings', hheld'⟩ := cloneFinding_recovery (p := p) j m reason x (tornWithdrawn p s)
  obtain ⟨hrecovery'', hsightings'', -, hheld''⟩ := refuse_clone_recovery (p := p) mark none (cloneFinding p j reason m x (tornWithdrawn p s))
  obtain ⟨hjournal, hcredit, hwithdrawn⟩ := refuse_gives_back (p := p) .clone mark none (cloneFinding p j reason m x (tornWithdrawn p s))
  obtain ⟨z, hctx'⟩ := cloneFinding_ctx p j reason m x (tornWithdrawn p s)
  refine h.tornTo ?_ ?_ ?_ ?_ ?_ fun hf => ?_
  · rw [(follow_frame _).2.1]
    exact hrecovery''.trans (hrecovery'.trans hrecovery)
  · rw [(follow_frame _).2.1]
    exact hsightings''.trans (hsightings'.trans hsightings)
  · rw [(follow_frame _).2.2.2.1, hheld'', hheld', tornWithdrawn, (withdraw_frame ..).2.2.2.1]
  · exact follow_grows <| refuse_grows <| cloneFinding_grows _ _ _ _ <| withdraw_grows <| .refl _
  · rw [follow_ctx]
    exact ⟨hjournal, hcredit, hwithdrawn (by rw [hctx', hctx])⟩
  · rw [(follow_frame _).2.1]
    exact refuse_inFlight .clone mark none (by rw [cloneFinding_inFlight]; exact hflight hf)

theorem tornClone_tornTo {b : Int} (hcard : (s.ctx p).cardId = some n) (hpre : (s.ctx p).preCounter = some pre)
    (hb : (s.ctx p).preBalance = some b) (hk : (s.ctx p).intended = some k) (hroom : s.standing.recovery.length < 16)
    (hi : i.cardId = n) (hdeny : (s.denied n).isSome = true ∨ s.standing.deny.length < 4096) :
    s.tornTo (follow (tornClone p i (endVerb p s))) p n pre b k
      ∧ (s.params.markOnClone = false → s.refusedTo (follow (tornClone p i (endVerb p s))) p .clone none)
      ∧ (s.params.markOnClone = true → ((follow (tornClone p i (endVerb p s))).ctx p).state = .marking
        ∧ ((follow (tornClone p i (endVerb p s))).ctx p).marking = some .clone
        ∧ (follow (tornClone p i (endVerb p s))).sent.head? = some (.verb p (nextTag (s.port p).tag) (.mark n)))
      ∧ ((follow (tornClone p i (endVerb p s))).denied n).isSome = true := by
  have h := tornAt_endVerb hcard hpre hb hk hroom
  obtain ⟨hctx, hport, hparams, hdenied, hflight⟩ := tornWithdrawn_facts h
  obtain ⟨z, hctx'⟩ := cloneFinding_ctx p i.cardId .confirmConflict i.counter i.balance (tornWithdrawn p s)
  have hport' := cloneFinding_port p p i.cardId .confirmConflict i.counter i.balance (tornWithdrawn p s)
  have hvport : (endVerb p s).port p = (s.port p).ended := by simp [endVerb_eq, State.port]
  have hway : OnTheWay p (endVerb p s) (tornWithdrawn p s) :=
    ⟨hport.trans hvport.symm, by rw [hctx, endVerb_ctx], by rw [hctx, endVerb_ctx], fun hf => .inr (hflight (by rwa [endVerb_ctx] at hf))⟩
  rw [tornClone_eq, hparams]
  refine ⟨h.refused, fun hm => ?_, fun hm => ?_, ?_⟩
  · rw [hm]
    exact (hway.cloneFinding.refuses (endVerb_outstanding p s) (endVerb_pendingShow p s)).of_endVerb
  · obtain ⟨hstate, hcode, hsent⟩ := refuse_marked (p := p) (code := .clone) (n := n)
      (s := cloneFinding p i.cardId .confirmConflict i.counter i.balance (tornWithdrawn p s))
      (by rw [hport', hport]; rfl) (by rw [hctx', hctx]; exact hcard)
    rw [hm, follow_ctx, (follow_frame _).2.2.2.2.2.2.2.2.2.2.1]
    refine ⟨hstate, hcode, hsent.trans ?_⟩
    rw [hport', hport]
    rfl
  · obtain ⟨-, -, hdeny', -⟩ := refuse_clone_recovery (p := p) s.params.markOnClone none
      (cloneFinding p i.cardId .confirmConflict i.counter i.balance (tornWithdrawn p s))
    have hfound := denied_cloneFinding (p := p) i.cardId i.counter .confirmConflict i.balance (tornWithdrawn p s)
      (by rw [State.denied, hdenied, hi]; exact hdeny)
    rw [State.denied, (follow_frame _).2.1, hdeny', ← hi]
    exact hfound

/-! ### The endings of a write -/

/-- R149: a context whose write is outstanding has its records' slots among those reserved. -/
theorem reserved_of_writing {v : Purpose} {b : List Byte} (hv : v = .commit ∨ v = .reissue ∨ v = .confirmRead) (h : s.endsAnswered p v c b)
    (hk : (s.ctx p).intended = some k) (hslots : s.slotsHold) : k.contents.length ≤ s.journal.reserved := by
  obtain ⟨haccounts, hports, -⟩ := State.slotsHold_iff.mp hslots
  obtain ⟨hholds, hknows, hawaited, -⟩ := hports p
  obtain ⟨-, -, o, ho, hpurpose, hdropped, -⟩ := h
  have hawait := (hawaited o ho).2
  rw [if_neg (by rw [hdropped]; exact Bool.false_ne_true), hpurpose] at hawait
  have hstate : (s.ctx p).state = .reckoning ∨ (s.ctx p).state = .committing ∨ (s.ctx p).state = .confirming := by
    obtain rfl | rfl | rfl := hv <;> simp [Purpose.awaitedIn] at hawait <;> simp [hawait]
  obtain ⟨i, n, pre, b, hw⟩ := Context.writes_of_state hholds hknows hstate
  cases hk.symm.trans hw.intended
  have hsum := haccounts.reserved
  rw [journalRes_ports p] at hsum
  have hrecords := hw.records
  omega

/-- R17: the card is read again. -/
theorem enterConfirming_endVerb (hcard : (s.ctx p).cardId = some n) : enterConfirming p (endVerb p s) =
    { s with
      dialog := { s.dialog with
        ctx := s.dialog.ctx.put p { s.ctx p with state := .confirming, attempts := 1 }
        port := s.dialog.port.put p ((s.port p).issued .confirmRead s.params none) }
      sent := .verb p (nextTag (s.port p).tag) (.read n) :: s.shown p } := by
  rw [enterConfirming, issue_endVerb]
  simp [State.verbFor, hcard]

theorem confirmAgain_endVerb (hcard : (s.ctx p).cardId = some n) (hagain : (s.ctx p).attempts < s.params.retries) :
    confirmAgain p (endVerb p s) =
      { s with
        dialog := { s.dialog with
          ctx := s.dialog.ctx.put p { s.ctx p with attempts := (s.ctx p).attempts + 1 }
          port := s.dialog.port.put p ((s.port p).issued .confirmRead s.params none) }
        sent := .verb p (nextTag (s.port p).tag) (.read n) :: s.shown p } := by
  have hparams : (endVerb p s).params = s.params := by rw [endVerb_eq]
  rw [confirmAgain, if_pos (by rwa [endVerb_ctx, hparams]), issue_endVerb]
  simp [State.verbFor, hcard]

theorem confirmAgain_torn (hlast : s.params.retries ≤ (s.ctx p).attempts) : confirmAgain p (endVerb p s) = torn p (endVerb p s) := by
  have hparams : (endVerb p s).params = s.params := by rw [endVerb_eq]
  rw [confirmAgain, if_neg (by rw [endVerb_ctx, hparams]; omega)]

/-- R18: COMMIT is issued once more. -/
theorem reissueCommit_endVerb (hcard : (s.ctx p).cardId = some n) (hpre : (s.ctx p).preCounter = some pre)
    (hk : (s.ctx p).intended = some k) : reissueCommit p (endVerb p s) =
      { s with
        dialog := { s.dialog with
          ctx := s.dialog.ctx.put p { s.ctx p with reissued := true }
          port := s.dialog.port.put p ((s.port p).issued .reissue s.params none) }
        sent := .verb p (nextTag (s.port p).tag)
          (.commit n pre k.balance k.entry k.lastExit k.dailyDate k.dailySpent) :: s.shown p } := by
  rw [reissueCommit, issue_endVerb]
  simp [State.verbFor, Context.commit, hcard, hpre, hk]

theorem exec_confirmed {b : List Byte} (hr : s.pins.reset = false) (h : s.endsAnswered p .confirmRead c b) (hcard : (s.ctx p).cardId = some n)
    (hb : parseImage b = some i) (hi : i.cardId = n) : exec c s = .next (follow (judgeConfirming p i (endVerb p s))) := by
  refine exec_endsAnswered hr h fun o _ => ?_
  have himage : confirmingImage ((endVerb p s).ctx p) b = some i := by simp [confirmingImage, hb, endVerb_ctx, hcard, hi]
  simp only [onEnd, confirmEnds, himage]

/-- R17: the values that the confirming READ shows decide. -/
theorem judgeConfirming_endVerb {b : Int} (hpre : (s.ctx p).preCounter = some pre) (hb : (s.ctx p).preBalance = some b)
    (hk : (s.ctx p).intended = some k) : judgeConfirming p i (endVerb p s) =
      if i.counter = pre + 1 ∧ i.balance = k.balance then concludeWrite p (endVerb p s)
      else if i.counter = pre ∧ i.balance = b then
        if (s.ctx p).reissued then torn p (endVerb p s) else reissueCommit p (endVerb p s)
      else tornClone p i (endVerb p s) := by
  simp [judgeConfirming, endVerb_ctx, hpre, hb, hk]

/-- R17: a confirming READ that shows nothing. -/
theorem exec_unconfirmed (hr : s.pins.reset = false) (hcard : (s.ctx p).cardId = some n)
    (h : s.endsFieldLost p .confirmRead c ∨ s.endsUnanswered p .confirmRead c
      ∨ ∃ b, s.endsAnswered p .confirmRead c b ∧ ∀ i, parseImage b = some i → i.cardId ≠ n) :
    exec c s = .next (follow (confirmAgain p (endVerb p s))) := by
  obtain hlost | hnone | ⟨b, hb, hother⟩ := h
  · exact exec_fieldLost hr hlost fun o => rfl
  · rw [exec_unanswered hr hnone, noAnswer]
  · refine exec_endsAnswered hr hb fun o _ => ?_
    have himage : confirmingImage ((endVerb p s).ctx p) b = none := by
      unfold confirmingImage
      cases hi : parseImage b with
      | none => rfl
      | some i =>
        simp only [endVerb_ctx, hcard]
        exact if_neg fun hsame => hother i hi (Option.some.inj hsame).symm
    simp only [onEnd, confirmEnds, himage]

/-- Settles O44. -/
theorem writeIsConfirmedOrTorn : Obligations.WriteIsConfirmedOrTorn := by
  intro p n pre b k c s hr hcard hpre hb hk hin hroom
  have hconcluded {v : Purpose} {m : List Byte} (hv : v = .commit ∨ v = .reissue ∨ v = .confirmRead) (h : s.endsAnswered p v c m) :=
    concludeWrite_concludedTo hcard hpre hk hin (reserved_of_writing hv h hk)
  have htorn := torn_tornTo hcard hpre hb hk hroom
  refine ⟨fun m h hm => ?ok, fun h => ?commit, fun h => ?reissue, fun m i h hm hi =>
    ⟨fun hcounter hbalance => ?after, fun hcounter hbalance hfirst => ?before, fun hcounter hbalance hsecond => ?twice,
      fun hafter hbefore hmark hdeny => ?clone, fun hafter hbefore hmark hdeny => ?marked⟩,
    fun h => ⟨fun hagain => ?again, fun hlast => ?last⟩⟩
  case ok =>
    obtain h | h := h
    · exact ⟨_, exec_endsAnswered hr h fun o _ => by rw [onEnd, commitEnds, hm]; rfl, hconcluded (.inl rfl) h⟩
    · exact ⟨_, exec_endsAnswered hr h fun o _ => by rw [onEnd, reissueEnds, hm]; rfl, hconcluded (.inr (.inl rfl)) h⟩
  case commit =>
    have hexec : exec c s = .next (follow (enterConfirming p (endVerb p s))) := by
      obtain ⟨m, h, hm⟩ | hlost | hnone := h
      · exact exec_endsAnswered hr h fun o _ => by rw [onEnd, commitEnds, hm]; rfl
      · exact exec_fieldLost hr hlost fun o => by rw [onEnd, commitEnds]
      · rw [exec_unanswered hr hnone, noAnswer]
    rw [enterConfirming_endVerb hcard] at hexec
    exact hexec
  case reissue =>
    have hexec : exec c s = .next (follow (enterConfirming p (endVerb p s))) := by
      obtain ⟨m, h, hm⟩ | hlost | hnone := h
      · exact exec_endsAnswered hr h fun o _ => by obtain hm | hm := hm <;> rw [onEnd, reissueEnds, hm] <;> rfl
      · exact exec_fieldLost hr hlost fun o => by rw [onEnd, reissueEnds]
      · rw [exec_unanswered hr hnone, noAnswer]
    rw [enterConfirming_endVerb hcard] at hexec
    exact hexec
  case after =>
    refine ⟨_, exec_confirmed hr h hcard hm hi, ?_⟩
    rw [judgeConfirming_endVerb hpre hb hk, if_pos ⟨hcounter, hbalance⟩]
    exact hconcluded (.inr (.inr rfl)) h
  case before =>
    have hexec := exec_confirmed hr h hcard hm hi
    rw [judgeConfirming_endVerb hpre hb hk, if_neg (by omega), if_pos ⟨hcounter, hbalance⟩, hfirst, if_neg Bool.false_ne_true,
      reissueCommit_endVerb hcard hpre hk] at hexec
    exact hexec
  case twice =>
    refine ⟨_, exec_confirmed hr h hcard hm hi, ?_⟩
    rw [judgeConfirming_endVerb hpre hb hk, if_neg (by omega), if_pos ⟨hcounter, hbalance⟩, hsecond, if_pos rfl]
    exact htorn
  case clone =>
    obtain ⟨hto, hrefused, -, hfound⟩ := tornClone_tornTo hcard hpre hb hk hroom hi hdeny
    refine ⟨_, exec_confirmed hr h hcard hm hi, ?_⟩
    rw [judgeConfirming_endVerb hpre hb hk, if_neg hafter, if_neg hbefore]
    exact ⟨hto, hrefused hmark, hfound⟩
  case marked =>
    obtain ⟨hto, -, hmarking, hfound⟩ := tornClone_tornTo hcard hpre hb hk hroom hi hdeny
    obtain ⟨hstate, hcode, hsent⟩ := hmarking hmark
    refine ⟨_, exec_confirmed hr h hcard hm hi, ?_⟩
    rw [judgeConfirming_endVerb hpre hb hk, if_neg hafter, if_neg hbefore]
    exact ⟨hto, hstate, hcode, hsent, hfound⟩
  case again =>
    have hexec := exec_unconfirmed hr hcard h
    rw [confirmAgain_endVerb hcard hagain] at hexec
    exact hexec
  case last =>
    refine ⟨_, exec_unconfirmed hr hcard h, ?_⟩
    rw [confirmAgain_torn hlast]
    exact htorn

end Sys2Proof.Machine

/-! PROOFS. What one sample does to a beam (R88 to R90): the reference tracked in whole levels, and the judgement by the beam's
state. -/

namespace Sys2Proof.Machine

open Sys2Proof

variable {q : Params} {r : BeamRecord} {level ref : Nat}

/-! ### Reference tracking in natural numbers (R90) -/

/-- R90: an upward step is the shifted difference, and 1 at least. -/
theorem trackStep_natCast {d : Nat} (shift : Nat) (h : 0 < d) : trackStep shift d = (max 1 (d / 2 ^ shift) : Nat) := by
  have hdiv : (d : Int).tdiv (2 ^ shift) = ((d / 2 ^ shift : Nat) : Int) := by
    rw [Int.tdiv_eq_ediv_of_nonneg (Int.natCast_nonneg d)]
    push_cast
    rfl
  simp only [trackStep, hdiv]
  generalize d / 2 ^ shift = step
  split <;> omega

/-- R90: a downward step is the upward step of the same size, turned round. -/
theorem trackStep_neg_natCast {d : Nat} (shift : Nat) (h : 0 < d) :
    trackStep shift (-(d : Int)) = -((max 1 (d / 2 ^ shift) : Nat) : Int) := by
  have hdiv : (-(d : Int)).tdiv (2 ^ shift) = -((d / 2 ^ shift : Nat) : Int) := by
    rw [Int.neg_tdiv, Int.tdiv_eq_ediv_of_nonneg (Int.natCast_nonneg d)]
    push_cast
    rfl
  simp only [trackStep, hdiv]
  generalize d / 2 ^ shift = step
  repeat' split
  all_goals omega

theorem max_one_div_le {d : Nat} (shift : Nat) (h : 0 < d) : max 1 (d / 2 ^ shift) ≤ d :=
  max_le h (Nat.div_le_self _ _)

theorem trackedRef_self (q : Params) (ref : Nat) : trackedRef q ref ref = ref := by
  simp [trackedRef, trackStep]

theorem trackedRef_fast (h : ref + q.fastBound < level) :
    trackedRef q ref level = ref + max 1 ((level - ref) / 2 ^ q.fastShift) := by
  have hd : (level : Int) - ref = ((level - ref : Nat) : Int) := by omega
  simp only [trackedRef]
  rw [if_pos (by omega), hd, trackStep_natCast _ (by omega)]
  omega

theorem trackedRef_slow (h : ref < level) (hslow : level ≤ ref + q.fastBound) :
    trackedRef q ref level = ref + max 1 ((level - ref) / 2 ^ q.slowShift) := by
  have hd : (level : Int) - ref = ((level - ref : Nat) : Int) := by omega
  simp only [trackedRef]
  rw [if_neg (by omega), hd, trackStep_natCast _ (by omega)]
  omega

theorem trackedRef_down (h : level < ref) : trackedRef q ref level = ref - max 1 ((ref - level) / 2 ^ q.slowShift) := by
  have hd : (level : Int) - ref = -((ref - level : Nat) : Int) := by omega
  have := max_one_div_le q.slowShift (d := ref - level) (by omega)
  simp only [trackedRef]
  rw [if_neg (by omega), hd, trackStep_neg_natCast _ (by omega)]
  omega

/-- R90: the reference rises by 1 at least and never past the level. -/
theorem trackedRef_rises (h : ref < level) : ref < trackedRef q ref level ∧ trackedRef q ref level ≤ level := by
  by_cases hfast : ref + q.fastBound < level
  · have := max_one_div_le q.fastShift (d := level - ref) (by omega)
    rw [trackedRef_fast hfast]
    omega
  · have := max_one_div_le q.slowShift (d := level - ref) (by omega)
    rw [trackedRef_slow h (by omega)]
    omega

/-- R90: the reference falls by 1 at least and never past the level. -/
theorem trackedRef_falls (h : level < ref) : trackedRef q ref level < ref ∧ level ≤ trackedRef q ref level := by
  have := max_one_div_le q.slowShift (d := ref - level) (by omega)
  rw [trackedRef_down h]
  omega

/-! ### One sample of a beam, by its state (R88, R89) -/

theorem sampleBeam_clear_blocking (hs : r.state = .clear) (h : level + q.blockLevel ≤ r.ref) :
    sampleBeam q r level = if q.debounce ≤ r.count + 1 then { r with level := level, state := .blocked, count := 0 }
      else { r with level := level, count := r.count + 1 } := by
  simp only [sampleBeam, hs, sampleClear]
  rw [if_pos (by omega)]

theorem sampleBeam_clear_tracked (hs : r.state = .clear) (h : r.ref < level + q.blockLevel) :
    sampleBeam q r level = { r with level := level, count := 0, ref := trackedRef q r.ref level } := by
  simp only [sampleBeam, hs, sampleClear]
  rw [if_neg (by omega)]

theorem sampleBeam_blocked_releasing (hs : r.state = .blocked) (h : r.ref ≤ level + q.releaseLevel) :
    sampleBeam q r level = if q.debounce ≤ r.count + 1 then { r with level := level, state := .clear, count := 0 }
      else { r with level := level, count := r.count + 1 } := by
  simp only [sampleBeam, hs, sampleBlocked]
  rw [if_pos (by omega)]

theorem sampleBeam_blocked_staying (hs : r.state = .blocked) (h : level + q.releaseLevel < r.ref) :
    sampleBeam q r level = { r with level := level, count := 0 } := by
  simp only [sampleBeam, hs, sampleBlocked]
  rw [if_neg (by omega)]

theorem sampleBeam_unjudged (hs : r.state = .trimming ∨ r.state = .fault) :
    sampleBeam q r level = { r with level := level } := by
  rcases hs with hs | hs <;> simp only [sampleBeam, hs]

/-- What a sample leaves unchanged. -/
theorem sampleBeam_frame (q : Params) (r : BeamRecord) (level : Nat) :
    (sampleBeam q r level).level = level ∧ (sampleBeam q r level).drive = r.drive
      ∧ (sampleBeam q r level).cause = r.cause ∧ (sampleBeam q r level).tried = r.tried := by
  cases hs : r.state with
  | clear =>
    by_cases h : level + q.blockLevel ≤ r.ref
    · rw [sampleBeam_clear_blocking hs h]
      split <;> exact ⟨rfl, rfl, rfl, rfl⟩
    · rw [sampleBeam_clear_tracked hs (by omega)]
      exact ⟨rfl, rfl, rfl, rfl⟩
  | blocked =>
    by_cases h : r.ref ≤ level + q.releaseLevel
    · rw [sampleBeam_blocked_releasing hs h]
      split <;> exact ⟨rfl, rfl, rfl, rfl⟩
    · rw [sampleBeam_blocked_staying hs (by omega)]
      exact ⟨rfl, rfl, rfl, rfl⟩
  | trimming =>
    rw [sampleBeam_unjudged (.inl hs)]
    exact ⟨rfl, rfl, rfl, rfl⟩
  | fault =>
    rw [sampleBeam_unjudged (.inr hs)]
    exact ⟨rfl, rfl, rfl, rfl⟩

/-- Settles O47, by the state of the beam: its debounce counter, or its reference tracked in natural numbers. -/
theorem sampleJudgesABeam : Obligations.SampleJudgesABeam := by
  unfold Obligations.SampleJudgesABeam
  intro q r level
  obtain ⟨hlevel, hdrive, hcause, htried⟩ := sampleBeam_frame q r level
  refine ⟨hlevel, hdrive, hcause, htried, fun hs h => ?_, fun hs h => ?_, fun hs => ?_, fun hs => sampleBeam_unjudged hs⟩
  · rw [sampleBeam_clear_blocking hs h]
    split
    · exact ⟨rfl, rfl, rfl⟩
    · exact ⟨rfl, hs, rfl⟩
  · rw [sampleBeam_clear_tracked hs h]
    refine ⟨hs, rfl, fun heq => ?_, trackedRef_rises, trackedRef_falls, trackedRef_fast, trackedRef_slow, trackedRef_down⟩
    show trackedRef q r.ref level = level
    rw [heq, trackedRef_self]
  · by_cases h : r.ref ≤ level + q.releaseLevel
    · rw [sampleBeam_blocked_releasing hs h]
      refine ⟨?_, fun _ => ?_, fun hless => absurd h (by omega)⟩ <;> split
      · rfl
      · rfl
      · exact ⟨rfl, rfl⟩
      · exact ⟨hs, rfl⟩
    · rw [sampleBeam_blocked_staying hs (by omega)]
      exact ⟨rfl, fun hle => absurd hle h, fun _ => ⟨hs, rfl⟩⟩

end Sys2Proof.Machine

/-! PROOFS. The trim in a sample set (section 5.3): the band test and its limits, the trim under way, the candidate that begins. -/

namespace Sys2Proof.Machine

open Sys2Proof

variable {s t : State} {i : Nat} {r x : BeamRecord} {trim : Option Nat}

/-! ### Records of beams that exist -/

theorem Six.get_put {α : Type} (y : Six α) (v : α) (h1 : 1 ≤ i) (h6 : i ≤ 6) : (y.put i v).get i = v := by
  interval_cases i <;> rfl

theorem Six.put_put {α : Type} (y : Six α) (i : Nat) (v w : α) : (y.put i v).put i w = y.put i w := by
  match i with
  | 0 | 1 | 2 | 3 | 4 | 5 | 6 => rfl
  | _ + 7 => rfl

/-- The state with record `r` at beam `i` and the trim as given. -/
def State.withRecord (s : State) (i : Nat) (r : BeamRecord) (trim : Option Nat) : State :=
  { s with beam := { s.beam with records := s.beam.records.put i r, trimBeam := trim } }

theorem withRecord_record (h1 : 1 ≤ i) (h6 : i ≤ 6) : (s.withRecord i r trim).record i = r := Six.get_put _ _ h1 h6

theorem onRecord_withRecord (f : BeamRecord → BeamRecord) (h1 : 1 ≤ i) (h6 : i ≤ 6) :
    onRecord i f (s.withRecord i r trim) = s.withRecord i (f r) trim := by
  simp only [onRecord, State.onBeam, State.withRecord, Six.get_put _ _ h1 h6, Six.put_put]

theorem onBeam_withRecord (next : Option Nat) :
    (s.withRecord i r trim).onBeam (fun b => { b with trimBeam := next }) = s.withRecord i r next := rfl

theorem onRecord_eq_withRecord (f : BeamRecord → BeamRecord) :
    onRecord i f s = s.withRecord i (f (s.record i)) s.beam.trimBeam := rfl

/-! ### Events that are off -/

theorem event_of_off {e : Event} (h : s.params.eventMask.getLsbD e.row = false) : event e s = s := by simp [event, h]

/-- The mask of BEAM_FAULT alone. -/
def Params.beamEventsOnly (q : Params) : Prop := q.eventMask = 8#12

theorem Params.beamEventsOnly.getLsbD {q : Params} (h : q.beamEventsOnly) (n : Nat) : q.eventMask.getLsbD n = decide (n = 3) := by
  rw [show q.eventMask = BitVec.twoPow 12 3 from h, BitVec.getLsbD_twoPow]
  by_cases hn : n = 3
  · simp [hn]
  · simp [hn, Ne.symm hn]

theorem fullEvent_of_beamEventsOnly {n : Nat} (h : s.params.beamEventsOnly) : fullEvent n s = s := by
  unfold fullEvent
  split
  · exact event_of_off (by rw [h.getLsbD]; rfl)
  · rfl

theorem highEvent_of_beamEventsOnly {n q : Nat} (h : s.params.beamEventsOnly) : event (.journalHigh n q) s = s :=
  event_of_off (by rw [h.getLsbD]; rfl)

theorem appendRecord_of_beamEventsOnly {take : Journal → Journal} {c : Content} (h : s.params.beamEventsOnly) :
    (appendRecord take c s).line = s.line ∧ (appendRecord take c s).mgmt = s.mgmt := by
  simp only [appendRecord]
  split
  · rw [highEvent_of_beamEventsOnly (by exact h), fullEvent_of_beamEventsOnly (by exact h)]
    exact ⟨rfl, rfl⟩
  · rw [fullEvent_of_beamEventsOnly (by exact h)]
    exact ⟨rfl, rfl⟩

theorem appendReserve_of_beamEventsOnly {c : Content} (h : s.params.beamEventsOnly) :
    (appendReserve c s).line = s.line ∧ (appendReserve c s).mgmt = s.mgmt := by
  unfold appendReserve
  split
  · exact appendRecord_of_beamEventsOnly h
  · exact ⟨rfl, rfl⟩

/-- R195: a BEAM_FAULT event while its kind alone is on: it takes the number, and its frame the local place. -/
theorem beamFault_event (h : s.params.beamEventsOnly) (n : Nat) :
    (event (.beamFault n) s).mgmt.eventNo = (s.mgmt.eventNo + 1) % 65536
      ∧ (s.line.link.up = true → s.line.held = [] → s.line.count .own < 4 →
        (event (.beamFault n) s).line.localQ.up = s.line.localQ.up ++ [⟨s.eventFrame (.beamFault n), .own, false⟩]) := by
  have hon : s.params.eventMask.getLsbD (Event.beamFault n).row = true := by rw [h.getLsbD]; rfl
  refine ⟨by rw [event_eventNo, if_pos hon], fun hup hheld hroom => ?_⟩
  rw [event_of_room hon hup hheld hroom]
  rfl

/-! ### The band test and the limits (R94, R95) -/

/-- R93: the half-width of the band, and what lies outside it. -/
theorem Params.inBand_iff (q : Params) (ref : Nat) :
    q.inBand ref = true ↔ ¬(ref + q.target * q.band / 128 < q.target) ∧ ¬(q.target + q.target * q.band / 128 < ref) := by
  simp only [Params.inBand, Params.belowBand, Params.aboveBand, Params.bandLimit, Bool.and_eq_true, Bool.not_eq_true']
  exact and_congr decide_eq_false_iff_not decide_eq_false_iff_not

theorem Params.nextDrive_below {q : Params} (h : r.ref + q.target * q.band / 128 < q.target) :
    q.nextDrive r = if r.drive < 63 then some (r.drive + 1) else none := by
  rw [Params.nextDrive, if_pos (show q.belowBand r.ref = true from decide_eq_true h)]

theorem Params.nextDrive_above {q : Params} (h : q.target + q.target * q.band / 128 < r.ref) :
    q.nextDrive r = if 0 < r.drive then some (r.drive - 1) else none := by
  have hbelow : q.belowBand r.ref = false := decide_eq_false (by simp only [Params.bandLimit]; omega)
  rw [Params.nextDrive, if_neg (by rw [hbelow]; decide)]

theorem judgeTrim_inBand (h1 : 1 ≤ i) (h6 : i ≤ 6) (h : s.params.inBand r.ref = true) :
    judgeTrim i (s.withRecord i r trim)
      = s.withRecord i { r with state := .clear, count := 0, cause := none, settle := 0 } none := by
  have hband : (s.withRecord i r trim).params.inBand ((s.withRecord i r trim).record i).ref = true := by
    rwa [withRecord_record h1 h6]
  simp only [judgeTrim, if_pos hband, trimSucceeds, onRecord_withRecord _ h1 h6, onBeam_withRecord]

theorem judgeTrim_steps {drive : Nat} (h1 : 1 ≤ i) (h6 : i ≤ 6) (h : s.params.inBand r.ref = false)
    (hdrive : s.params.nextDrive r = some drive) (hsteps : r.steps < s.params.trimSteps) :
    judgeTrim i (s.withRecord i r trim)
      = (s.withRecord i { r with drive := drive, steps := r.steps + 1, settle := 0 } trim).send (.drive i drive) := by
  have hnext : (s.withRecord i r trim).params.nextDrive r = some drive := hdrive
  have hroom : r.steps < (s.withRecord i r trim).params.trimSteps := hsteps
  simp only [judgeTrim, withRecord_record h1 h6, hnext, if_pos hroom, trimStep, onRecord_withRecord _ h1 h6]
  exact if_neg (by rw [show (s.withRecord i r trim).params = s.params from rfl, h]; decide)

theorem judgeTrim_fails (h1 : 1 ≤ i) (h6 : i ≤ 6) (h : s.params.inBand r.ref = false)
    (hlimit : s.params.nextDrive r = none ∨ s.params.trimSteps ≤ r.steps) :
    judgeTrim i (s.withRecord i r trim)
      = if r.state = .fault then s.withRecord i { r with settle := 0 } none
        else trimFault i (s.withRecord i { r with state := .fault, cause := some .trim, settle := 0 } none) := by
  have hfails : judgeTrim i (s.withRecord i r trim) = trimFails i (s.withRecord i r trim) := by
    have hout : ¬(s.withRecord i r trim).params.inBand r.ref = true := by
      rw [show (s.withRecord i r trim).params = s.params from rfl, h]
      decide
    simp only [judgeTrim, withRecord_record h1 h6, if_neg hout]
    split
    next drive hdrive =>
      refine if_neg (Nat.not_lt.mpr ?_)
      rcases hlimit with hnone | hsteps
      · rw [show s.params.nextDrive r = some drive from hdrive] at hnone
        cases hnone
      · exact hsteps
    · rfl
  rw [hfails]
  simp only [trimFails, onBeam_withRecord, withRecord_record h1 h6, onRecord_withRecord _ h1 h6]

/-- R94: a failed trim's record, event and frame. -/
theorem trimFault_facts (u : State) (i : Nat) :
    (trimFault i u).beam = u.beam
      ∧ (trimFault i u).journal.records = u.journal.records ++ (if 1 ≤ u.journal.free then
          [u.recordOf { kind := .fault, direction := none, reason := some (.fault .beamTrim), count := some i }] else [])
      ∧ (u.params.beamEventsOnly → (trimFault i u).mgmt.eventNo = (u.mgmt.eventNo + 1) % 65536
        ∧ (u.line.link.up = true → u.line.held = [] → u.line.count .own < 4 →
          (trimFault i u).line.localQ.up = u.line.localQ.up ++ [⟨u.eventFrame (.beamFault i), .own, false⟩]))
      ∧ (trimFault i u).dialog = u.dialog ∧ (trimFault i u).standing = u.standing ∧ (trimFault i u).tariff = u.tariff
      ∧ (trimFault i u).lane = u.lane ∧ (trimFault i u).params = u.params ∧ (trimFault i u).pins = u.pins
      ∧ (trimFault i u).sent = u.sent := by
  refine ⟨by simp [trimFault], by simp [trimFault], fun hmask => ?_, by simp [trimFault]⟩
  let c : Content := { kind := .fault, direction := none, reason := some (.fault .beamTrim), count := some i }
  obtain ⟨hline, hmgmt⟩ := appendReserve_of_beamEventsOnly (c := c) hmask
  have hevent := beamFault_event (s := appendReserve c u) (by simpa using hmask) i
  have hframe : (appendReserve c u).eventFrame (.beamFault i) = u.eventFrame (.beamFault i) := by
    simp only [State.eventFrame, State.clock, State.stamp, hline, hmgmt] <;> rfl
  rwa [hline, hmgmt, hframe] at hevent

/-- R94, R95: a beam that is judged against the band. -/
theorem judgeTrim_trimJudged (h1 : 1 ≤ i) (h6 : i ≤ 6) : s.trimJudged (judgeTrim i (s.withRecord i r (some i))) i r := by
  have hout : ∀ {below above : Prop}, (s.params.inBand r.ref = true ↔ ¬below ∧ ¬above) → below ∨ above →
      s.params.inBand r.ref = false := fun hiff hor => by
    rw [Bool.eq_false_iff, ne_eq, hiff]
    tauto
  have hiff := s.params.inBand_iff r.ref
  refine ⟨fun hbelow habove => judgeTrim_inBand h1 h6 (hiff.mpr ⟨hbelow, habove⟩),
    fun hbelow hsteps hdrive => ?_, fun habove hsteps hdrive => ?_, fun hlimit => ?_⟩
  · exact judgeTrim_steps h1 h6 (hout hiff (.inl hbelow)) ((Params.nextDrive_below hbelow).trans (if_pos hdrive)) hsteps
  · exact judgeTrim_steps h1 h6 (hout hiff (.inr habove)) ((Params.nextDrive_above habove).trans (if_pos hdrive)) hsteps
  · have hfailed : s.params.inBand r.ref = false ∧ (s.params.nextDrive r = none ∨ s.params.trimSteps ≤ r.steps) := by
      rcases hlimit with ⟨hbelow, hend⟩ | ⟨habove, hend⟩
      · refine ⟨hout hiff (.inl hbelow), hend.symm.imp_left fun hdrive => ?_⟩
        rw [Params.nextDrive_below hbelow, if_neg (by omega)]
      · refine ⟨hout hiff (.inr habove), hend.symm.imp_left fun hdrive => ?_⟩
        rw [Params.nextDrive_above habove, if_neg (by omega)]
    have heq := judgeTrim_fails (trim := some i) h1 h6 hfailed.1 hfailed.2
    refine ⟨fun hfault => ?_, fun hfault => ?_⟩
    · rw [heq, if_pos hfault]
      rfl
    · rw [heq, if_neg hfault]
      exact trimFault_facts _ i

/-! ### The trim under way and its interruption (R94, R96) -/

theorem judgeTrim_kept (i : Nat) (s : State) :
    (judgeTrim i s).beam.bodies = s.beam.bodies ∧ (judgeTrim i s).lane = s.lane
      ∧ ((judgeTrim i s).beam.trimBeam = none ∨ (judgeTrim i s).beam.trimBeam = s.beam.trimBeam) := by
  simp only [judgeTrim, trimSucceeds, trimFails, trimFault, trimStep]
  repeat' split
  all_goals simp [onRecord, State.onBeam, State.send]

theorem settleTrim_kept (i : Nat) (s : State) :
    (settleTrim i s).laneIdle = s.laneIdle
      ∧ ((settleTrim i s).beam.trimBeam = none ∨ (settleTrim i s).beam.trimBeam = s.beam.trimBeam) := by
  simp only [settleTrim]
  split
  · obtain ⟨hbodies, hlane, htrim⟩ := judgeTrim_kept i
      (onRecord i (fun r => { r with ref := r.level }) (onRecord i (fun r => { r with settle := r.settle + 1 }) s))
    refine ⟨?_, htrim⟩
    simp only [State.laneIdle, hbodies, hlane]
    rfl
  · exact ⟨rfl, .inr rfl⟩

theorem settleTrim_under (h1 : 1 ≤ i) (h6 : i ≤ 6) (h : (s.record i).settle + 1 < s.params.trimSettle) :
    settleTrim i s = s.withRecord i { s.record i with settle := (s.record i).settle + 1 } s.beam.trimBeam := by
  simp only [settleTrim, onRecord_eq_withRecord, withRecord_record h1 h6]
  exact if_neg (Nat.not_le.mpr h)

theorem settleTrim_ends (h1 : 1 ≤ i) (h6 : i ≤ 6) (h : s.params.trimSettle ≤ (s.record i).settle + 1) :
    settleTrim i s = judgeTrim i (s.withRecord i { s.record i with ref := (s.record i).level } s.beam.trimBeam) := by
  have hsettled : settleTrim i s = judgeTrim i (s.withRecord i
      { s.record i with settle := (s.record i).settle + 1, ref := (s.record i).level } s.beam.trimBeam) := by
    simp only [settleTrim, onRecord_eq_withRecord (s := s), withRecord_record h1 h6, onRecord_withRecord _ h1 h6]
    exact if_pos h
  rw [hsettled, ← judgeTrim_settle i (s.record i).settle, onRecord_withRecord _ h1 h6]

/-- R96: the interruption of a trim on beam `i`, in the state after it has met the set. -/
theorem interruptTest_eq (h : t.beam.trimBeam = none ∨ t.beam.trimBeam = some i) :
    interruptTest t = if t.laneIdle = true ∨ t.beam.trimBeam = none then t
      else t.withRecord i (interruptedRecord (t.beam.records.get i)) none := by
  rcases h with h | h
  · rw [if_pos (.inr h)]
    simp only [interruptTest, h]
  · simp only [interruptTest, h, reduceCtorEq, or_false]
    rfl

/-! ### The candidate (R93) -/

theorem Params.candidate_iff (q : Params) (r : BeamRecord) :
    q.candidate r = true ↔
      (r.state = .clear ∧ r.count = 0
        ∧ (r.ref + q.target * q.band / 128 < q.target ∨ q.target + q.target * q.band / 128 < r.ref))
      ∨ (r.state = .fault ∧ r.cause = some .trim ∧ r.tried = false) := by
  have hiff := q.inBand_iff r.ref
  simp only [Params.candidate, Bool.or_eq_true, Bool.and_eq_true, beq_iff_eq, Bool.not_eq_true']
  rw [← Bool.not_eq_true, hiff]
  tauto

theorem State.trimCandidate_eq_none (h : ∀ i, 1 ≤ i → i ≤ 6 → ¬s.params.candidate (s.record i) = true) : s.trimCandidate = none := by
  refine List.find?_eq_none.mpr fun i hi => h i ?_ ?_ <;> simp at hi <;> omega

theorem State.trimCandidate_eq_some (h1 : 1 ≤ i) (h6 : i ≤ 6) (h : s.params.candidate (s.record i) = true)
    (hfirst : ∀ j, 1 ≤ j → j < i → ¬s.params.candidate (s.record j) = true) : s.trimCandidate = some i := by
  refine (List.find?_range'_eq_some (s := 1) (n := 6)).mpr ⟨h, ?_, fun j hj hlt => ?_⟩
  · simp
    omega
  · rw [Bool.eq_false_iff.mpr (hfirst j hj hlt)]
    rfl

theorem State.laneIdle_iff (s : State) : s.laneIdle = true ↔
    s.beam.bodies = [] ∧ s.lane.credits = ⟨[], []⟩ ∧ s.lane.reserved = ⟨0, 0⟩ ∧ s.lane.tempo ≠ .brisk
      ∧ (s.lane.flap = .closed ∨ (s.lane.flap = .opened ∧ (s.lane.eff = .freeExit ∨ s.lane.eff = .fault))) := by
  have hcredits : s.lane.credits = ⟨[], []⟩ ↔ s.lane.credits.inbound = [] ∧ s.lane.credits.outbound = [] :=
    ⟨fun h => by simp [h], fun h => ByDir.ext_fields h.1 h.2⟩
  have hreserved : s.lane.reserved = ⟨0, 0⟩ ↔ s.lane.reserved.inbound = 0 ∧ s.lane.reserved.outbound = 0 :=
    ⟨fun h => by simp [h], fun h => ByDir.ext_fields h.1 h.2⟩
  simp only [State.laneIdle, Lane.noCredits, Bool.and_eq_true, Bool.or_eq_true, List.isEmpty_iff, beq_iff_eq, bne_iff_ne,
    Mode.holdsOpen_iff, hcredits, hreserved]
  tauto

theorem seekTrim_begins (htrim : s.beam.trimBeam = none) (hidle : s.laneIdle = true) (hc : s.trimCandidate = some i) :
    seekTrim s = judgeTrim i (s.withRecord i
      (if (s.record i).state = .fault then { s.record i with tried := true, steps := 0 }
        else { s.record i with state := .trimming, steps := 0 }) (some i)) := by
  simp only [seekTrim, if_pos (And.intro htrim hidle), hc, beginTrim, onRecord_eq_withRecord, onBeam_withRecord]

theorem seekTrim_of_none (h : s.beam.trimBeam ≠ none ∨ s.laneIdle = false ∨ s.trimCandidate = none) : seekTrim s = s := by
  unfold seekTrim
  split
  next hseek =>
    rcases h with h | h | h
    · exact absurd hseek.1 h
    · rw [hseek.2] at h
      cases h
    · simp only [h]
  · rfl

/-- R85: a sample set that answers the period's SAMPLE is processed. -/
theorem exec_sampleSet_taken {message : List Byte} {levels : Six Nat} (hr : s.pins.reset = false)
    (hp : parseSample message = some (s.beam.senseTag, levels)) (ha : s.beam.answered = false) :
    exec (.sampleSet message) s = .next (follow (processSample levels s)) := by
  rw [exec_sampleSet]
  refine effect_some rfl hr ?_
  simp only [hp, ha, and_self, if_true]

/-- Settles O48: the trim under way and the candidate both come to `judgeTrim`. -/
theorem trimRunsWhileTheLaneIsIdle : Obligations.TrimRunsWhileTheLaneIsIdle := by
  unfold Obligations.TrimRunsWhileTheLaneIsIdle
  refine ⟨fun message levels s hr hp ha => exec_sampleSet_taken hr hp ha, State.laneIdle_iff, fun s h => ?_,
    fun i r s h1 h6 htrim hr => ?_, fun s => ⟨fun h => ?_, fun i htrim hidle h1 h6 hc hfirst => ?_⟩⟩
  · simp only [advanceTrim, h]
  · subst hr
    have hadvance : advanceTrim s = interruptTest (settleTrim i s) := by simp only [advanceTrim, htrim]
    obtain ⟨hidle, hkept⟩ := settleTrim_kept i s
    have hinterrupt := interruptTest_eq (htrim ▸ hkept)
    rw [hidle] at hinterrupt
    refine ⟨fun hsettle => ?_, fun hsettle => ⟨settleTrim i s, hadvance.trans hinterrupt, ?_⟩⟩
    · rw [hadvance, hinterrupt, settleTrim_under h1 h6 hsettle]
      rfl
    · rw [settleTrim_ends h1 h6 hsettle, htrim]
      exact judgeTrim_trimJudged h1 h6
  · refine seekTrim_of_none (h.imp_right (Or.imp_right fun hnone => ?_))
    exact State.trimCandidate_eq_none fun i h1 h6 hc => hnone i h1 h6 ((Params.candidate_iff _ _).mp hc)
  · have hfound : s.trimCandidate = some i := State.trimCandidate_eq_some h1 h6 ((Params.candidate_iff _ _).mpr hc)
      fun j hj hlt hcj => hfirst j hj hlt ((Params.candidate_iff _ _).mp hcj)
    simp only
    rw [seekTrim_begins htrim hidle hfound]
    exact judgeTrim_trimJudged h1 h6

end Sys2Proof.Machine

/-! PROOFS. What an operation can cost the journal and the line: how many further records it writes, that JOURNAL_OVERFLOW stays,
and that nothing is sent while BEAM_FAULT alone is on (R147, R154, R195). -/

namespace Sys2Proof.Machine

open Sys2Proof

/-- From `s` to `t` at most `n` free slots are taken, JOURNAL_OVERFLOW stays set, and no event of another kind than BEAM_FAULT and no
other frame is made. -/
structure Spends (n : Nat) (s t : State) : Prop where
  free : s.journal.free ≤ t.journal.free + n
  overflow : s.journal.overflow = true → t.journal.overflow = true
  quiet : s.params.beamEventsOnly → t.line = s.line ∧ t.mgmt = s.mgmt
  params : t.params = s.params

namespace Spends

variable {n k : Nat} {s t u : State}

@[refl] theorem refl (s : State) : Spends 0 s s := ⟨Nat.le_refl _, id, fun _ => ⟨rfl, rfl⟩, rfl⟩

theorem trans (h : Spends n s t) (hk : Spends k t u) : Spends (n + k) s u where
  free := by have := h.free; have := hk.free; omega
  overflow := hk.overflow ∘ h.overflow
  quiet hq := by
    obtain ⟨hline, hmgmt⟩ := hk.quiet (by rw [h.params]; exact hq)
    exact ⟨hline.trans (h.quiet hq).1, hmgmt.trans (h.quiet hq).2⟩
  params := hk.params.trans h.params

/-- What leaves the journal, the line and the Management Unit alone. -/
theorem keeping (h : Spends n s t) (hj : u.journal = t.journal) (hl : u.line = t.line) (hm : u.mgmt = t.mgmt)
    (hq : u.params = t.params) : Spends n s u :=
  h.trans (k := 0) ⟨by rw [hj]; exact Nat.le_refl _, fun ho => hj ▸ ho, fun _ => ⟨hl, hm⟩, hq⟩

theorem mono (h : Spends n s t) (hle : n ≤ k) : Spends k s t := { h with free := h.free.trans (by omega) }

end Spends

section
variable {n : Nat} {s t : State} {p : Port} {d : Direction} {c : Content}

/-! ### Records -/

theorem appendRecord_spends {take : Journal → Journal} (hrecords : ∀ j, (take j).records = j.records)
    (hheld : ∀ j, (take j).held ≤ j.held) (hreserved : ∀ j, (take j).reserved ≤ j.reserved)
    (hover : ∀ j, (take j).overflow = j.overflow) (h : Spends n s t) : Spends (n + 1) s (appendRecord take c t) := by
  refine h.trans ⟨?_, fun ho => ?_, fun hq => appendRecord_of_beamEventsOnly hq, by simp⟩
  · obtain ⟨hlen, hheld', hreserved'⟩ := appendRecord_used take c t
    have := hheld t.journal
    have := hreserved t.journal
    simp only [Journal.free, hlen, hheld', hreserved', hrecords]
    omega
  · rw [appendRecord_journal]
    exact (hover t.journal).trans ho

theorem appendReserved_spends (h : Spends n s t) : Spends (n + 1) s (appendReserved c t) :=
  appendRecord_spends (fun _ => rfl) (fun _ => Nat.le_refl _) (fun _ => Nat.sub_le ..) (fun _ => rfl) h

theorem appendReserve_spends (h : Spends n s t) : Spends (n + 1) s (appendReserve c t) := by
  unfold appendReserve
  split
  · exact appendRecord_spends (fun _ => rfl) (fun _ => Nat.le_refl _) (fun _ => Nat.le_refl _) (fun _ => rfl) h
  · have hset : Spends 0 t (setJournalOverflow t) := ⟨Nat.le_refl _, fun _ => rfl, fun _ => ⟨rfl, rfl⟩, rfl⟩
    exact (h.trans hset).mono (Nat.le_succ n)

theorem appendOpenRefusal_spends (h : Spends n s t) : Spends (n + 1) s (appendOpenRefusal c t) := by
  unfold appendOpenRefusal
  split
  · exact appendRecord_spends (fun _ => rfl) (fun _ => Nat.le_refl _) (fun _ => Nat.le_refl _) (fun _ => rfl) h
  · exact h.mono (Nat.le_succ n)

/-- R154: with no slot free a reserve record is dropped with JOURNAL_OVERFLOW set. -/
theorem appendReserve_overflow (h : t.journal.free = 0) : (appendReserve c t).journal.overflow = true := by
  rw [appendReserve_of_full h]

/-! ### Credits -/

theorem lapse_spends {x : Credit} {r : LapseReason} (h : Spends n s t) : Spends (n + 1) s (lapse d x r t) := by
  unfold lapse
  refine Spends.keeping (t := appendReserve (lapseContent x r) (lapseReport x.cardId d (t.onLane (Lane.dropLapsed d x)))) ?_
    (by simp) (by simp) (by simp) (by simp)
  exact appendReserve_spends (h.keeping (by simp) (by simp) (by simp) (by simp))

theorem foldl_lapse_spends {r : LapseReason} {l : List Credit} (h : Spends n s t) :
    Spends (n + l.length) s (l.foldl (fun t c => lapse d c r t) t) := by
  induction l generalizing n t with
  | nil => exact h
  | cons c l ih => exact (ih (lapse_spends h)).mono (by simp only [List.length_cons]; omega)

theorem flushOnLeaving_spends {left new : Mode} (h : Spends n s t) :
    Spends (n + t.lane.credits.inbound.length + t.lane.credits.outbound.length) s (flushOnLeaving left new t) := by
  unfold flushOnLeaving
  split
  · have hout : (flush .inbound t).lane.credits.get .outbound = t.lane.credits.outbound := by
      rw [flush_credits]
      rfl
    exact (foldl_lapse_spends (foldl_lapse_spends h)).mono (by rw [← hout]; exact Nat.le_refl _)
  · exact h.mono (by omega)

/-! ### Refusals -/

theorem dropJournalRes_spends (h : Spends n s t) : Spends n s (dropJournalRes p t) := by
  refine (h.trans (k := 0) ⟨?_, fun ho => ?_, fun _ => by simp, by simp⟩)
  · simp only [dropJournalRes, releaseJournal, Journal.free, State.onJournal, State.onCtx, State.onDialog]
    omega
  · exact ho

theorem refusalRecord_spends {code : RefusalCode} (h : Spends n s t) : Spends (n + 1) s (refusalRecord p code t) := by
  unfold refusalRecord
  dsimp only
  repeat' split
  · exact (dropJournalRes_spends h).mono (Nat.le_succ n)
  · exact appendOpenRefusal_spends h
  · exact dropJournalRes_spends (appendReserved_spends (h.keeping rfl rfl rfl rfl))

theorem refuse_unmarked_spends {code : RefusalCode} {amount : Option Nat} (h : Spends n s t) :
    Spends (n + 1) s (refuse p code false amount t) := by
  have hrecord : Spends (n + 1) s (refusalRecord p code (dropCreditRes p t)) :=
    refusalRecord_spends (h.keeping (by simp) (by simp) (by simp) (by simp))
  exact hrecord.keeping (by simp [refuse]) (by simp [refuse]) (by simp [refuse]) (by simp [refuse])

theorem refuseByMode_spends {m : Mode} (h : Spends n s t) : Spends (n + 1) s (refuseByMode m p t) := by
  unfold refuseByMode
  split
  · exact refuse_unmarked_spends (h.keeping rfl rfl rfl rfl)
  · exact h.mono (Nat.le_succ n)

theorem dialogsTold_spends {m : Mode} (h : Spends n s t) : Spends (n + 2) s (dialogsTold m t) :=
  refuseByMode_spends (refuseByMode_spends h)

/-! ### The mode -/

theorem reportMode_spends {m : Mode} (h : Spends n s t) : Spends (n + 1) s (reportMode m t) := by
  have hrecord : Spends (n + 1) s (appendReserve (modeContent m t.lane.countOfMode) (t.onLane fun l => { l with eff := m })) :=
    appendReserve_spends (h.keeping rfl rfl rfl rfl)
  refine hrecord.trans (k := 0) ⟨by simp [reportMode], fun ho => by simpa [reportMode] using ho, fun hq => ?_, by simp [reportMode]⟩
  have hsilent : ∀ u : State, u.params.beamEventsOnly → event (.modeChange t.lane.eff m t.lane.countOfMode) u = u := fun u hu =>
    event_of_off (by rw [hu.getLsbD]; rfl)
  rw [reportMode, hsilent _ hq]
  exact ⟨rfl, rfl⟩

/-- R136: what follows the report of a change of mode. -/
theorem afterReport_spends {left m : Mode} (h : Spends n s t) :
    Spends (n + t.lane.credits.inbound.length + t.lane.credits.outbound.length + 2) s
      (closeTest (openTest (dialogsTold m (freshCount m (flushOnLeaving left m t))))) := by
  have hfresh : Spends (n + t.lane.credits.inbound.length + t.lane.credits.outbound.length) s
      (freshCount m (flushOnLeaving left m t)) := by
    unfold freshCount
    split
    · exact (flushOnLeaving_spends h).keeping rfl rfl rfl rfl
    · exact flushOnLeaving_spends h
  exact (dialogsTold_spends (m := m) hfresh).keeping (by simp) (by simp) (by simp) (by simp)

theorem deriveMode_spends (h : Spends n s t) :
    Spends (n + t.lane.credits.inbound.length + t.lane.credits.outbound.length + 3) s (deriveMode t) := by
  unfold deriveMode
  split
  · exact h.mono (by omega)
  · have hafter := afterReport_spends (left := t.lane.eff) (m := t.lane.derived) (reportMode_spends (m := t.lane.derived) h)
    rw [reportMode_lane_eq] at hafter
    exact hafter.mono (by simp only; omega)

theorem faultReport_spends {k : Nat} (h : Spends n s t) :
    Spends (n + t.lane.credits.inbound.length + t.lane.credits.outbound.length + 3) s (faultReport k t) :=
  deriveMode_spends (t := t.onLane fun l => { l with faultBeams := k }) (h.keeping rfl rfl rfl rfl)

end

end Sys2Proof.Machine

/-! PROOFS. The sensor port (section 5.1): the period that is missed, the silence, the sample set that is taken, the anomaly. -/

namespace Sys2Proof.Machine

open Sys2Proof

variable {s t u : State} {i : Nat} {levels : Six Nat}

/-! ### Six values -/

theorem Six.get_put_cases {α : Type} (x : Six α) (i j : Nat) (v : α) :
    (x.put i v).get j = x.get j ∨ ((x.put i v).get j = v ∧ x.get i = x.get j) := by
  unfold Six.put
  split <;> unfold Six.get <;> split <;> simp

theorem Six.ext_get {α : Type} {x y : Six α} (h : ∀ i, x.get i = y.get i) : x = y := by
  cases x
  cases y
  have h1 := h 1
  have h2 := h 2
  have h3 := h 3
  have h4 := h 4
  have h5 := h 5
  have h6 := h 6
  simp_all [Six.get]

theorem Six.map_map {α β γ : Type} (g : β → γ) (f : α → β) (x : Six α) : (x.map f).map g = x.map fun a => g (f a) := rfl

theorem Six.forall_of_map {α β γ : Type} {g : α → γ} {f : β → γ} {x : Six α} {y : Six β} {P : γ → Prop}
    (h : x.map g = y.map f) (hf : ∀ b, P (f b)) : ∀ a ∈ x.toList, P (g a) := by
  intro a ha
  have hmem : g a ∈ (x.map g).toList := by
    simp only [Six.toList, Six.map, List.mem_cons, List.not_mem_nil, or_false] at ha ⊢
    rcases ha with rfl | rfl | rfl | rfl | rfl | rfl <;> simp
  rw [h] at hmem
  obtain ⟨b, -, hb⟩ := Six.mem_map hmem
  exact hb ▸ hf b

theorem Six.map_join_right {α β γ : Type} {f : α → β → γ} {g : γ → β} (h : ∀ a b, g (f a b) = b) (x : Six α) (y : Six β) :
    (x.join f y).map g = y := by simp [Six.join, Six.map, h]

/-! ### A missed period (R85, R86) -/

theorem silencedRecord_fault (r : BeamRecord) :
    (silencedRecord r).state = .fault ∧ (silencedRecord r).steps = 0 ∧ (silencedRecord r).settle = 0 := by
  unfold silencedRecord
  split
  next h => exact ⟨h, rfl, rfl⟩
  next => exact ⟨rfl, rfl, rfl⟩

theorem silencedRecord_kept (r : BeamRecord) :
    ((silencedRecord r).cause, (silencedRecord r).level, (silencedRecord r).ref, (silencedRecord r).drive, (silencedRecord r).count)
      = (if r.state = .fault then r.cause else some .silent, r.level, r.ref, r.drive, r.count) := by
  unfold silencedRecord
  split
  next h => rfl
  next h => rfl

/-- R86: the beams at the silence. -/
def Beams.silenced (b : Beams) : Beams :=
  { b with silent := true, trimBeam := none, records := b.records.map silencedRecord, bodies := [] }

theorem Beams.silenced_faults (b : Beams) : b.silenced.faults = 6 := by
  simp [Beams.faults, Beams.silenced, Six.toList, Six.map, silencedRecord_fault]

/-- The beams not in FAULT are those that the silence brings into it. -/
theorem Beams.faults_compl (b : Beams) : 6 - b.faults = b.records.toList.countP fun r => decide (r.state ≠ .fault) := by
  have hsum := List.length_eq_countP_add_countP (fun r : BeamRecord => r.state == .fault) (l := b.records.toList)
  have hlen : b.records.toList.length = 6 := rfl
  have hnot : (b.records.toList.countP fun r => decide ¬(r.state == BeamState.fault) = true)
      = b.records.toList.countP fun r => decide (r.state ≠ .fault) := by
    congr 1
    funext r
    simp
  simp only [Beams.faults]
  omega

/-- R86, R134: the lane at the silence, before its own record: the grant is tested, and the count reported. -/
def silenceReported (s : State) : State :=
  let u := releaseTest (s.onBeam Beams.silenced)
  if u.beam.faults = u.lane.faultBeams then u else faultReport u.beam.faults u

/-- R86: the record of the silence. -/
def silenceContent (b : Beams) : Content :=
  { kind := .fault, direction := none, reason := some (.fault .sensorSilent), count := some (6 - b.faults) }

theorem fallSilent_eq (s : State) :
    fallSilent s = event (.beamFault 0) (appendReserve (silenceContent s.beam) (silenceReported s)) := rfl

theorem silenceReported_beam (s : State) : (silenceReported s).beam = s.beam.silenced := by
  simp only [silenceReported]
  split <;> simp

theorem silenceReported_spends (s : State) :
    Spends (s.lane.credits.inbound.length + s.lane.credits.outbound.length + 3) s (silenceReported s) := by
  have htest : Spends 0 s (releaseTest (s.onBeam Beams.silenced)) :=
    (Spends.refl s).keeping (by simp) (by simp) (by simp) (by simp)
  simp only [silenceReported]
  split
  · exact htest.mono (by omega)
  · exact (faultReport_spends htest).mono (by simp)

/-- R134, R135: six faulty beams make the mode FAULT, or leave EMERGENCY its FREE_EXIT. -/
theorem silenceReported_lane (h : s.lane.modeDerived) :
    (silenceReported s).lane.faultBeams = 6
      ∧ (silenceReported s).lane.eff = if s.lane.emergency then .freeExit else .fault := by
  have hfaults : (releaseTest (s.onBeam Beams.silenced)).beam.faults = 6 := by
    rw [(releaseTest_frame _).2.2.2.1]
    exact s.beam.silenced_faults
  simp only [silenceReported, hfaults]
  split
  next hsix =>
    rw [(releaseTest_lane _).2.2.2.2.2] at hsix ⊢
    have hsix' : s.lane.faultBeams = 6 := hsix.symm
    refine ⟨hsix', ?_⟩
    rw [(releaseTest_lane _).2.1]
    show s.lane.eff = _
    rw [h.2]
    simp [Lane.derived, hsix']
  next => simp [faultReport, Lane.derived]

theorem missPeriod_counts (ha : s.beam.answered = false) (h : s.beam.missed + 1 < 8 ∨ s.beam.silent = true) :
    missPeriod s = s.onBeam fun b => { b with missed := min 8 (s.beam.missed + 1) } := by
  simp only [missPeriod, ha, Bool.false_eq_true, if_false]
  refine if_neg fun hfall => ?_
  obtain ⟨hlimit, hsilent⟩ := hfall
  rcases h with h | h
  · simp only [Config.missedLimit] at hlimit
    omega
  · rw [show s.beam.silent = false from hsilent] at h
    cases h

theorem missPeriod_fallSilent (ha : s.beam.answered = false) (h : 8 ≤ s.beam.missed + 1) (hsilent : s.beam.silent = false) :
    missPeriod s = fallSilent (s.onBeam fun b => { b with missed := 8 }) := by
  have hmin : min Config.missedLimit (s.beam.missed + 1) = 8 := Nat.min_eq_left h
  simp only [missPeriod, ha, Bool.false_eq_true, if_false]
  rw [if_pos ⟨hmin, hsilent⟩, hmin]

theorem exec_sampleTimerExpiry_due (hr : s.pins.reset = false) (h : s.beam.sampleTimer = some 0) :
    exec .sampleTimerExpiry s = .next (follow (sendSample (missPeriod s))) := by
  rw [exec_sampleTimerExpiry]
  refine effect_some rfl hr (if_pos ?_)
  rw [h]
  rfl

/-- R86, R134, R195: what the silence, and the SAMPLE after it, leave. -/
theorem sendSample_fallSilent (s : State) :
    let t := follow (sendSample (fallSilent s))
    t.beam.silent = true ∧ t.beam.missed = s.beam.missed ∧ t.beam.bodies = [] ∧ t.beam.trimBeam = none
      ∧ (∀ r ∈ t.beam.records.toList, r.state = .fault ∧ r.steps = 0 ∧ r.settle = 0)
      ∧ t.beam.records.map (fun r => (r.cause, r.level, r.ref, r.drive, r.count)) = s.beam.records.map (fun r =>
        (if r.state = .fault then r.cause else some .silent, r.level, r.ref, r.drive, r.count))
      ∧ t.beam.senseTag = nextTag s.beam.senseTag ∧ t.sent.head? = some (.sample (nextTag s.beam.senseTag))
      ∧ (s.lane.modeDerived → t.lane.faultBeams = 6 ∧ t.lane.eff = if s.lane.emergency then .freeExit else .fault)
      ∧ (s.lane.credits.inbound.length + s.lane.credits.outbound.length + 4 ≤ s.journal.free →
        t.journal.records.getLast?.map Record.content = some (silenceContent s.beam))
      ∧ (s.params.beamEventsOnly → t.mgmt.eventNo = (s.mgmt.eventNo + 1) % 65536
        ∧ (s.line.link.up = true → s.line.held = [] → s.line.count .own < 4 →
          t.line.localQ.up = s.line.localQ.up ++ [⟨s.eventFrame (.beamFault 0), .own, false⟩])) := by
  have hbeam : (fallSilent s).beam = s.beam.silenced := by
    rw [fallSilent_eq, (event_frame _ _).2.2.2.1, (appendReserve_frame _ _).2.2.2.1, silenceReported_beam]
  have hspends := silenceReported_spends s
  have hrecords : ∀ {α : Type} (g : BeamRecord → α), (∀ r, g { r with tried := false } = g r) →
      (follow (sendSample (fallSilent s))).beam.records.map g = s.beam.records.map fun r => g (silencedRecord r) := by
    intro α g hg
    rw [follow_records g hg]
    simp only [sendSample, State.send, State.onBeam, hbeam, Beams.silenced, Six.map_map]
  refine ⟨?_, ?_, ?_, ?_, ?_, ?_, ?_, ?_, fun hmode => ?_, fun hfree => ?_, fun hmask => ?_⟩
  · simp [sendSample, State.onBeam, State.send, hbeam, Beams.silenced]
  · simp [sendSample, State.onBeam, State.send, hbeam, Beams.silenced]
  · simp [sendSample, State.onBeam, State.send, hbeam, Beams.silenced]
  · simp [sendSample, State.onBeam, State.send, hbeam, Beams.silenced]
  · exact Six.forall_of_map (P := fun x : BeamState × Nat × Nat => x.1 = .fault ∧ x.2.1 = 0 ∧ x.2.2 = 0)
      (hrecords (fun r => (r.state, r.steps, r.settle)) fun _ => rfl) silencedRecord_fault
  · rw [hrecords _ fun _ => rfl]
    simp only [silencedRecord_kept]
  · simp [sendSample, State.onBeam, State.send, hbeam, Beams.silenced]
  · simp [sendSample, State.onBeam, State.send, hbeam, Beams.silenced]
  · have hlane : (follow (sendSample (fallSilent s))).lane.faultBeams = (silenceReported s).lane.faultBeams
        ∧ (follow (sendSample (fallSilent s))).lane.eff = (silenceReported s).lane.eff := by simp [fallSilent_eq]
    rw [hlane.1, hlane.2]
    exact silenceReported_lane hmode
  · have hroom : 1 ≤ (silenceReported s).journal.free := by
      have := hspends.free
      omega
    simp [fallSilent_eq, hroom, State.recordOf]
  · have hreported : (silenceReported s).params.beamEventsOnly := by rw [hspends.params]; exact hmask
    obtain ⟨hline, hmgmt⟩ := hspends.quiet hmask
    obtain ⟨hline', hmgmt'⟩ := appendReserve_of_beamEventsOnly (c := silenceContent s.beam) hreported
    have hevent := beamFault_event (s := appendReserve (silenceContent s.beam) (silenceReported s)) (by simpa using hreported) 0
    have hframe : (appendReserve (silenceContent s.beam) (silenceReported s)).eventFrame (.beamFault 0) = s.eventFrame (.beamFault 0) := by
      simp only [State.eventFrame, State.clock, State.stamp, hline', hmgmt', hline, hmgmt] <;> rfl
    rw [hline', hmgmt', hline, hmgmt, hframe] at hevent
    simpa [fallSilent_eq] using hevent

/-! ### The trim keeps levels (R88, R94, R96) -/

/-- What the trim does to the beams' records as far as levels and references go: no level changes, and a Ref stays or takes its
beam's Level. The sensor port and the bodies stand. -/
structure Trims (s t : State) : Prop where
  level : ∀ j, (t.record j).level = (s.record j).level
  ref : ∀ j, (t.record j).ref = (s.record j).ref ∨ (t.record j).ref = (s.record j).level
  beam : t.beam = { s.beam with records := t.beam.records, trimBeam := t.beam.trimBeam }

namespace Trims

@[refl] theorem refl (s : State) : Trims s s := ⟨fun _ => rfl, fun _ => .inl rfl, rfl⟩

theorem trans (h : Trims s t) (k : Trims t u) : Trims s u where
  level j := (k.level j).trans (h.level j)
  ref j := by
    have := h.level j
    have := h.ref j
    have := k.ref j
    grind
  beam := by rw [k.beam, h.beam]

theorem keeping (h : Trims s t) (hb : u.beam = t.beam) : Trims s u :=
  h.trans ⟨fun j => by rw [State.record, hb]; rfl, fun j => .inl (by rw [State.record, hb]; rfl), by rw [hb]⟩

theorem withTrim (h : Trims s t) (trim : Option Nat) : Trims s (t.onBeam fun b => { b with trimBeam := trim }) :=
  h.trans ⟨fun _ => rfl, fun _ => .inl rfl, rfl⟩

end Trims

theorem onRecord_trims {f : BeamRecord → BeamRecord} (h : Trims s t) (hlevel : ∀ r, (f r).level = r.level)
    (href : ∀ r, (f r).ref = r.ref ∨ (f r).ref = r.level) : Trims s (onRecord i f t) := by
  refine h.trans ⟨fun j => ?_, fun j => ?_, rfl⟩
  · rcases Six.get_put_cases t.beam.records i j (f (t.beam.records.get i)) with hj | ⟨hj, hij⟩
    · exact congrArg BeamRecord.level hj
    · exact (congrArg BeamRecord.level hj).trans ((hlevel _).trans (congrArg BeamRecord.level hij))
  · rcases Six.get_put_cases t.beam.records i j (f (t.beam.records.get i)) with hj | ⟨hj, hij⟩
    · exact .inl (congrArg BeamRecord.ref hj)
    · exact (href _).imp (fun h => (congrArg BeamRecord.ref hj).trans (h.trans (congrArg BeamRecord.ref hij)))
        fun h => (congrArg BeamRecord.ref hj).trans (h.trans (congrArg BeamRecord.level hij))

/-- A change of a record that leaves its Level and its Ref. -/
theorem onRecord_trims_kept {f : BeamRecord → BeamRecord} (h : Trims s t) (hlevel : ∀ r, (f r).level = r.level)
    (href : ∀ r, (f r).ref = r.ref) : Trims s (onRecord i f t) := onRecord_trims h hlevel fun r => .inl (href r)

theorem judgeTrim_trims (h : Trims s t) : Trims s (judgeTrim i t) := by
  have hfails : Trims s (trimFails i t) := by
    simp only [trimFails]
    split
    · refine onRecord_trims_kept (h.withTrim none) ?_ ?_ <;> exact fun _ => rfl
    · refine Trims.keeping (t := onRecord i (fun r => { r with state := .fault, cause := some .trim, settle := 0 })
        (t.onBeam fun b => { b with trimBeam := none })) ?_ (by simp [trimFault])
      refine onRecord_trims_kept (h.withTrim none) ?_ ?_ <;> exact fun _ => rfl
  simp only [judgeTrim]
  repeat' split
  · refine Trims.withTrim (onRecord_trims_kept h ?_ ?_) none <;> exact fun _ => rfl
  next drive _ _ =>
    refine Trims.keeping (t := onRecord i (fun r => { r with drive := drive, steps := r.steps + 1, settle := 0 }) t) ?_ rfl
    refine onRecord_trims_kept h ?_ ?_ <;> exact fun _ => rfl
  · exact hfails
  · exact hfails

theorem advanceTrim_trims (h : Trims s t) : Trims s (advanceTrim t) := by
  have hsettle : ∀ i, Trims s (settleTrim i t) := fun i => by
    have hcount := onRecord_trims_kept (i := i) (f := fun r => { r with settle := r.settle + 1 }) h (fun _ => rfl) fun _ => rfl
    simp only [settleTrim]
    split
    · refine judgeTrim_trims (onRecord_trims hcount ?_ ?_)
      · exact fun _ => rfl
      · exact fun _ => .inr rfl
    · exact hcount
  unfold advanceTrim
  split
  next i _ =>
    unfold interruptTest
    split
    · split
      · exact hsettle i
      · refine (onRecord_trims (hsettle i) (fun r => ?_) fun r => ?_).withTrim none <;> unfold interruptedRecord <;> split
        · rfl
        · rfl
        · exact .inr rfl
        · exact .inl rfl
    · exact hsettle i
  next => exact h

theorem seekTrim_trims (h : Trims s t) : Trims s (seekTrim t) := by
  unfold seekTrim
  repeat' split
  next i _ =>
    refine judgeTrim_trims ((onRecord_trims_kept h (fun r => ?_) fun r => ?_).withTrim (some i)) <;> split <;> rfl
  all_goals exact h

/-! ### A sample set that is taken (R85, R88, R91) -/

theorem takeReport_beam (s : State) (r : Report) : (takeReport s r).beam = s.beam := by
  cases r <;> simp [takeReport]

/-- R98: of the beams the view changes the bodies alone. -/
theorem takeView_beam (s : State) :
    (takeView s).beam = { s.beam with bodies := (matchView s.now s.beam.bodies (runsOf s.beam.view)).bodies.map Prod.snd } :=
  foldl_frame State.beam takeReport takeReport_beam _ _

/-- The state whose beams have been sampled by a set that is taken. -/
def State.sampledBy (s : State) (levels : Six Nat) : State := s.onBeam fun b => b.received.sampled s.params levels

theorem sampledBy_levels (s : State) (levels : Six Nat) : (s.sampledBy levels).beam.records.map BeamRecord.level = levels := by
  simp only [State.sampledBy, State.onBeam, Beams.sampled]
  split
  · exact Six.map_join_right (fun _ _ => rfl) _ _
  · exact Six.map_join_right (fun r l => (sampleBeam_frame s.params r l).1) _ _

theorem sampledBy_port (s : State) (levels : Six Nat) :
    (s.sampledBy levels).beam = { s.beam with
      records := (s.sampledBy levels).beam.records, missed := 0, answered := true, silent := false, acquiring := false } := by
  simp only [State.sampledBy, State.onBeam, Beams.sampled]
  split
  · rfl
  next h =>
    have hacquired : s.beam.acquiring = false := Bool.eq_false_iff.mpr h
    simp only [Beams.received, hacquired]

theorem sampledBy_acquired (levels : Six Nat) (h : s.beam.acquiring = true) :
    (s.sampledBy levels).beam.records.map BeamRecord.ref = levels := by
  have hacquire : s.beam.received.acquiring = true := h
  simp only [State.sampledBy, State.onBeam, Beams.sampled, hacquire, if_true]
  exact Six.map_join_right (fun _ _ => rfl) _ _

theorem sampledBy_records (levels : Six Nat) (ha : s.beam.acquiring = false) (hs : s.beam.silent = false) :
    (s.sampledBy levels).beam.records = s.beam.records.join (sampleBeam s.params) levels := by
  have hacquired : s.beam.received.acquiring = false := ha
  simp only [State.sampledBy, State.onBeam, Beams.sampled, hacquired, Bool.false_eq_true, if_false]
  simp only [Beams.received, hs, Bool.false_eq_true, if_false]

/-- R88: what a processed sample set leaves of the beams. -/
theorem processSample_beams (s : State) (levels : Six Nat) :
    let t := follow (processSample levels s)
    t.beam.records.map BeamRecord.level = levels
      ∧ t.beam.missed = 0 ∧ t.beam.answered = true ∧ t.beam.silent = false ∧ t.beam.acquiring = false
      ∧ t.beam.senseTag = s.beam.senseTag ∧ t.beam.sampleTimer = s.beam.sampleTimer
      ∧ (s.beam.acquiring = true → t.beam.records.map BeamRecord.ref = levels) := by
  have htrims : Trims (s.sampledBy levels) (seekTrim (advanceTrim (s.sampledBy levels))) :=
    seekTrim_trims (advanceTrim_trims (Trims.refl _))
  have hview : (processSample levels s).beam = { (seekTrim (advanceTrim (s.sampledBy levels))).beam with
      bodies := (processSample levels s).beam.bodies } := by
    rw [processSample, takeView_beam] <;> rfl
  have hrecords : (processSample levels s).beam.records = (seekTrim (advanceTrim (s.sampledBy levels))).beam.records := by rw [hview]
  have hlevel : (follow (processSample levels s)).beam.records.map BeamRecord.level = levels := by
    rw [follow_records _ fun _ => rfl, hrecords]
    refine Eq.trans ?_ (sampledBy_levels s levels)
    exact Six.ext_get fun i => by rw [Six.get_map, Six.get_map]; exact htrims.level i
  have hport := sampledBy_port s levels
  have hfield : ∀ {α : Type} (g : Beams → α), (∀ b l, g { b with bodies := l } = g b) →
      (∀ b x i, g { b with records := x, trimBeam := i } = g b) →
      g (processSample levels s).beam = g (s.sampledBy levels).beam := fun g hbodies htrim =>
    (congrArg g hview).trans ((hbodies ..).trans ((congrArg g htrims.beam).trans (htrim ..)))
  have hrest := follow_beamRest (processSample levels s)
  obtain ⟨-, htag, hmissed, hsilent, -, hacquired, htimer, hanswered⟩ := hrest
  refine ⟨hlevel, hmissed.trans ?_, hanswered.trans ?_, hsilent.trans ?_, hacquired.trans ?_, htag.trans ?_, htimer.trans ?_,
    fun hacquire => ?_⟩
  · exact (hfield Beams.missed (fun _ _ => rfl) fun _ _ _ => rfl).trans (congrArg Beams.missed hport)
  · exact (hfield Beams.answered (fun _ _ => rfl) fun _ _ _ => rfl).trans (congrArg Beams.answered hport)
  · exact (hfield Beams.silent (fun _ _ => rfl) fun _ _ _ => rfl).trans (congrArg Beams.silent hport)
  · exact (hfield Beams.acquiring (fun _ _ => rfl) fun _ _ _ => rfl).trans (congrArg Beams.acquiring hport)
  · exact (hfield Beams.senseTag (fun _ _ => rfl) fun _ _ _ => rfl).trans (by rw [hport])
  · exact (hfield Beams.sampleTimer (fun _ _ => rfl) fun _ _ _ => rfl).trans (by rw [hport])
  · rw [follow_records _ fun _ => rfl, hrecords]
    refine Six.ext_get fun i => ?_
    have href := congrArg (fun x => Six.get x i) (sampledBy_acquired levels hacquire)
    have hlev := congrArg (fun x => Six.get x i) (sampledBy_levels s levels)
    simp only [Six.get_map] at href hlev
    rw [Six.get_map]
    exact (htrims.ref i).elim (·.trans href) (·.trans hlev)

/-- R88, R93: a sample set that no trim meets, while the lane is not idle, judges each beam alone. -/
theorem processSample_judges (ha : s.beam.acquiring = false) (hs : s.beam.silent = false) (htrim : s.beam.trimBeam = none)
    (hidle : s.laneIdle = false) :
    (processSample levels s).beam.records = s.beam.records.join (sampleBeam s.params) levels := by
  have hport := sampledBy_port s levels
  have hnone : (s.sampledBy levels).beam.trimBeam = none := by rw [hport]; exact htrim
  have hbusy : (s.sampledBy levels).laneIdle = false := by
    have hbodies : (s.sampledBy levels).beam.bodies = s.beam.bodies := by rw [hport]
    rw [← hidle, State.laneIdle, hbodies] <;> rfl
  have hadvance : advanceTrim (s.sampledBy levels) = s.sampledBy levels := by simp only [advanceTrim, hnone]
  have hview : (processSample levels s).beam.records = (seekTrim (advanceTrim (s.sampledBy levels))).beam.records := by
    rw [processSample, takeView_beam] <;> rfl
  rw [hview, hadvance, seekTrim_of_none (.inr (.inl hbusy)), sampledBy_records levels ha hs]

theorem exec_sampleSet_refused {message : List Byte} (hr : s.pins.reset = false)
    (h : parseSample message = none ∨ s.beam.answered = true
      ∨ ∃ tag levels, parseSample message = some (tag, levels) ∧ tag ≠ s.beam.senseTag) :
    exec (.sampleSet message) s = .next s := by
  rw [exec_sampleSet]
  refine effect_none rfl hr ?_
  rcases hp : parseSample message with _ | ⟨tag, levels⟩
  · rfl
  · refine if_neg fun hok => ?_
    rcases h with h | h | ⟨tag', levels', h, hne⟩
    · rw [hp] at h
      cases h
    · rw [hok.2] at h
      cases h
    · rw [hp] at h
      cases h
      exact hne hok.1

/-! ### The anomaly (R106) -/

theorem markReported_first {now : Nat} {older younger : List Body} {b : Body}
    (hnone : ∀ y ∈ older, ¬(y.origin = .middle ∧ y.reported = false ∧ y.since + 2000 ≤ now))
    (hb : b.origin = .middle ∧ b.reported = false ∧ b.since + 2000 ≤ now) :
    markReported now (older ++ b :: younger) = older ++ { b with reported := true } :: younger := by
  induction older with
  | nil => exact if_pos hb
  | cons y ys ih =>
    have htail := ih fun z hz => hnone z (List.mem_cons_of_mem y hz)
    rw [List.cons_append, markReported, if_neg (hnone y List.mem_cons_self), htail, List.cons_append]

theorem exec_anomaly_due {older younger : List Body} {b : Body} (hr : s.pins.reset = false)
    (hbodies : s.beam.bodies = older ++ b :: younger)
    (hnone : ∀ y ∈ older, ¬(y.origin = .middle ∧ y.reported = false ∧ y.since + 2000 ≤ s.now))
    (hb : b.origin = .middle ∧ b.reported = false ∧ b.since + 2000 ≤ s.now) :
    exec .anomaly s = .next (follow (intrusion none .anomaly
      (s.onBeam fun x => { x with bodies := older ++ { b with reported := true } :: younger }))) := by
  rw [exec_anomaly]
  refine effect_some rfl hr ?_
  have hdue : s.anomalyDue = true := by
    simp only [State.anomalyDue, List.any_eq_true]
    exact ⟨b, by simp [hbodies], by simp [hb.1, hb.2.1, hb.2.2, Config.anomalyAge]⟩
  rw [if_pos hdue]
  simp only [State.onBeam, hbodies, markReported_first hnone hb]

/-- Settles O46. The silence's record and event come last (`Spends`, `silenceReported`); a trim keeps the levels (`Trims`). -/
theorem sensorPortIsSampled : Obligations.SensorPortIsSampled := by
  unfold Obligations.SensorPortIsSampled
  refine ⟨fun s hr htimer => ?_, fun message s hr => ⟨exec_sampleSet_refused hr, fun levels hp ha => ?_⟩,
    fun younger older b s hr hbodies hnone horigin hreported hsince => ?_⟩
  · have hrun := exec_sampleTimerExpiry_due hr htimer
    refine ⟨fun ha => ?_, fun ha hmissed => ?_, fun ha hmissed hsilent => ?_, fun ha hmissed hsilent => ?_⟩
    · have hsame : missPeriod s = s := by simp only [missPeriod, ha, if_true]
      rw [hrun, hsame]
      rfl
    · rw [hrun, missPeriod_counts ha (.inl hmissed), Nat.min_eq_right (by omega)]
      rfl
    · rw [hrun, missPeriod_counts ha (.inr hsilent), Nat.min_eq_left (by omega)]
      rfl
    · rw [missPeriod_fallSilent ha hmissed hsilent] at hrun
      obtain ⟨hsil, hmiss, hbod, htrim, hfault, hkept, htag, hsent, hmode, hrecord, hevent⟩ :=
        sendSample_fallSilent (s.onBeam fun b => { b with missed := 8 })
      refine ⟨_, hrun, hsil, hmiss, hbod, htrim, hfault, hkept, htag, hsent, hmode, fun hfree => ?_, fun hmask => ?_⟩
      · rw [← s.beam.faults_compl]
        exact hrecord hfree
      · obtain ⟨hnumber, hframe⟩ := hevent hmask
        exact ⟨hnumber, fun hup hheld hroom => ⟨_, hframe hup hheld hroom, rfl⟩⟩
  · obtain ⟨hlevel, hmissed, hanswered, hsilent, hacquired, htag, htimer, href⟩ := processSample_beams s levels
    refine ⟨_, exec_sampleSet_taken hr hp ha, hlevel, hmissed, hanswered, hsilent, hacquired, htag, htimer, href,
      fun hacq hsil htrim hidle => ?_⟩
    rw [follow_records _ fun _ => rfl, processSample_judges hacq hsil htrim hidle]
  · refine ⟨_, exec_anomaly_due hr hbodies hnone ⟨horigin, hreported, hsince⟩, ?_, ?_, ?_, ?_, ?_, ?_⟩
    · simp [intrusion]
    · simp only [follow_frame, intrusion, event_frame]
      simp <;> rfl
    · simp [intrusion]
    · simp [intrusion]
    · simp [intrusion]
    · simp [intrusion]

end Sys2Proof.Machine

/-! PROOFS. How a change of mode refuses a dialog (R25): the proof request abandoned, the verb's answer discarded, the reservations
given back, the record, and the SHOW that waits while a verb is outstanding. -/

namespace Sys2Proof.Machine

open Sys2Proof

variable {s t u : State} {p : Port} {code : RefusalCode} {m : Mode}

/-! ### A SHOW, at once or pending (R2) -/

theorem send_port (x : Sent) (p : Port) (s : State) : (s.send x).port p = s.port p := rfl

theorem showNow_port (p : Port) (w : Show) (s : State) : (showNow p w s).port p =
    { s.port p with pendingShow := if (s.port p).outstanding = none then none else some w } := by
  cases h : (s.port p).outstanding <;> simp [showNow, flushShow, h, send_port]

theorem showNow_sent (p : Port) (w : Show) (s : State) : (showNow p w s).sent =
    (if (s.port p).outstanding = none then [.display p (s.port p).tag w] else []) ++ s.sent := by
  cases h : (s.port p).outstanding <;> simp [showNow, flushShow, h, State.send]

/-! ### A refusal without a MARK (R22, R23) -/

/-- What a refusal leaves of the context, but for the poll timer. -/
def Context.refusedHolding (c : Context) : Context :=
  { c with
    state := .holding, creditRes := false, journalRes := 0, inFlight := false, switchHeld := false, attempts := 0, marking := none
    pollTimer := none }

theorem refuse_unmarked (p : Port) (code : RefusalCode) (s : State) : refuse p code false none s =
    toHolding p (withdraw p (showNow p ⟨.refused code, none, (s.ctx p).image.map Image.balance⟩
      (refusalRecord p code (dropCreditRes p s)))) := by
  have himage : ((refusalRecord p code (dropCreditRes p s)).ctx p).image = (s.ctx p).image := by
    rw [(refusalRecord_dropCreditRes p code s).1]
  simp only [refuse, refusalShow, himage, Bool.false_eq_true, if_false]

theorem refuse_ctx (p : Port) (code : RefusalCode) (s : State) : (refuse p code false none s).ctx p =
    if (s.port p).outstanding = none then
      { (s.ctx p).refusedHolding with
        pollTimer := some (s.params.pollPeriod s.lane.tempo), pollPeriod := s.params.pollPeriod s.lane.tempo }
    else (s.ctx p).refusedHolding := by
  obtain ⟨hctx, hport⟩ := refusalRecord_dropCreditRes p code s
  have htempo : (dropCreditRes p s).lane.tempo = s.lane.tempo := by
    simp only [dropCreditRes]
    split <;> rfl
  rw [refuse_unmarked, toHolding_ctx, withdraw_port, showNow_outstanding, hport, withdraw_ctx, showNow_ctx, hctx]
  cases (s.port p).outstanding <;> simp [Context.refusedHolding, htempo]

theorem refuse_port (p : Port) (code : RefusalCode) (s : State) : (refuse p code false none s).port p =
    { s.port p with
      pendingShow := if (s.port p).outstanding = none then none
        else some ⟨.refused code, none, (s.ctx p).image.map Image.balance⟩ } := by
  rw [refuse_unmarked, toHolding_port, withdraw_port, showNow_port, (refusalRecord_dropCreditRes p code s).2]

theorem refuse_sent (p : Port) (code : RefusalCode) (s : State) : (refuse p code false none s).sent =
    (if (s.port p).outstanding = none then
      [.display p (s.port p).tag ⟨.refused code, none, (s.ctx p).image.map Image.balance⟩] else []) ++ s.sent := by
  have hsent : (refusalRecord p code (dropCreditRes p s)).sent = s.sent := by
    rw [(refusalRecord_eq p code _).2.1, (dropCreditRes_eq p s).2.2.2.2.2]
  have hkept : (refuse p code false none s).sent = (showNow p ⟨.refused code, none, (s.ctx p).image.map Image.balance⟩
      (refusalRecord p code (dropCreditRes p s))).sent := by
    rw [refuse_unmarked]
    simp
  rw [hkept, showNow_sent, hsent, (refusalRecord_dropCreditRes p code s).2]

theorem refusalRecord_reserved (hcode : code ≠ .clone) :
    (refusalRecord p code s).journal.reserved = s.journal.reserved - (s.ctx p).journalRes := by
  simp only [refusalRecord, if_neg hcode]
  split
  next hzero =>
    rw [hzero, Nat.sub_zero]
    unfold appendOpenRefusal
    split
    · exact (appendRecord_used ..).2.2
    · rfl
  next hsome =>
    have hused := (appendRecord_used (fun j => { j with reserved := j.reserved - 1 }) (refusalContent p (s.ctx p).cardId code)
      (s.onCtx p fun c => { c with journalRes := c.journalRes - 1 })).2.2
    have hctx : ((appendReserved (refusalContent p (s.ctx p).cardId code)
        (s.onCtx p fun c => { c with journalRes := c.journalRes - 1 })).ctx p).journalRes = (s.ctx p).journalRes - 1 := by
      simp [appendReserved, State.ctx, State.onCtx, State.onDialog]
    show (appendReserved _ _).journal.reserved - _ = _
    rw [hctx, appendReserved, hused]
    show s.journal.reserved - 1 - ((s.ctx p).journalRes - 1) = _
    omega

theorem refuse_journal (hcode : code ≠ .clone) :
    (refuse p code false none s).journal.reserved = s.journal.reserved - (s.ctx p).journalRes
      ∧ (refuse p code false none s).journal.records = s.journal.records ++
        (if (s.ctx p).journalRes = 0 ∧ s.journal.free ≤ 16 then []
        else [s.recordOf { kind := .refusal, direction := some (portDirection p), cardId := (s.ctx p).cardId
                           reason := some (.refusal code) }]) := by
  obtain ⟨hctx, hjournal, hline, hmgmt, -, -⟩ := dropCreditRes_eq p s
  have hreserved := refusalRecord_reserved (p := p) (s := dropCreditRes p s) hcode
  have hrecords := (refusalRecord_eq p code (dropCreditRes p s)).2.2.2 hcode
  have hrecord : ∀ c, (dropCreditRes p s).recordOf c = s.recordOf c :=
    State.recordOf_congr (by rw [hjournal]) (by rw [hmgmt]) (by rw [hline])
  have hkept : (refuse p code false none s).journal = (refusalRecord p code (dropCreditRes p s)).journal := by
    rw [refuse_unmarked]
    simp
  rw [hkept, hreserved, hrecords, hctx, hjournal, hrecord]
  exact ⟨rfl, rfl⟩

theorem refuse_reserved (p : Port) (code : RefusalCode) (s : State) : (refuse p code false none s).lane.reserved =
    if (s.ctx p).creditRes then s.lane.reserved.put (portDirection p) (s.lane.reserved.get (portDirection p) - 1)
    else s.lane.reserved := by
  have hkept : (refuse p code false none s).lane = (dropCreditRes p s).lane := by
    rw [refuse_unmarked]
    simp
  rw [hkept]
  unfold dropCreditRes
  split <;> rfl

theorem refuse_withdrawn (h : (s.ctx p).inFlight = true) : (refuse p code false none s).standing.inFlight.get p = none := by
  have hflight : ((showNow p ⟨.refused code, none, (s.ctx p).image.map Image.balance⟩
      (refusalRecord p code (dropCreditRes p s))).ctx p).inFlight = true := by
    rw [showNow_ctx, (refusalRecord_dropCreditRes p code s).1]
    exact h
  rw [refuse_unmarked, (toHolding_frame ..).1, withdraw, if_pos hflight]
  exact ByPort.get_put_same ..

/-! ### The request abandoned and the verb dropped (R10, R25) -/

/-- R10, R25: the context's proof request is abandoned, and the answer to its verb will be discarded. -/
def State.forsaking (s : State) (p : Port) : State :=
  (s.onDialog (Dialogs.abandon p)).onPort p fun l => { l with outstanding := l.outstanding.map fun o => { o with dropped := true } }

theorem Dialogs.abandon_eq (p : Port) (d : Dialogs) : Dialogs.abandon p d = { d with proofQueue := (Dialogs.abandon p d).proofQueue } := by
  unfold Dialogs.abandon
  split <;> rfl

theorem Dialogs.abandon_queue (p : Port) (d : Dialogs) : (Dialogs.abandon p d).proofQueue = (match d.proofQueue, d.proofTimer with
    | r :: rest, some _ =>
      { r with abandoned := r.abandoned || decide (r.port = p) } :: rest.filter fun x => decide (x.port ≠ p)
    | l, none => l.filter fun x => decide (x.port ≠ p)
    | [], _ => []) := by
  have hne : (fun x : ProofRequest => x.port != p) = fun x => decide (x.port ≠ p) := by
    funext x
    simp [bne, beq_eq_decide]
  unfold Dialogs.abandon
  rw [hne]
  rcases d.proofQueue with _ | ⟨r, rest⟩ <;> rcases d.proofTimer with _ | n <;> rfl

/-- R10: no request of the context is left but an abandoned one. -/
theorem Dialogs.abandon_own (p : Port) (d : Dialogs) : ∀ r ∈ (Dialogs.abandon p d).proofQueue, r.port = p → r.abandoned = true := by
  intro r hr hport
  unfold Dialogs.abandon at hr
  split at hr
  · rcases List.mem_cons.mp hr with rfl | hr
    · simp_all
    · simp [hport] at hr
  · simp [hport] at hr

theorem forsaking_ctx (q : Port) : (s.forsaking p).ctx q = s.ctx q := by
  rw [State.forsaking, State.ctx_onPort]
  simp only [State.ctx, State.onDialog]
  rw [Dialogs.abandon_eq]

theorem forsaking_port : (s.forsaking p).port p =
    { s.port p with outstanding := (s.port p).outstanding.map fun o => { o with dropped := true } } := by
  rw [State.forsaking, State.port_onPort]
  simp only [State.port, State.onDialog]
  rw [Dialogs.abandon_eq]

theorem forsaking_port_other : (s.forsaking p).port (otherPort p) = s.port (otherPort p) := by
  rw [State.forsaking, State.port_onPort_other]
  simp only [State.port, State.onDialog]
  rw [Dialogs.abandon_eq]

theorem refuseByMode_refused (hl : laneTest p m = some code) (hr : (s.ctx p).state.refusable = true) :
    refuseByMode m p s = refuse p code false none (s.forsaking p) := by simp only [refuseByMode, hl, hr] <;> rfl

theorem refuseByMode_spared (h : laneTest p m = none ∨ (s.ctx p).state.refusable = false) : refuseByMode m p s = s := by
  rcases h with h | h
  · simp only [refuseByMode, h]
  · simp only [refuseByMode, h]
    cases laneTest p m <;> rfl

theorem DialogState.refusable_iff (d : DialogState) :
    d.refusable = true ↔ d ∈ [DialogState.reading, .proving, .checking, .judging, .reckoning] := by
  cases d <;> simp [DialogState.refusable]

/-- R25: a context that a mode refuses. -/
theorem refuseByMode_refusedByMode (hl : laneTest p m = some code) (hr : (s.ctx p).state.refusable = true) :
    s.refusedByMode (refuseByMode m p s) p code := by
  rw [refuseByMode_refused hl hr]
  have hctx := refuse_ctx p code (s.forsaking p)
  have hport := refuse_port p code (s.forsaking p)
  have hsent := refuse_sent p code (s.forsaking p)
  have hparams : (refuse p code false none (s.forsaking p)).params = s.params := by simp [refuse_unmarked, State.forsaking]
  obtain ⟨reserved, hlane⟩ := refuse_lane_eq p code false none (s.forsaking p)
  have htempo : (refuse p code false none (s.forsaking p)).lane.tempo = s.lane.tempo := by rw [hlane]; rfl
  have hflight : (s.ctx p).inFlight = true → (refuse p code false none (s.forsaking p)).standing.inFlight.get p = none :=
    fun h => refuse_withdrawn (by rwa [forsaking_ctx])
  have hqueue : ∀ r ∈ (refuse p code false none (s.forsaking p)).dialog.proofQueue, r.port = p → r.abandoned = true := by
    rw [refuse_queue]
    exact Dialogs.abandon_own p s.dialog
  rw [forsaking_ctx, forsaking_port] at hctx hport hsent
  cases ho : (s.port p).outstanding with
  | none =>
    simp only [ho, Option.map_none, if_true] at hctx hport hsent
    refine ⟨by rw [hctx]; rfl, by rw [hctx]; rfl, by rw [hctx]; rfl, by rw [hctx]; rfl, by rw [hctx]; rfl, by rw [hctx]; rfl,
      hflight, hqueue, fun _ => ⟨?_, ?_, ?_⟩, fun _ h => (Option.some_ne_none _ (h.symm.trans ho)).elim⟩
    · simp [hport, ho]
    · rw [hsent]
      exact List.mem_cons_self
    · rw [hctx, hparams, htempo]
      rfl
  | some o =>
    simp only [ho, Option.map_some, reduceCtorEq, if_false] at hctx hport
    refine ⟨by rw [hctx]; rfl, by rw [hctx]; rfl, by rw [hctx]; rfl, by rw [hctx]; rfl, by rw [hctx]; rfl, by rw [hctx]; rfl,
      hflight, hqueue, fun h => (Option.some_ne_none _ (ho.symm.trans h)).elim, fun o' ho' => ⟨?_, by rw [hctx]; rfl⟩⟩
    obtain rfl := Option.some.inj (ho.symm.trans ho')
    exact hport

/-- R25: what the refusal of a context by a mode leaves of everything else. -/
theorem refuseByMode_rest (hcode : code ≠ .clone) (hl : laneTest p m = some code) (hr : (s.ctx p).state.refusable = true) :
    let t := refuseByMode m p s
    t.lane.reserved = (if (s.ctx p).creditRes then
        s.lane.reserved.put (portDirection p) (s.lane.reserved.get (portDirection p) - 1) else s.lane.reserved)
      ∧ t.journal.reserved = s.journal.reserved - (s.ctx p).journalRes
      ∧ t.journal.records = s.journal.records ++
        (if (s.ctx p).journalRes = 0 ∧ s.journal.free ≤ 16 then []
        else [s.recordOf { kind := .refusal, direction := some (portDirection p), cardId := (s.ctx p).cardId
                           reason := some (.refusal code) }])
      ∧ t.dialog.proofQueue = (Dialogs.abandon p s.dialog).proofQueue
      ∧ t.sent = (if (s.port p).outstanding = none then
          [.display p (s.port p).tag ⟨.refused code, none, (s.ctx p).image.map Image.balance⟩] else []) ++ s.sent
      ∧ t.ctx (otherPort p) = s.ctx (otherPort p) ∧ t.port (otherPort p) = s.port (otherPort p)
      ∧ t.lane.credits = s.lane.credits ∧ t.lane.eff = s.lane.eff ∧ t.tariff = s.tariff ∧ t.params = s.params := by
  have hlocal : Local p (s.forsaking p) (refuse p code false none (s.forsaking p)) := (Local.refl p _).refuse code false none
  obtain ⟨hreserved, hrecords⟩ := refuse_journal (p := p) (s := s.forsaking p) hcode
  obtain ⟨reserved, hlane⟩ := refuse_lane_eq p code false none (s.forsaking p)
  have hsent := refuse_sent p code (s.forsaking p)
  rw [forsaking_ctx] at hreserved hrecords
  rw [forsaking_ctx, forsaking_port] at hsent
  intro t
  rw [show t = refuse p code false none (s.forsaking p) from refuseByMode_refused hl hr]
  refine ⟨?_, hreserved, hrecords, hlocal.queue, ?_, hlocal.ctx.trans (forsaking_ctx _), hlocal.port.trans forsaking_port_other,
    by rw [hlane]; rfl, by rw [hlane]; rfl, by simp [refuse_unmarked, State.forsaking], by simp [refuse_unmarked, State.forsaking]⟩
  · rw [refuse_reserved, forsaking_ctx]
    rfl
  · rw [hsent]
    cases (s.port p).outstanding <;> rfl

end Sys2Proof.Machine

/-! PROOFS. A derivation that gives another mode: its record, its event, the queues, the flaps and the dialogs it refuses (R135 to
R139, R25), and what becomes of the verbs and CHECKs of refused contexts (R10). -/

namespace Sys2Proof.Machine

open Sys2Proof

variable {s t u w : State} {p : Port} {code : RefusalCode} {m : Mode} {d : Direction}

/-! ### What a refusal by mode leaves to the other port -/

theorem withdraw_inFlight_other (p : Port) (s : State) :
    (withdraw p s).standing.inFlight.get (otherPort p) = s.standing.inFlight.get (otherPort p) := by
  unfold withdraw
  split
  · cases p <;> rfl
  · rfl

theorem refuse_inFlight_other (p : Port) (code : RefusalCode) (s : State) :
    (refuse p code false none s).standing.inFlight.get (otherPort p) = s.standing.inFlight.get (otherPort p) := by
  rw [refuse_unmarked, (toHolding_frame ..).1, withdraw_inFlight_other, (showNow_frame ..).1]
  simp

theorem Dialogs.abandon_others (p : Port) (d : Dialogs) {q : Port} (h : ∀ r ∈ d.proofQueue, r.port = q → r.abandoned = true) :
    ∀ r ∈ (Dialogs.abandon p d).proofQueue, r.port = q → r.abandoned = true := by
  intro r hr hport
  unfold Dialogs.abandon at hr
  split at hr
  next x rest _ hq _ =>
    rw [hq] at h
    rcases List.mem_cons.mp hr with rfl | hr
    · have := h x List.mem_cons_self hport
      simp [this]
    · exact h r (List.mem_cons_of_mem _ (List.mem_of_mem_filter hr)) hport
  · exact h r (List.mem_of_mem_filter hr) hport

/-- What the refusal of one context leaves of what has been said of the other port's. -/
structure Leaves (q : Port) (s t : State) : Prop where
  ctx : t.ctx q = s.ctx q
  port : t.port q = s.port q
  inFlight : t.standing.inFlight.get q = s.standing.inFlight.get q
  queue : (∀ r ∈ s.dialog.proofQueue, r.port = q → r.abandoned = true) → ∀ r ∈ t.dialog.proofQueue, r.port = q → r.abandoned = true
  sent : ∀ x ∈ s.sent, x ∈ t.sent
  period : t.params.pollPeriod t.lane.tempo = s.params.pollPeriod s.lane.tempo

namespace Leaves

@[refl] theorem refl (q : Port) (s : State) : Leaves q s s := ⟨rfl, rfl, rfl, id, fun _ => id, rfl⟩

/-- What leaves the dialogs, the in-flight set, what has been sent, the parameters and the tempo. -/
theorem of_kept {q : Port} (hd : t.dialog = s.dialog) (hs : t.standing.inFlight = s.standing.inFlight) (hsent : t.sent = s.sent)
    (hq : t.params = s.params) (htempo : t.lane.tempo = s.lane.tempo) : Leaves q s t where
  ctx := by rw [State.ctx, hd, State.ctx]
  port := by rw [State.port, hd, State.port]
  inFlight := by rw [hs]
  queue := by rw [hd]; exact id
  sent := by rw [hsent]; exact fun _ => id
  period := by rw [hq, htempo]

theorem trans {q : Port} (h : Leaves q s t) (k : Leaves q t u) : Leaves q s u where
  ctx := k.ctx.trans h.ctx
  port := k.port.trans h.port
  inFlight := k.inFlight.trans h.inFlight
  queue := k.queue ∘ h.queue
  sent x hx := k.sent x (h.sent x hx)
  period := k.period.trans h.period

/-- A context that a mode has refused stays so. -/
theorem refusedByMode {q : Port} (k : Leaves q t u) (h : s.refusedByMode t q code) : s.refusedByMode u q code := by
  obtain ⟨hstate, hcard, hcredit, hjournal, hswitch, hflight, hwithdrawn, hqueue, hfree, hbusy⟩ := h
  simp only [State.refusedByMode, k.ctx, k.port, k.inFlight, k.period]
  refine ⟨hstate, hcard, hcredit, hjournal, hswitch, hflight, hwithdrawn, k.queue hqueue, fun ho => ?_, hbusy⟩
  obtain ⟨hport, hsent, htimer⟩ := hfree ho
  exact ⟨hport, k.sent _ hsent, htimer⟩

end Leaves

/-- R25: what is refused of a state is refused of one with the same context and port. -/
theorem State.refusedByMode.of_eq (h : s.refusedByMode t p code) (hctx : w.ctx p = s.ctx p) (hport : w.port p = s.port p) :
    w.refusedByMode t p code := by
  simpa only [State.refusedByMode, hctx, hport] using h

theorem refuseByMode_leaves (m : Mode) (p : Port) (s : State) : Leaves (otherPort p) s (refuseByMode m p s) := by
  rcases hl : laneTest p m with _ | code
  · rw [refuseByMode_spared (.inl hl)]
  cases hr : (s.ctx p).state.refusable with
  | false => rw [refuseByMode_spared (.inr hr)]
  | true =>
    rw [refuseByMode_refused hl hr]
    have hlocal : Local p (s.forsaking p) (refuse p code false none (s.forsaking p)) := (Local.refl p _).refuse code false none
    obtain ⟨reserved, hlane⟩ := refuse_lane_eq p code false none (s.forsaking p)
    refine ⟨hlocal.ctx.trans (forsaking_ctx _), hlocal.port.trans forsaking_port_other, refuse_inFlight_other .., fun h => ?_,
      fun x hx => ?_, ?_⟩
    · rw [hlocal.queue]
      exact Dialogs.abandon_others p s.dialog h
    · rw [refuse_sent]
      exact List.mem_append_right _ hx
    · rw [hlane, refuse_unmarked]
      simp [State.forsaking, State.onPort, State.onDialog]

/-! ### The dialogs of both ports (R25) -/

/-- R25: what a change to mode `m` leaves of the context of port `p`: it is refused, or not touched. -/
def State.metBy (s t : State) (m : Mode) (p : Port) : Prop :=
  (∀ code, laneTest p m = some code → (s.ctx p).state.refusable = true → s.refusedByMode t p code)
    ∧ (laneTest p m = none ∨ (s.ctx p).state.refusable = false → t.ctx p = s.ctx p ∧ t.port p = s.port p)

theorem refuseByMode_metBy (m : Mode) (p : Port) (s : State) : s.metBy (refuseByMode m p s) m p :=
  ⟨fun _ hl hr => refuseByMode_refusedByMode hl hr, fun h => by rw [refuseByMode_spared h]; exact ⟨rfl, rfl⟩⟩

theorem State.metBy.leaves (h : s.metBy t m p) (k : Leaves p t u) : s.metBy u m p :=
  ⟨fun code hl hr => k.refusedByMode (h.1 code hl hr), fun hs => ⟨k.ctx.trans (h.2 hs).1, k.port.trans (h.2 hs).2⟩⟩

theorem State.metBy.of_eq (h : s.metBy t m p) (hctx : w.ctx p = s.ctx p) (hport : w.port p = s.port p) : w.metBy t m p := by
  refine ⟨fun code hl hr => (h.1 code hl (hctx ▸ hr)).of_eq hctx hport, fun hs => ?_⟩
  rw [hctx, hport]
  exact h.2 (hctx ▸ hs)

/-- R25: port A's context is met first, and port B's as it then stands, which is as it stood. -/
theorem dialogsTold_metBy (m : Mode) (s : State) (p : Port) : s.metBy (dialogsTold m s) m p := by
  cases p with
  | a => exact (refuseByMode_metBy m .a s).leaves (refuseByMode_leaves m .b _)
  | b =>
    have hfirst := refuseByMode_leaves m .a s
    exact (refuseByMode_metBy m .b (refuseByMode m .a s)).of_eq hfirst.ctx.symm hfirst.port.symm

@[simp] theorem openTest_tempo (s : State) : (openTest s).lane.tempo = s.lane.tempo := by
  simp only [openTest]
  repeat' split
  all_goals rfl

@[simp] theorem closeTest_tempo (s : State) : (closeTest s).lane.tempo = s.lane.tempo := by
  unfold closeTest
  split <;> rfl

@[simp] theorem flapRetry_tempo (s : State) : (flapRetry s).lane.tempo = s.lane.tempo := by
  unfold flapRetry
  split
  · exact openTest_tempo _
  all_goals rfl

/-- R136: the lane's state when a change of mode comes to the dialogs. -/
def State.beforeDialogs (s : State) : State :=
  freshCount s.lane.derived (flushOnLeaving s.lane.eff s.lane.derived (reportMode s.lane.derived s))

theorem deriveMode_changes (h : s.lane.derived ≠ s.lane.eff) :
    deriveMode s = closeTest (openTest (dialogsTold s.lane.derived s.beforeDialogs)) := by
  rw [deriveMode, if_neg h]
  rfl

theorem beforeDialogs_dialog (s : State) : s.beforeDialogs.dialog = s.dialog := by
  unfold State.beforeDialogs freshCount
  split <;> simp [reportMode, State.onLane]

/-- R25: the dialogs that a change of mode meets. -/
theorem deriveMode_metBy (h : s.lane.derived ≠ s.lane.eff) (p : Port) : s.metBy (deriveMode s) s.lane.derived p := by
  rw [deriveMode_changes h]
  refine (State.metBy.leaves (dialogsTold_metBy _ s.beforeDialogs p) (.of_kept ?_ ?_ ?_ ?_ ?_)).of_eq ?_ ?_
  · simp
  · simp
  · simp
  · simp
  · simp
  · rw [State.ctx, State.ctx, beforeDialogs_dialog]
  · rw [State.port, State.port, beforeDialogs_dialog]

theorem follow_leaves (q : Port) (s : State) : Leaves q s (follow s) :=
  .of_kept (by simp) (by simp) (by simp) (by simp) (by simp)

/-! ### The record and the event of a change of mode (R136) -/

theorem appendReserve_line_of_unmarked {c : Content} (hhigh : s.journal.records.length + 1 ≠ s.params.highWater)
    (hfree : s.journal.free ≠ 17) : (appendReserve c s).line = s.line ∧ (appendReserve c s).mgmt = s.mgmt := by
  unfold appendReserve
  split
  · simp only [appendRecord, fullEvent]
    rw [if_neg fun h : _ ∧ _ => hfree h.1, if_neg (by simpa [Journal.append] using hhigh)]
    exact ⟨rfl, rfl⟩
  · exact ⟨rfl, rfl⟩

theorem deriveMode_overflow (hne : s.lane.derived ≠ s.lane.eff) (hfree : s.journal.free = 0) : (deriveMode s).journal.overflow = true := by
  have hreport : (reportMode s.lane.derived s).journal.overflow = true := by
    simp [reportMode, appendReserve_overflow, hfree]
  rw [deriveMode, if_neg hne]
  exact (afterReport_spends (Spends.refl (reportMode s.lane.derived s))).overflow hreport

/-- R136, R177: the MODE_CHANGE event of a change of mode. -/
theorem deriveMode_event (hne : s.lane.derived ≠ s.lane.eff) (hmask : s.params.eventMask.getLsbD 5 = true)
    (hup : s.line.link.up = true) :
    (s.journal.records.length + 1 ≠ s.params.highWater → s.journal.free ≠ 17 → s.line.held = [] → s.line.count .own < 4 →
      ∃ later, (deriveMode s).line.localQ.up =
        s.line.localQ.up ++ ⟨s.eventFrame (.modeChange s.lane.eff s.lane.derived s.lane.countOfMode), .own, false⟩ :: later)
    ∧ (4 ≤ s.line.count .own →
      (deriveMode s).line.localQ = s.line.localQ ∧ (deriveMode s).mgmt.flags.sendDrop = true) := by
  let c := modeContent s.lane.derived s.lane.countOfMode
  let v := appendReserve c (s.onLane fun l => { l with eff := s.lane.derived })
  have hgrows : Grows (event (.modeChange s.lane.eff s.lane.derived s.lane.countOfMode) v) (deriveMode s) := by
    rw [deriveMode, if_neg hne]
    exact afterReport_grows (Grows.refl (reportMode s.lane.derived s))
  have hrecord : Grows s v := appendReserve_grows ((Grows.refl s).keeping rfl rfl rfl)
  have hparams : v.params = s.params := by simp [v]
  have hon : v.params.eventMask.getLsbD (Event.modeChange s.lane.eff s.lane.derived s.lane.countOfMode).row = true := by
    rw [hparams]
    exact hmask
  have hlink : v.line.link = s.line.link := by simp [v]
  obtain ⟨hroom, hfull⟩ := event_then_grows hon (by rw [hlink]; exact hup) hgrows
  refine ⟨fun hhigh hfree hheld hcount => ?_, fun hcount => ?_⟩
  · obtain ⟨hline, hmgmt⟩ := appendReserve_line_of_unmarked (c := c) (s := s.onLane fun l => { l with eff := s.lane.derived })
      hhigh hfree
    have hframe : v.eventFrame (.modeChange s.lane.eff s.lane.derived s.lane.countOfMode)
        = s.eventFrame (.modeChange s.lane.eff s.lane.derived s.lane.countOfMode) := by
      simp only [State.eventFrame, State.clock, State.stamp, v, hline, hmgmt] <;> rfl
    have hline' : v.line = s.line := hline
    rw [hline', hframe] at hroom
    exact hroom hheld hcount
  · have hline : v.line = s.line := hrecord.full hcount
    rw [hline] at hfull
    exact hfull hcount

/-! ### The queues and the flaps of a change of mode (R125, R137) -/

theorem flush_accounts (d : Direction) (s : State) :
    (flush d s).lane.credits = s.lane.credits.put d []
      ∧ (flush d s).lane.counts =
        s.lane.counts.put d { s.lane.counts.get d with lapsed := (s.lane.counts.get d).lapsed + (s.lane.credits.get d).length } :=
  ⟨flush_credits d s, (foldl_lapse_accounts d .flush (s.lane.credits.get d) s).2.1⟩

theorem flushOnLeaving_accounts {left new : Mode} (hleft : left.inService = true) (hnew : new.inService = false) (d : Direction) :
    (flushOnLeaving left new s).lane.credits.get d = []
      ∧ (flushOnLeaving left new s).lane.counts.get d =
        { s.lane.counts.get d with lapsed := (s.lane.counts.get d).lapsed + (s.lane.credits.get d).length } := by
  obtain ⟨hin, hinCounts⟩ := flush_accounts .inbound s
  obtain ⟨hout, houtCounts⟩ := flush_accounts .outbound (flush .inbound s)
  rw [flushOnLeaving, if_pos ⟨hleft, hnew⟩, hout, houtCounts, hin, hinCounts]
  cases d <;> exact ⟨rfl, rfl⟩

theorem flushOnLeaving_freeCount (left new : Mode) (s : State) :
    (flushOnLeaving left new s).lane.freeCount = s.lane.freeCount := by
  have hflush : ∀ d u, (flush d u).lane.freeCount = u.lane.freeCount := fun d u =>
    foldl_frame (fun u => u.lane.freeCount) _ (fun u c => by simp [lapse, Lane.dropLapsed]) (u.lane.credits.get d) u
  unfold flushOnLeaving
  split
  · rw [hflush, hflush]
  · rfl

/-- R136: of the lane the dialogs and the tests of flaps leave the queues and the counts. -/
theorem deriveMode_accounts (hne : s.lane.derived ≠ s.lane.eff) :
    let u := flushOnLeaving s.lane.eff s.lane.derived (reportMode s.lane.derived s)
    (deriveMode s).lane.credits = u.lane.credits ∧ (deriveMode s).lane.counts = u.lane.counts
      ∧ (deriveMode s).lane.freeCount = (if s.lane.derived.holdsOpen then 0 else u.lane.freeCount) := by
  obtain ⟨r, hr⟩ := dialogsTold_freshCount_lane s.lane.derived (flushOnLeaving s.lane.eff s.lane.derived (reportMode s.lane.derived s))
  rw [deriveMode, if_neg hne]
  simp [changeMode, hr]

/-- Flaps that have moved at most from CLOSED to OPENING. -/
def Lane.atMostOpened (f : Flap) (l : Lane) : Prop := l.flap = f ∨ (f = .closed ∧ l.flap = .opening)

theorem openTest_atMostOpened {f : Flap} (h : s.lane.atMostOpened f) (hf : s.lane.flap = .closed) :
    (openTest s).lane.atMostOpened f := by
  unfold openTest
  rw [hf]
  dsimp only
  split
  · rcases h with h | ⟨-, h⟩
    · exact .inr ⟨h ▸ hf, rfl⟩
    · rw [hf] at h
      cases h
  · exact h

theorem closeTest_of_holdsOpen (h : s.lane.eff.holdsOpen = true) : closeTest s = s := by
  refine if_neg ?_
  simp [Lane.closeCondition, h]

theorem creditLeft_atMostOpened {f : Flap} (hopen : s.lane.eff.holdsOpen = true) (h : s.lane.atMostOpened f) :
    (creditLeft d s).lane.atMostOpened f := by
  have htest : (releaseTest s).lane.atMostOpened f := by
    by_cases hf : s.lane.flap = .closed
    · unfold releaseTest
      repeat' split
      · unfold arbitrate
        split
        · exact openTest_atMostOpened h hf
        · exact h
      all_goals exact h
    · rwa [releaseTest_of_flap hf]
  unfold creditLeft
  split
  · rwa [closeTest_of_holdsOpen (by rw [(releaseTest_lane s).2.1]; exact hopen)]
  · rwa [closeTest_of_holdsOpen hopen]

theorem lapse_atMostOpened {f : Flap} {c : Credit} {r : LapseReason} (hopen : s.lane.eff.holdsOpen = true)
    (h : s.lane.atMostOpened f) : (lapse d c r s).lane.atMostOpened f := by
  have hlane : (appendReserve (lapseContent c r) (lapseReport c.cardId d (s.onLane (Lane.dropLapsed d c)))).lane = s.lane.dropLapsed d c := by
    simp
  exact creditLeft_atMostOpened (by rw [hlane]; exact hopen) (by rw [hlane]; exact h)

theorem flush_atMostOpened {f : Flap} (hopen : s.lane.eff.holdsOpen = true) (h : s.lane.atMostOpened f) :
    (flush d s).lane.atMostOpened f := by
  unfold flush
  generalize s.lane.credits.get d = l
  induction l generalizing s with
  | nil => exact h
  | cons c l ih => exact ih (by rw [(lapse_lane d c .flush s).2.1]; exact hopen) (lapse_atMostOpened hopen h)

/-- R125: the open condition of a lane held open, with no credit queued. -/
theorem openTest_held {f : Flap} (hopen : s.lane.eff.holdsOpen = true)
    (hempty : s.lane.credits.inbound = [] ∧ s.lane.credits.outbound = []) (h : s.lane.atMostOpened f) :
    (openTest s).lane.flap = if f = .closed ∨ (f = .closing ∧ (s.lane.eff = .freeExit ∨ s.lane.jam = none)) then .opening else f := by
  have hgranted := Lane.grantedCredit_of_empty hempty
  have hcondition : s.lane.openCondition = true := by simp [Lane.openCondition, hopen]
  have hreverse : s.lane.reverses = true ↔ s.lane.eff = .freeExit ∨ s.lane.jam = none := by
    rcases (Mode.holdsOpen_iff _).mp hopen with heff | heff <;> simp [Lane.reverses, hgranted, heff]
  rcases h with h | ⟨rfl, h⟩
  · cases f <;> simp only [openTest, h, hcondition, hreverse, if_true]
    case closing => split <;> simp_all [startMotion, State.onLane]
    all_goals simp [startMotion, State.onLane]
  · simp [openTest, h]

theorem deriveMode_flap (hne : s.lane.derived ≠ s.lane.eff) (hopen : s.lane.derived.holdsOpen = true) (hserved : s.lane.queuesServed) :
    (deriveMode s).lane.flap =
      if s.lane.flap = .closed ∨ (s.lane.flap = .closing ∧ (s.lane.derived = .freeExit ∨ s.lane.jam = none)) then .opening
      else s.lane.flap := by
  have hout := Mode.inService_of_holdsOpen hopen
  have hreport : (reportMode s.lane.derived s).lane.eff.holdsOpen = true := by rw [reportMode_lane_eq]; exact hopen
  have hmoved : (flushOnLeaving s.lane.eff s.lane.derived (reportMode s.lane.derived s)).lane.atMostOpened s.lane.flap := by
    have hstart : (reportMode s.lane.derived s).lane.atMostOpened s.lane.flap := by rw [reportMode_lane_eq]; exact .inl rfl
    unfold flushOnLeaving
    split
    · exact flush_atMostOpened (by rw [(flush_lane ..).2.1]; exact hreport) (flush_atMostOpened hreport hstart)
    · exact hstart
  have hkept : (flushOnLeaving s.lane.eff s.lane.derived (reportMode s.lane.derived s)).lane.eff = s.lane.derived
      ∧ (flushOnLeaving s.lane.eff s.lane.derived (reportMode s.lane.derived s)).lane.jam = s.lane.jam := by
    simp [reportMode_lane_eq]
  have hempty : (flushOnLeaving s.lane.eff s.lane.derived (reportMode s.lane.derived s)).lane.credits.inbound = []
      ∧ (flushOnLeaving s.lane.eff s.lane.derived (reportMode s.lane.derived s)).lane.credits.outbound = [] :=
    flushOnLeaving_served s.lane.derived hserved (.inr (by rw [hkept.1]; exact hout))
  obtain ⟨r, hr⟩ := dialogsTold_freshCount_lane s.lane.derived (flushOnLeaving s.lane.eff s.lane.derived (reportMode s.lane.derived s))
  have hbefore : (dialogsTold s.lane.derived s.beforeDialogs).lane.eff = s.lane.derived
      ∧ (dialogsTold s.lane.derived s.beforeDialogs).lane.jam = s.lane.jam := by
    rw [State.beforeDialogs, hr]
    exact hkept
  have htest := openTest_held (s := dialogsTold s.lane.derived s.beforeDialogs) (f := s.lane.flap)
    (by rw [hbefore.1]; exact hopen) (by rw [State.beforeDialogs, hr]; exact hempty) (by rw [State.beforeDialogs, hr]; exact hmoved)
  rw [deriveMode_changes hne, closeTest_of_holdsOpen (by rw [(openTest_lane _).2.1, hbefore.1]; exact hopen), htest, hbefore.1, hbefore.2]

/-! ### The commands that change the mode, and the ends of what was refused -/

theorem exec_emergencyTaken_on (hr : s.pins.reset = false) (hfilter : s.lane.emergencyFilter = some 0) (hon : s.pins.emergency = true) :
    exec .emergencyTaken s = .next (follow (deriveMode (event .emergencyOn
      { s with lane := { s.lane with emergency := true, emergencyFilter := none } }))) := by
  rw [exec_emergencyTaken]
  refine effect_some rfl hr ?_
  rw [if_pos (by rw [hfilter]; rfl), hon]
  rfl

/-- R25, R135: the dialogs as EMERGENCY taken leaves them. -/
theorem emergencyTaken_metBy (hne : s.lane.eff ≠ .freeExit) (p : Port) :
    s.metBy (follow (deriveMode (event .emergencyOn
      { s with lane := { s.lane with emergency := true, emergencyFilter := none } }))) .freeExit p := by
  let w : State := { s with lane := { s.lane with emergency := true, emergencyFilter := none } }
  have hderived : (event .emergencyOn w).lane.derived = .freeExit := by simp [Lane.derived, w]
  have hchanged : (event .emergencyOn w).lane.derived ≠ (event .emergencyOn w).lane.eff := by
    rw [hderived, (event_frame _ _).2.2.2.2.1]
    exact hne.symm
  have hmet := (deriveMode_metBy hchanged p).leaves (follow_leaves p _)
  rw [hderived] at hmet
  refine hmet.of_eq ?_ ?_
  · rw [State.ctx, State.ctx, (event_frame _ _).1]
  · rw [State.port, State.port, (event_frame _ _).1]

/-- R25, R189: the dialogs as a LANE-MODE taken leaves them. -/
theorem laneModeTaken_metBy (hemergency : s.lane.emergency = false) (hjam : s.lane.jam = none)
    (hfault : s.lane.faultBeams < 2) (hcmd : s.lane.cmd ≠ m) (heff : s.lane.eff ≠ m) (q : LinePort) (e : HeldEntry) (p : Port) :
    s.metBy (follow ((commandMode m (s.onArrival q)).onBuffers fun l =>
      { l with receiving := l.receiving.put q false, held := l.held ++ [e] })) m p := by
  let w : State := (s.onArrival q).onLane fun l => { l with cmd := m }
  have hderived : w.lane.derived = m := by
    simp [Lane.derived, w, State.onLane, State.onArrival, hemergency, hjam, Nat.not_le.mpr hfault]
  have hrun : commandMode m (s.onArrival q) = flapRetry (deriveMode w) := by
    rw [commandMode_eq, commanded, if_neg (by exact hcmd)]
  have hmet := deriveMode_metBy (s := w) (by rw [hderived]; exact heff.symm) p
  rw [hderived] at hmet
  rw [hrun]
  have hretry : Leaves p (deriveMode w) (flapRetry (deriveMode w)) := .of_kept (by simp) (by simp) (by simp) (by simp) (by simp)
  have hheld : Leaves p (flapRetry (deriveMode w)) ((flapRetry (deriveMode w)).onBuffers fun l =>
      { l with receiving := l.receiving.put q false, held := l.held ++ [e] }) := .of_kept rfl rfl rfl rfl rfl
  exact (hmet.leaves ((hretry.trans hheld).trans (follow_leaves p _))).of_eq rfl rfl

theorem laneTest_commanded {m : Mode} (h : m.commandable = true) (p : Port) : laneTest p m =
    if m = .closed ∨ (m = .entryOnly ∧ p = .b) ∨ (m = .exitOnly ∧ p = .a) then
      some (if m = .closed then .laneClosed else .laneDirection) else none := by
  cases m <;> cases p <;> simp_all [laneTest, Mode.commandable]

theorem droppedVerbEnds_eq (p : Port) (s : State) :
    let period := s.params.pollPeriod s.lane.tempo
    droppedVerbEnds p s = { s with
      dialog := { s.dialog with
        ctx := s.dialog.ctx.put p { s.ctx p with pollTimer := some period, pollPeriod := period }
        port := s.dialog.port.put p (s.port p).ended }
      sent := s.shown p } := by
  have hperiod : (endVerb p s).params.pollPeriod (endVerb p s).lane.tempo = s.params.pollPeriod s.lane.tempo := by simp
  simp only [droppedVerbEnds, startPoll, hperiod]
  exact endVerb_onCtx p _ s

theorem popProof_eq {r : ProofRequest} {rest : List ProofRequest} (hq : s.dialog.proofQueue = r :: rest) : popProof s =
    (match rest with
    | [] => { s with dialog := { s.dialog with proofQueue := [], proofTimer := none } }
    | x :: _ =>
      { s with
        dialog := { s.dialog with
          proofQueue := rest, proofTag := nextTag s.dialog.proofTag, proofTimer := some s.params.proofTimeout }
        sent := .check (nextTag s.dialog.proofTag) x :: s.sent }) := by
  cases rest <;> simp only [popProof, sendCheck, State.onDialog, hq, List.tail_cons] <;> rfl

theorem exec_droppedVerb {c : Instr} {o : Outstanding} (hr : s.pins.reset = false) (ho : (s.port p).outstanding = some o)
    (hdropped : o.dropped = true)
    (hc : (c = .verbDeadlineExpiry p ∧ o.deadline = 0)
      ∨ ∃ message e, c = o.purpose.answerCommand p message ∧ parseAnswer message = some (o.purpose.code, o.tag, e)) :
    exec c s = .next (follow (droppedVerbEnds p s)) := by
  rcases hc with ⟨rfl, hd⟩ | ⟨message, e, rfl, hm⟩
  · rw [exec_verbDeadlineExpiry]
    refine effect_some rfl hr ?_
    simp only [ho, hd, if_true, deadlineExpires, hdropped]
  · rw [exec_answerCommand]
    refine effect_some (by cases o.purpose <;> rfl) hr ?_
    simp only [onAnswer, ho, hm, hdropped, and_self, if_true]

/-- R10: the outcome of an abandoned CHECK is discarded. -/
theorem exec_abandonedCheck {c : Instr} {r : ProofRequest} {rest : List ProofRequest} {left : Nat} (hr : s.pins.reset = false)
    (hq : s.dialog.proofQueue = r :: rest) (ha : r.abandoned = true) (ht : s.dialog.proofTimer = some left)
    (hc : (c = .proofTimeoutExpiry ∧ left = 0)
      ∨ ∃ message o, c = .checkAnswer message ∧ parseCheck message = some (s.dialog.proofTag, o)) :
    exec c s = .next (follow (popProof s)) := by
  obtain ⟨x, hx⟩ : ∃ x, s.checkEndsBy left c x := by
    rcases hc with ⟨hc, hleft⟩ | ⟨message, o, hc, hm⟩
    · exact ⟨none, .inl ⟨hc, hleft, rfl⟩⟩
    · exact ⟨_, .inr ⟨message, o, hc, hm, rfl⟩⟩
  rw [exec_checkEnds hr hq ht hx]
  simp only [checkEnds, ha, if_true]

/-- Settles O45. `deriveMode` is taken apart along R136's steps: what grows after its report (`Grows`, `Spends`), what the flush and
the tests leave of the flaps (`Lane.atMostOpened`), and the two dialogs, each met on its own (`State.metBy`). -/
theorem modeChangeRefusesDialogs : Obligations.ModeChangeRefusesDialogs := by
  unfold Obligations.ModeChangeRefusesDialogs
  refine ⟨fun m p s => ?_, fun s => ?_, fun s hr hfilter hon hne => ?_,
    fun a tag mode m s hw h hm htaken hemergency hjam hfault hcmd heff => ?_, fun p c o s hr ho hdropped hc => ?_,
    fun c r rest left s hr hq ha ht hc => ?_⟩
  · have hrefused : ∀ code, code ≠ .clone → laneTest p m = some code →
        (s.ctx p).state ∈ [DialogState.reading, .proving, .checking, .judging, .reckoning] → _ := fun code hcode hl hopen =>
      And.intro (refuseByMode_refusedByMode (s := s) hl ((DialogState.refusable_iff _).mpr hopen))
        (refuseByMode_rest hcode hl ((DialogState.refusable_iff _).mpr hopen))
    simp only [Dialogs.abandon_queue] at hrefused
    refine ⟨fun hopen hm => hrefused .laneClosed nofun (laneTest_closed hm) hopen,
      fun hopen hm => hrefused .laneDirection nofun (laneTest_direction hm) hopen, fun hspared => ?_, rfl⟩
    refine refuseByMode_spared ?_
    rcases hspared with hopen | hm
    · refine .inr (Bool.eq_false_iff.mpr fun hr => hopen ((DialogState.refusable_iff _).mp hr))
    · exact .inl (laneTest_open hm)
  · refine ⟨deriveMode_of_derived, fun hne => ⟨by simp, ?_, fun hroom => ?_, deriveMode_overflow hne, fun hmask hup => ?_,
      fun hin hout d => ?_, fun hopen hserved => deriveMode_flap hne ((Mode.holdsOpen_iff _).mpr hopen) hserved⟩⟩
    · rw [(deriveMode_accounts hne).2.2, flushOnLeaving_freeCount, reportMode_lane_eq]
      exact if_congr (Mode.holdsOpen_iff _) rfl rfl
    · rw [← Lane.countOfMode_eq]
      exact deriveMode_records hne hroom
    · rw [← Lane.countOfMode_eq]
      exact deriveMode_event hne hmask hup
    · obtain ⟨hcredits, hcounts, -⟩ := deriveMode_accounts hne
      rw [hcredits, hcounts]
      have haccounts := flushOnLeaving_accounts (s := reportMode s.lane.derived s) hin hout d
      rwa [reportMode_lane_eq] at haccounts
  · refine ⟨_, exec_emergencyTaken_on hr hfilter hon, fun p => ?_⟩
    obtain ⟨hrefused, hspared⟩ := emergencyTaken_metBy hne p
    split
    next hopen => exact hrefused .laneClosed (laneTest_closed (.inr (.inl rfl))) ((DialogState.refusable_iff _).mpr hopen)
    next hopen => exact hspared (.inr (Bool.eq_false_iff.mpr fun hr => hopen ((DialogState.refusable_iff _).mp hr)))
  · refine ⟨_, exec_laneMode_taken hw h hm htaken, fun p => ?_⟩
    obtain ⟨hrefused, hspared⟩ := laneModeTaken_metBy hemergency hjam hfault hcmd heff a.port
      ⟨a.port, .up, .reply ⟨13, tag, .done,
        .laneMode (commandMode m (s.onArrival a.port)).lane.cmd (commandMode m (s.onArrival a.port)).lane.eff⟩, false⟩ p
    rw [laneTest_commanded (laneModeOf_commandable hm)] at hrefused hspared
    split
    next hopen => exact hrefused _ (if_pos hopen.2) ((DialogState.refusable_iff _).mpr hopen.1)
    next hopen =>
      refine hspared ?_
      by_cases hm : m = .closed ∨ (m = .entryOnly ∧ p = .b) ∨ (m = .exitOnly ∧ p = .a)
      · exact .inr (Bool.eq_false_iff.mpr fun hr => hopen ⟨(DialogState.refusable_iff _).mp hr, hm⟩)
      · exact .inl (if_neg hm)
  · rw [exec_droppedVerb hr ho hdropped hc, droppedVerbEnds_eq]
  · rw [exec_abandonedCheck hr hq ha ht hc, popProof_eq hq]
    cases rest <;> rfl

end Sys2Proof.Machine

/-! PROOFS. The view of a sample set: its readings and its runs (section 5.4), the kinds of departure (R105), and what the reports leave
of the flap zone, the fault count and the tempo (R107). -/

namespace Sys2Proof.Machine

open Sys2Proof

variable {s t : State} {d : Direction}

/-! ### The readings (R98) -/

theorem Beams.reads_fault {b : Beams} {i : Nat} (h1 : 1 ≤ i) (h6 : i ≤ 6) (h : (b.records.get i).state = .fault) :
    b.reads i = true ↔ (1 < i → (b.records.get (i - 1)).state = .blocked) ∧ (i < 6 → (b.records.get (i + 1)).state = .blocked) := by
  interval_cases i <;> simp [Beams.reads, h]

theorem Beams.view_get (b : Beams) {i : Nat} (h1 : 1 ≤ i) (h6 : i ≤ 6) : b.view[i - 1]? = some (b.reads i) := by
  interval_cases i <;> rfl

/-! ### The runs -/

/-- A greatest stretch of blocked readings of a view `w`, by its first and last beam. -/
def IsRun (w : List Bool) (f l : Nat) : Prop :=
  1 ≤ f ∧ f ≤ l ∧ l ≤ w.length ∧ (∀ k, f ≤ k + 1 → k + 1 ≤ l → w[k]? = some true)
    ∧ (1 < f → w[f - 2]? = some false) ∧ (l < w.length → w[l]? = some false)

/-- What the readings seen so far say of the run under way. -/
def RunUnderWay (seen : List Bool) : Option Nat → Prop
  | none => ∀ k, k + 1 = seen.length → seen[k]? = some false
  | some f => 1 ≤ f ∧ f ≤ seen.length ∧ (∀ k, f ≤ k + 1 → k + 1 ≤ seen.length → seen[k]? = some true)
      ∧ (1 < f → seen[f - 2]? = some false)

theorem RunUnderWay.blocked {seen : List Bool} {start : Option Nat} (h : RunUnderWay seen start) :
    RunUnderWay (seen ++ [true]) (some (start.getD (seen.length + 1))) := by
  cases start with
  | none =>
    refine ⟨Nat.succ_le_succ (Nat.zero_le _), by simp, fun k hf hl => ?_, fun hlt => ?_⟩
    · have hk : k = seen.length := by simp at hf hl; omega
      simp [hk]
    · have hlast := h (seen.length - 1) (by simp at hlt; omega)
      rw [List.getElem?_append_left (by simp at hlt ⊢; omega)]
      simpa using hlast
  | some f =>
    obtain ⟨h1, hle, hall, hbefore⟩ := h
    refine ⟨h1, by simp; omega, fun k hf hl => ?_, fun hlt => ?_⟩
    · by_cases hk : k = seen.length
      · simp [hk]
      · have hlt : k < seen.length := by simp at hl; omega
        rw [List.getElem?_append_left hlt]
        exact hall k hf hlt
    · rw [List.getElem?_append_left (by simp at hlt ⊢; omega)]
      exact hbefore hlt

theorem RunUnderWay.clear (seen : List Bool) : RunUnderWay (seen ++ [false]) none := by
  intro k hk
  have : k = seen.length := by simpa using hk
  simp [this]

/-- The run that ends with the readings seen so far is the one under way, if the next reading is clear. -/
theorem RunUnderWay.isRun_iff {seen rest : List Bool} {start : Option Nat} {f : Nat} (h : RunUnderWay seen start)
    (hrest : ∀ x, rest.head? = some x → x = false) : IsRun (seen ++ rest) f seen.length ↔ start = some f := by
  have hseen : ∀ k, k < seen.length → (seen ++ rest)[k]? = seen[k]? := fun k hk => List.getElem?_append_left hk
  constructor
  · rintro ⟨h1, hle, -, hall, hbefore, -⟩
    cases start with
    | none =>
      have hlast := h (seen.length - 1) (by omega)
      have htrue := hall (seen.length - 1) (by omega) (by omega)
      rw [hseen _ (by omega), hlast] at htrue
      cases htrue
    | some g =>
      obtain ⟨g1, gle, gall, gbefore⟩ := h
      rcases lt_trichotomy f g with hlt | rfl | hgt
      · have hclear := gbefore (by omega)
        have htrue := hall (g - 2) (by omega) (by omega)
        rw [hseen _ (by omega), hclear] at htrue
        cases htrue
      · rfl
      · have hclear := hbefore (by omega)
        have htrue := gall (f - 2) (by omega) (by omega)
        rw [hseen _ (by omega), htrue] at hclear
        cases hclear
  · rintro rfl
    obtain ⟨g1, gle, gall, gbefore⟩ := h
    refine ⟨g1, gle, by simp, fun k hf hl => ?_, fun hlt => ?_, fun hlt => ?_⟩
    · rw [hseen k (by omega)]
      exact gall k hf hl
    · rw [hseen _ (by omega)]
      exact gbefore hlt
    · cases rest with
      | nil => simp at hlt
      | cons x xs => simp [hrest x rfl]

theorem mem_runEnded (start : Option Nat) (n f l : Nat) :
    (f, l) ∈ (start.map fun g => (g, n)).toList ↔ start = some f ∧ l = n := by
  cases start <;> simp [eq_comm]

/-- The runs found from a beam on are the greatest stretches that do not end before it. -/
theorem mem_runsFrom {v seen : List Bool} {start : Option Nat} (h : RunUnderWay seen start) (f l : Nat) :
    (f, l) ∈ runsFrom (seen.length + 1) start v ↔ IsRun (seen ++ v) f l ∧ seen.length ≤ l := by
  induction v generalizing seen start with
  | nil =>
    rw [runsFrom, Nat.add_sub_cancel, mem_runEnded]
    constructor
    · rintro ⟨hf, rfl⟩
      exact ⟨(h.isRun_iff (by simp)).mpr hf, Nat.le_refl _⟩
    · rintro ⟨hrun, hle⟩
      have hl : l = seen.length := by
        have := hrun.2.2.1
        simp at this
        omega
      subst hl
      exact ⟨(h.isRun_iff (by simp)).mp hrun, rfl⟩
  | cons x rest ih =>
    have hsplit : seen ++ x :: rest = (seen ++ [x]) ++ rest := by simp
    have hlen : (seen ++ [x]).length = seen.length + 1 := by simp
    cases x with
    | true =>
      have hih := ih h.blocked
      rw [hlen, ← hsplit] at hih
      rw [runsFrom, hih]
      refine and_congr_right fun hrun => ⟨fun hle => by omega, fun hle => ?_⟩
      by_contra hlt
      have hl : l = seen.length := by omega
      have hclear := hrun.2.2.2.2.2 (by simp [hl])
      simp [hl] at hclear
    | false =>
      have hih := ih (RunUnderWay.clear seen)
      rw [hlen, ← hsplit] at hih
      rw [runsFrom, List.mem_append, Nat.add_sub_cancel, mem_runEnded, hih]
      constructor
      · rintro (⟨hf, rfl⟩ | ⟨hrun, hle⟩)
        · exact ⟨(h.isRun_iff (by simp)).mpr hf, Nat.le_refl _⟩
        · exact ⟨hrun, by omega⟩
      · rintro ⟨hrun, hle⟩
        by_cases hl : l = seen.length
        · subst hl
          exact .inl ⟨(h.isRun_iff (by simp)).mp hrun, rfl⟩
        · exact .inr ⟨hrun, by omega⟩

theorem mem_runsOf (v : List Bool) (f l : Nat) : (f, l) ∈ runsOf v ↔ IsRun v f l := by
  have h := mem_runsFrom (v := v) (seen := []) (start := none) (fun k hk => by simp at hk) f l
  simpa [runsOf] using h

/-- No run begins before the beam, or before the run under way. -/
theorem le_of_mem_runsFrom {v : List Bool} {i : Nat} {start : Option Nat} {r : Run} (hstart : ∀ f, start = some f → f ≤ i)
    (h : r ∈ runsFrom i start v) : start.getD i ≤ r.1 := by
  induction v generalizing i start with
  | nil =>
    cases start with
    | none => simp [runsFrom] at h
    | some f =>
      simp only [runsFrom, Option.map_some, Option.toList_some, List.mem_singleton] at h
      simp [h]
  | cons x rest ih =>
    cases x with
    | true =>
      have hle := ih (start := some (start.getD i)) (i := i + 1) (fun f hf => by
        cases start with
        | none => simp at hf; omega
        | some g => have := hstart g rfl; simp at hf; omega) h
      simpa using hle
    | false =>
      rcases List.mem_append.mp h with h | h
      · cases start with
        | none => simp at h
        | some f =>
          simp only [Option.map_some, Option.toList_some, List.mem_singleton] at h
          simp [h]
      · have hle := ih (start := none) (i := i + 1) nofun h
        cases start with
        | none => simp at hle ⊢; omega
        | some f => have := hstart f rfl; simp at hle ⊢; omega

theorem runsFrom_pairwise (v : List Bool) (i : Nat) (start : Option Nat) :
    (runsFrom i start v).Pairwise fun r x => r.2 < x.1 := by
  induction v generalizing i start with
  | nil => cases start <;> simp [runsFrom]
  | cons x rest ih =>
    cases x with
    | true => exact ih ..
    | false =>
      refine List.pairwise_append.mpr ⟨by cases start <;> simp, ih .., fun r hr y hy => ?_⟩
      have hle := le_of_mem_runsFrom (start := none) nofun hy
      cases start with
      | none => simp at hr
      | some f =>
        simp only [Option.map_some, Option.toList_some, List.mem_singleton] at hr
        simp only [hr, Option.getD_none] at hle ⊢
        omega

/-! ### Departures (R105) -/

theorem Body.departure_entryEnd {b : Body} (h : b.origin = .entryEnd) : b.departure = some
    (if b.last = 6 then .passage else if b.first = 1 then .retreat else if b.crossed then .passage else .retreat) := by
  simp only [Body.departure, h, reduceCtorEq, if_false, decide_eq_true_eq]
  repeat' split
  all_goals rfl

theorem Body.departure_exitEnd {b : Body} (h : b.origin = .exitEnd) : b.departure = some
    (if b.first = 1 then .passage else if b.last = 6 then .retreat else if b.crossed then .passage else .retreat) := by
  simp only [Body.departure, h, reduceCtorEq, if_false, decide_eq_true_eq]
  repeat' split
  all_goals rfl

/-! ### The flap zone and the tempo through the reports (R107) -/

/-- What the lane shows of the flap zone and of the tempo. -/
def Lane.watch (l : Lane) : Bool × Tempo := (l.flapZone, l.tempo)

@[simp] theorem startMotion_watch (f : Flap) (s : State) : (startMotion f s).lane.watch = s.lane.watch := rfl

@[simp] theorem openTest_watch (s : State) : (openTest s).lane.watch = s.lane.watch := by
  simp only [openTest]
  repeat' split
  all_goals rfl

@[simp] theorem closeTest_watch (s : State) : (closeTest s).lane.watch = s.lane.watch := by
  unfold closeTest
  split <;> rfl

@[simp] theorem releaseTest_watch (s : State) : (releaseTest s).lane.watch = s.lane.watch := by
  have harbitrate : ∀ u : State, (arbitrate u).lane.watch = u.lane.watch := fun u => by
    unfold arbitrate
    split
    · exact openTest_watch _
    · rfl
  simp only [releaseTest]
  repeat' split
  · exact harbitrate _
  all_goals rfl

@[simp] theorem creditLeft_watch (d : Direction) (s : State) : (creditLeft d s).lane.watch = s.lane.watch := by
  unfold creditLeft
  split <;> simp

@[simp] theorem lapse_watch (d : Direction) (c : Credit) (r : LapseReason) (s : State) :
    (lapse d c r s).lane.watch = s.lane.watch := by
  rw [lapse, creditLeft_watch, (appendReserve_frame ..).2.2.2.2.1, (lapseReport_frame ..).2.2.2.1]
  rfl

theorem flushOnLeaving_watch (left new : Mode) (s : State) : (flushOnLeaving left new s).lane.watch = s.lane.watch := by
  have hflush : ∀ d u, (flush d u).lane.watch = u.lane.watch := fun d u =>
    foldl_frame (fun u => u.lane.watch) _ (fun u c => lapse_watch d c .flush u) (u.lane.credits.get d) u
  unfold flushOnLeaving
  split
  · rw [hflush, hflush]
  · rfl

@[simp] theorem deriveMode_watch (s : State) : (deriveMode s).lane.watch = s.lane.watch := by
  unfold deriveMode
  split
  · rfl
  · obtain ⟨r, hr⟩ := dialogsTold_freshCount_lane s.lane.derived
      (flushOnLeaving s.lane.eff s.lane.derived (reportMode s.lane.derived s))
    have hflush := flushOnLeaving_watch s.lane.eff s.lane.derived (reportMode s.lane.derived s)
    rw [reportMode_lane_eq] at hflush
    rw [changeMode, closeTest_watch, openTest_watch, hr]
    exact hflush

theorem tallyStep_watch (d : Direction) (s : State) : (tallyStep d s).lane.watch = s.lane.watch := by
  have htoggle : ∀ l : Lane, (l.toggleTally d).watch = l.watch := fun l => by cases d <;> rfl
  have hbegin : ∀ (gap : Nat) (l : Lane), (l.beginTally gap).watch = l.watch := fun gap l => by
    unfold Lane.beginTally
    split
    next e _ _ _ => cases e <;> rfl
    · rfl
  unfold tallyStep
  split
  · exact hbegin ..
  · rfl

theorem judgeCrossing_watch (d : Direction) (long : Bool) (s : State) : (judgeCrossing d long s).lane.watch = s.lane.watch := by
  have hkept : ∀ (x : Option Direction) (r : IntrusionReason) (u : State), (intrusion x r u).lane = u.lane := fun x r u => by
    simp [intrusion]
  have htailgate : ∀ (n : Nat) (u : State), (tailgate d n u).lane = u.lane := fun n u => by simp [tailgate]
  have hpay : ∀ (c : Credit) (rest : List Credit), (pay d long c rest s).lane.watch = s.lane.watch := fun c rest => by
    simp only [pay]
    repeat' split
    · rw [creditLeft_watch, htailgate]
      rfl
    · exact creditLeft_watch _ _
    · exact creditLeft_watch _ _
  simp only [judgeCrossing]
  repeat' split
  · rfl
  · rw [hkept]
  · rw [hkept]
  · rw [hkept]
  · exact hpay _ _

@[simp] theorem crossing_watch (d : Direction) (long : Bool) (s : State) : (crossing d long s).lane.watch = s.lane.watch := by
  rw [crossing, judgeCrossing_watch, tallyStep_watch]
  rfl

theorem flapZoneReport_watch (b : Bool) (s : State) : (flapZoneReport b s).lane.watch = (b, s.lane.tempo) := by
  simp only [flapZoneReport]
  repeat' split
  · rfl
  · rfl
  · rw [closeTest_watch]
    rfl

/-- R107, R141: what a report leaves of the flap zone and of the tempo. -/
theorem takeReport_watch (r : Report) (s : State) : (takeReport s r).lane.watch =
    match r with
    | .flapZone b => (b, s.lane.tempo)
    | .appearance _ => (s.lane.flapZone, .brisk)
    | .faultCount _ | .crossing .. | .departure .. => s.lane.watch := by
  cases r with
  | faultCount n => exact deriveMode_watch _
  | flapZone b => exact flapZoneReport_watch b s
  | appearance o => rfl
  | crossing d long => exact crossing_watch d long s
  | departure o kind crossed => exact releaseTest_watch s

theorem takeReport_faultBeams (r : Report) (s : State) : (takeReport s r).lane.faultBeams =
    match r with
    | .faultCount n => n
    | .flapZone _ | .appearance _ | .crossing .. | .departure .. => s.lane.faultBeams := by
  cases r <;> simp [takeReport, faultReport, State.onLane]

/-- A reading that each report of a list leaves. -/
theorem foldl_takeReport_keeps {α : Type} (get : State → α) {l : List Report}
    (h : ∀ r ∈ l, ∀ s, get (takeReport s r) = get s) (s : State) : get (l.foldl takeReport s) = get s := by
  induction l generalizing s with
  | nil => rfl
  | cons r l ih =>
    rw [List.foldl_cons, ih fun x hx => h x (List.mem_cons_of_mem r hx), h r List.mem_cons_self]

/-- R107: the reports that follow those of the fault count and of the flap zone. -/
def Report.follows : Report → Prop
  | .faultCount _ | .flapZone _ => False
  | .appearance _ | .crossing .. | .departure .. => True

theorem takeReport_brisk {r : Report} (h : s.lane.tempo = .brisk) : (takeReport s r).lane.tempo = .brisk := by
  have hwatch := congrArg Prod.snd (takeReport_watch r s)
  cases r with
  | appearance o => exact hwatch
  | faultCount n => exact hwatch.trans h
  | flapZone b => exact hwatch.trans h
  | crossing d long => exact hwatch.trans h
  | departure o kind crossed => exact hwatch.trans h

/-- R141: an appearance makes the tempo BRISK, and no report after it another. -/
theorem foldl_takeReport_brisk {l : List Report} {o : Origin} (h : .appearance o ∈ l) (s : State) :
    (l.foldl takeReport s).lane.tempo = .brisk := by
  have hkeeps : ∀ (l : List Report) (s : State), s.lane.tempo = .brisk → (l.foldl takeReport s).lane.tempo = .brisk := by
    intro l
    induction l with
    | nil => exact fun _ hs => hs
    | cons r l ih => exact fun s hs => ih _ (takeReport_brisk hs)
  obtain ⟨before, after, rfl⟩ := List.append_of_mem h
  rw [List.foldl_append, List.foldl_cons]
  exact hkeeps after _ rfl

/-- R107: the count and the flap zone as the Lane Controller has them once it has taken the reports of a view. -/
theorem foldl_takeReport_counts {first : List Report} {n : Nat} {z : Bool} {rest : List Report} (hrest : ∀ r ∈ rest, r.follows)
    (hfirst : first = (if n = s.lane.faultBeams then [] else [.faultCount n]) ++ (if z = s.lane.flapZone then [] else [.flapZone z])) :
    ((first ++ rest).foldl takeReport s).lane.flapZone = z ∧ ((first ++ rest).foldl takeReport s).lane.faultBeams = n := by
  have hzone : ∀ r ∈ rest, ∀ u, (takeReport u r).lane.flapZone = u.lane.flapZone := fun r hr u => by
    have hfollows := hrest r hr
    have hwatch := congrArg Prod.fst (takeReport_watch r u)
    cases r with
    | faultCount n => exact hfollows.elim
    | flapZone b => exact hfollows.elim
    | appearance o => exact hwatch
    | crossing d long => exact hwatch
    | departure o kind crossed => exact hwatch
  have hcount : ∀ r ∈ rest, ∀ u, (takeReport u r).lane.faultBeams = u.lane.faultBeams := fun r hr u => by
    have hfollows := hrest r hr
    have hfault := takeReport_faultBeams r u
    cases r with
    | faultCount n => exact hfollows.elim
    | flapZone b => exact hfollows.elim
    | appearance o => exact hfault
    | crossing d long => exact hfault
    | departure o kind crossed => exact hfault
  have hfaultZone : ∀ u, (takeReport u (.faultCount n)).lane.flapZone = u.lane.flapZone := fun u =>
    congrArg Prod.fst (takeReport_watch (.faultCount n) u)
  have hzoneZone : ∀ u, (takeReport u (.flapZone z)).lane.flapZone = z := fun u => congrArg Prod.fst (takeReport_watch (.flapZone z) u)
  have hzoneFault : ∀ u, (takeReport u (.flapZone z)).lane.faultBeams = u.lane.faultBeams := takeReport_faultBeams (.flapZone z)
  have hfaultFault : ∀ u, (takeReport u (.faultCount n)).lane.faultBeams = n := takeReport_faultBeams (.faultCount n)
  rw [List.foldl_append, foldl_takeReport_keeps (fun u => u.lane.flapZone) hzone, foldl_takeReport_keeps (fun u => u.lane.faultBeams) hcount,
    hfirst]
  by_cases hn : n = s.lane.faultBeams <;> by_cases hz : z = s.lane.flapZone <;>
    simp [hn, hz, hfaultZone, hzoneZone, hzoneFault, hfaultFault]

end Sys2Proof.Machine

/-! PROOFS. The matching of a view against the bodies (section 5.5): runs that appear, a body that moves, splits or absorbs, bodies that
merge. -/

namespace Sys2Proof.Machine

open Sys2Proof

variable {now : Nat} {b c : Body} {r x : Run} {m : Matching}

/-! ### A body settled (R104) -/

/-- R104: the crossing a body reports when it is written. -/
def Body.told (b : Body) : List Direction := if b.crosses then [b.origin.direction] else []

/-- R104: a body as it is written, its crossing noted. -/
def Body.settled (b : Body) : Body := { b with crossed := b.crossed || b.crosses }

theorem Matching.settle_eq (m : Matching) (id : Nat) (b : Body) : m.settle (id, b) =
    { m with
      bodies := (m.put (id, b.settled)).bodies
      crossings := m.crossings ++ b.told.map fun d => (d, some id) } := by
  cases h : b.crosses with
  | true => simp [Matching.settle, Body.settled, Body.told, h, Matching.put]
  | false => simp [Matching.settle, Body.settled, Body.told, h, Matching.put]

@[simp] theorem Body.settled_origin (b : Body) : b.settled.origin = b.origin := rfl

theorem Body.crosses_eq (b : Body) : b.crosses = (!b.crossed &&
    ((b.origin == .entryEnd && decide (4 ≤ b.reach.getD 0)) || (b.origin == .exitEnd && decide (b.reach.getD 6 ≤ 3)))) := by
  have hends : (Origin.entryEnd == Origin.exitEnd) = false ∧ (Origin.exitEnd == Origin.entryEnd) = false := ⟨rfl, rfl⟩
  unfold Body.crosses
  cases b.origin <;> cases b.reach <;> simp [hends]

theorem Body.told_eq (b : Body) :
    b.told = if b.crosses then [if b.origin = .entryEnd then .inbound else .outbound] else [] := by
  have hmiddle : b.crosses = true → b.origin ≠ .middle := fun h horigin => by simp [Body.crosses, horigin] at h
  unfold Body.told
  split
  next h =>
    have := hmiddle h
    cases horigin : b.origin <;> simp_all [Origin.direction]
  next => rfl

/-- R101: a body moved to a run, its Reach never back. -/
theorem Body.moveTo_eq (b : Body) (r : Run) : b.moveTo r =
    { b with
      first := r.1, last := r.2, long := b.long || decide (4 ≤ r.2 + 1 - r.1)
      reach := match b.origin with
        | .entryEnd => some (max (b.reach.getD r.2) r.2)
        | .exitEnd => some (min (b.reach.getD r.1) r.1)
        | .middle => none } := by
  cases h : b.origin <;> simp [Body.moveTo, Body.reached, h]

/-! ### What a matching gives -/

/-- The bodies after a view, the appearances and the crossings it reports. -/
def Gives (now : Nat) (bodies : List Body) (runs : List Run) (after : List Body) (appeared : List Origin) (crossed : List Direction) :
    Prop :=
  (matchView now bodies runs).bodies.map Prod.snd = after ∧ (matchView now bodies runs).appeared = appeared
    ∧ (matchView now bodies runs).crossings.map Prod.fst = crossed

theorem Body.overlaps_iff (b : Body) (r : Run) : b.overlaps r = true ↔ r.1 ≤ b.last ∧ b.first ≤ r.2 := by
  simp [Body.overlaps]

theorem Body.overlaps_false (h : ¬(r.1 ≤ b.last ∧ b.first ≤ r.2)) : b.overlaps r = false :=
  Bool.eq_false_iff.mpr fun ho => h ((b.overlaps_iff r).mp ho)

/-! ### Runs that no body meets (R100) -/

theorem Matching.appear_of_room (hroom : m.bodies.length < 3) (hnames : ∀ y ∈ m.bodies, y.1 < m.next) (r : Run) :
    m.appear now r =
      { bodies := m.bodies ++ [(m.next, (newBody now r).settled)], next := m.next + 1
        appeared := m.appeared ++ [(newBody now r).origin]
        crossings := m.crossings ++ (newBody now r).told.map fun d => (d, some m.next) } := by
  have hothers : m.bodies.map (fun y => if y.1 = m.next then (m.next, (newBody now r).settled) else y) = m.bodies := by
    refine (List.map_congr_left fun y hy => ?_).trans (List.map_id _)
    exact if_neg (Nat.ne_of_lt (hnames y hy))
  rw [Matching.appear, if_pos hroom]
  simp only [Matching.settle_eq, Matching.put, List.map_append, hothers, List.map_cons, List.map_nil, if_true]

/-- R100: each run that no body meets appears, as long as the list has room. -/
theorem foldl_appear (runs : List Run) (hroom : m.bodies.length + runs.length ≤ 3) (hnames : ∀ y ∈ m.bodies, y.1 < m.next) :
    (runs.foldl (Matching.appear now) m).bodies.map Prod.snd
        = m.bodies.map Prod.snd ++ runs.map (fun r => (newBody now r).settled)
      ∧ (runs.foldl (Matching.appear now) m).appeared = m.appeared ++ runs.map (fun r => (newBody now r).origin)
      ∧ (runs.foldl (Matching.appear now) m).crossings.map Prod.fst
        = m.crossings.map Prod.fst ++ runs.flatMap fun r => (newBody now r).told := by
  induction runs generalizing m with
  | nil => simp
  | cons r runs ih =>
    simp only [List.length_cons] at hroom
    have happear := Matching.appear_of_room (now := now) (m := m) (by omega) hnames r
    obtain ⟨hbodies, happeared, hcrossings⟩ := ih (m := m.appear now r) (by rw [happear]; simp; omega) (by
      rw [happear]
      intro y hy
      rcases List.mem_append.mp hy with hy | hy
      · exact Nat.lt_succ_of_lt (hnames y hy)
      · rw [List.mem_singleton.mp hy]
        exact Nat.lt_succ_self _)
    rw [List.foldl_cons, hbodies, happeared, hcrossings, happear]
    simp [Function.comp_def]

theorem groupsOf_nil (runs : List Run) : groupsOf [] runs = runs.map fun r => ⟨[], [r]⟩ := rfl

/-- R99, R100: a view that no body meets: every body has departed, and every run appears. -/
theorem gives_of_unmet {bodies : List Body} {runs : List Run} (hlen : runs.length ≤ 3)
    (h : ∀ b ∈ bodies, ∀ r ∈ runs, b.overlaps r = false) :
    Gives now bodies runs (runs.map fun r => (newBody now r).settled) (runs.map fun r => (newBody now r).origin)
      (runs.flatMap fun r => (newBody now r).told) := by
  have hstaying : (numbered bodies).filter (fun x => runs.any x.2.overlaps) = [] := by
    refine List.filter_eq_nil_iff.mpr fun y hy => ?_
    have hmem : y.2 ∈ bodies := by
      simp only [numbered, List.mem_map] at hy
      obtain ⟨z, hz, rfl⟩ := hy
      exact List.fst_mem_of_mem_zipIdx hz
    simp only [Bool.not_eq_true, List.any_eq_false]
    exact fun r hr => h _ hmem r hr
  have hempty : (groupsOf [] runs).filter (fun g => !g.bodies.isEmpty) = [] := by
    simp [groupsOf_nil, List.filter_map, Function.comp_def]
  have hfresh : ((groupsOf [] runs).filter fun g => g.bodies.isEmpty).flatMap Group.runs = runs := by
    simp [groupsOf_nil, List.filter_map, Function.comp_def, List.flatMap_map]
  have hmatch : matchView now bodies runs = runs.foldl (Matching.appear now) { bodies := [], next := bodies.length } := by
    simp only [matchView, hstaying, hempty, hfresh, List.foldl_nil]
  have hfold := foldl_appear (now := now) (m := { bodies := [], next := bodies.length }) runs (by simpa using hlen) (by simp)
  simpa [Gives, hmatch] using hfold

/-! ### Bodies that the runs meet (R101) -/

/-- R101: a body alone with one run moves to it. -/
theorem Matching.group_moves {id : Nat} (h : m.bodies.find? (fun y => y.1 == id) = some (id, b)) :
    m.group ⟨[(id, b)], [r]⟩ = m.settle (id, b.moveTo r) := by
  simp [Matching.group, h, keptRun]

theorem gives_moved (h : b.overlaps r = true) : Gives now [b] [r] [(b.moveTo r).settled] [] (b.moveTo r).told := by
  have hgroups : groupsOf [(0, b)] [r] = [⟨[(0, b)], [r]⟩] := by
    simp [groupsOf, linkBody, linkBody.insertNamed, insertGroup, insertRun, h]
  have hmatch : matchView now [b] [r] = Matching.settle { bodies := [(0, b)], next := 1 } (0, b.moveTo r) := by
    simp [matchView, numbered, h, hgroups, Matching.group_moves]
  simp [Gives, hmatch, Matching.settle_eq, Matching.put, Function.comp_def]

/-- R99: two runs and two bodies, each with its own run: the groups stand from B1 toward B6. -/
theorem gives_moved_both (hrx : r.1 < x.1) (hbr : b.overlaps r = true) (hbx : b.overlaps x = false) (hcx : c.overlaps x = true)
    (hcr : c.overlaps r = false) :
    Gives now [b, c] [r, x] [(b.moveTo r).settled, (c.moveTo x).settled] [] ((b.moveTo r).told ++ (c.moveTo x).told)
      ∧ Gives now [c, b] [r, x] [(c.moveTo x).settled, (b.moveTo r).settled] [] ((b.moveTo r).told ++ (c.moveTo x).told) := by
  have hxr : ¬x.1 < r.1 := by omega
  have hgroups : ∀ i j, groupsOf [(i, b), (j, c)] [r, x] = [⟨[(i, b)], [r]⟩, ⟨[(j, c)], [x]⟩]
      ∧ groupsOf [(j, c), (i, b)] [r, x] = [⟨[(i, b)], [r]⟩, ⟨[(j, c)], [x]⟩] := fun i j => by
    simp [groupsOf, linkBody, linkBody.insertNamed, insertGroup, insertRun, hbr, hbx, hcx, hcr, hrx, hxr]
  have hmatch : matchView now [b, c] [r, x] =
      ((⟨[(0, b), (1, c)], 2, [], []⟩ : Matching).settle (0, b.moveTo r)).settle (1, c.moveTo x) := by
    simp [matchView, numbered, hbr, hcx, (hgroups 0 1).1, Matching.group_moves, Matching.settle_eq, Matching.put]
  have hmatch' : matchView now [c, b] [r, x] =
      ((⟨[(0, c), (1, b)], 2, [], []⟩ : Matching).settle (1, b.moveTo r)).settle (0, c.moveTo x) := by
    simp [matchView, numbered, hbr, hcx, (hgroups 1 0).2, Matching.group_moves, Matching.settle_eq, Matching.put]
  constructor
  · simp [Gives, hmatch, Matching.settle_eq, Matching.put, Function.comp_def]
  · simp [Gives, hmatch', Matching.settle_eq, Matching.put, Function.comp_def]

/-! ### A body of two runs (R103) -/

/-- R103: the run that a body of two runs keeps, and the one that it leaves. -/
theorem keptRun_pair (o : Origin) (hr : r.1 ≤ r.2) (hrx : r.2 < x.1) (hx : x.1 ≤ x.2) : keptRun o r [x] =
    match o with
    | .entryEnd => x
    | .exitEnd => r
    | .middle => if r.2 - r.1 < x.2 - x.1 then x else r := by
  have hlast : r.2 < x.2 := by omega
  have hfirst : ¬x.1 < r.1 := by omega
  cases o <;> simp [keptRun, hlast, hfirst]

/-- Of two runs the one that is not `k`. -/
def leftRun (k r x : Run) : Run := if k = x then r else x

theorem leftRun_filter {k : Run} (hne : r ≠ x) (hk : k = r ∨ k = x) : [r, x].filter (· != k) = [leftRun k r x] := by
  rcases hk with rfl | rfl
  · simp [leftRun, hne, hne.symm]
  · simp [leftRun, hne]

theorem Body.splitOff_eq (b : Body) (r : Run) : b.splitOff r =
    { b with
      first := r.1, last := r.2, long := false
      reach := match b.origin with
        | .entryEnd => some r.2
        | .exitEnd => some r.1
        | .middle => none } := by
  cases h : b.origin <;> simp [Body.splitOff, Body.reached, h]

theorem Body.splitOff_of_origin (b : Body) (r : Run) : ∀ o, b.origin = o → b.splitOff r =
    { b with
      first := r.1, last := r.2, long := false
      reach := match o with
        | .entryEnd => some r.2
        | .exitEnd => some r.1
        | .middle => none } := by
  rintro o rfl
  exact b.splitOff_eq r

theorem Body.absorb_eq (b : Body) (r : Run) :
    b.absorb r = { b.moveTo (min b.first r.1, max b.last r.2) with long := true } := by
  cases h : b.origin <;> simp [Body.absorb, Body.moveTo, Body.reached, h]

theorem insertRun_pair (h : r.1 < x.1) : insertRun x (insertRun r []) = [r, x] := by
  simp [insertRun, Nat.not_lt.mpr h.le]

/-- R103: a body of two runs keeps one, and the other splits off with a place in the list. -/
theorem gives_split (hr : r.1 ≤ r.2) (hrx : r.2 < x.1) (hbr : b.overlaps r = true) (hbx : b.overlaps x = true) :
    let k := keptRun b.origin r [x]
    Gives now [b] [r, x] [(b.moveTo k).settled, (b.moveTo k).settled.splitOff (leftRun k r x)] [] (b.moveTo k).told := by
  intro k
  have hlt : r.1 < x.1 := by omega
  have hne : r ≠ x := fun h => by rw [h] at hlt; omega
  have hgroups : groupsOf [(0, b)] [r, x] = [⟨[(0, b)], [r, x]⟩] := by
    simp [groupsOf, linkBody, linkBody.insertNamed, insertGroup, hbr, hbx, insertRun, Nat.not_lt.mpr hlt.le]
  have hmatch : matchView now [b] [r, x] =
      ((⟨[(0, b)], 1, [], []⟩ : Matching).settle (0, b.moveTo k)).split 0 (leftRun k r x) := by
    have hfilter := leftRun_filter (k := k) hne (by simpa using keptRun_mem b.origin [x] r)
    simp [matchView, numbered, hbr, hgroups, Matching.group, hfilter, k]
  have hsince : ((b.moveTo k).settled.splitOff (leftRun k r x)).since = (b.moveTo k).settled.since := by
    rw [Body.splitOff_eq]
  simp [Gives, hmatch, Matching.settle_eq, Matching.put, Matching.split, insertByAge, hsince, Function.comp_def]

/-- R103: while the list is full the run that a body leaves is absorbed back. -/
theorem absorbed_of_full {d : Body} {z : Run} (hr : r.1 ≤ r.2) (hrx : r.2 < x.1) (hx : x.1 ≤ x.2) (hxz : x.2 < z.1)
    (hbr : b.overlaps r = true) (hbx : b.overlaps x = true)
    (hbz : b.overlaps z = false) (hcz : c.overlaps z = true) (hdz : d.overlaps z = true) (hcr : c.overlaps r = false)
    (hcx : c.overlaps x = false) (hdr : d.overlaps r = false) (hdx : d.overlaps x = false) :
    let k := keptRun b.origin r [x]
    (matchView now [b, c, d] [r, x, z]).bodies.head?.map Prod.snd = some ((b.moveTo k).settled.absorb (leftRun k r x)).settled := by
  intro k
  have hlt : r.1 < x.1 := by omega
  have hrz : r.1 < z.1 := by omega
  have hne : r ≠ x := fun h => by rw [h] at hlt; omega
  have hgroups : groupsOf [(0, b), (1, c), (2, d)] [r, x, z] = [⟨[(0, b)], [r, x]⟩, ⟨[(1, c), (2, d)], [z]⟩] := by
    simp [groupsOf, linkBody, linkBody.insertNamed, insertGroup, insertRun, hbr, hbx, hbz, hcz, hdz, hcr, hcx, hdr, hdx, hrz,
      Nat.not_lt.mpr hlt.le, Nat.not_lt.mpr hrz.le]
  have hfilter := leftRun_filter (k := k) hne (by simpa using keptRun_mem b.origin [x] r)
  have hmatch : matchView now [b, c, d] [r, x, z] =
      ((((⟨[(0, b), (1, c), (2, d)], 3, [], []⟩ : Matching).settle (0, b.moveTo k)).split 0 (leftRun k r x)).group
        ⟨[(1, c), (2, d)], [z]⟩) := by
    simp [matchView, numbered, hbr, hcz, hdz, hgroups, Matching.group, hfilter, k]
  simp [hmatch, Matching.settle_eq, Matching.put, Matching.split, Matching.group, Matching.merge, List.filter_cons, keptRun]

/-! ### Bodies that merge (R102) -/

/-- R102: the body that two bodies of one run merge into. -/
theorem gives_merged (hbr : b.overlaps r = true) (hcr : c.overlaps r = true) :
    Gives now [b, c] [r] [((b.mergeWith c).1.moveTo r).settled] [] ((b.mergeWith c).2.toList ++ ((b.mergeWith c).1.moveTo r).told) := by
  have hgroups : groupsOf [(0, b), (1, c)] [r] = [⟨[(0, b), (1, c)], [r]⟩] := by
    simp [groupsOf, linkBody, linkBody.insertNamed, insertGroup, insertRun, hbr, hcr]
  simp [Gives, matchView, numbered, hbr, hcr, hgroups, Matching.group, Matching.merge, Matching.put, List.filter_cons, keptRun,
    Matching.settle_eq, Function.comp_def]
  cases (b.mergeWith c).2 <;> rfl

end Sys2Proof.Machine

/-! PROOFS. A sample set moves the bodies by its view (chapter 5): the reports a view makes and takes, and the statement on the bodies. -/

namespace Sys2Proof.Machine

open Sys2Proof

variable {s t : State} {b c : Body} {r x : Run}

/-! ### The view of a sample set that is taken (R107) -/

theorem departing_eq (bodies : List Body) (runs : List Run) :
    departing bodies runs = bodies.filter fun b => runs.all fun r => decide (r.2 < b.first ∨ b.last < r.1) := by
  refine List.filter_congr fun b _ => ?_
  rw [Bool.eq_iff_iff]
  simp only [Bool.not_eq_true', List.any_eq_false, Body.overlaps_iff, List.all_eq_true, decide_eq_true_eq]
  exact forall₂_congr fun r _ => by omega

/-- What the trim leaves for the view: the lane, the time and the bodies. -/
theorem trimmed_kept (s : State) (levels : Six Nat) :
    (seekTrim (advanceTrim (s.sampledBy levels))).lane = s.lane ∧ (seekTrim (advanceTrim (s.sampledBy levels))).now = s.now
      ∧ (seekTrim (advanceTrim (s.sampledBy levels))).beam.bodies = s.beam.bodies := by
  have htrims : Trims (s.sampledBy levels) (seekTrim (advanceTrim (s.sampledBy levels))) :=
    seekTrim_trims (advanceTrim_trims (Trims.refl _))
  refine ⟨?_, ?_, ?_⟩
  · rw [(seekTrim_frame _).2.2.2.1, (advanceTrim_frame _).2.2.2.1]
    rfl
  · rw [(seekTrim_frame _).2.2.2.2.2.2.1, (advanceTrim_frame _).2.2.2.2.2.2.1]
    rfl
  · have hsampled : (s.sampledBy levels).beam.bodies = s.beam.bodies := by rw [sampledBy_port]
    exact (congrArg Beams.bodies htrims.beam).trans hsampled

/-- R107: what the taking of a view's reports leaves of what they report. -/
theorem takeView_reported (s : State) :
    (takeView s).lane.flapZone = s.beam.flapZone ∧ (takeView s).lane.faultBeams = s.beam.faults
      ∧ ((matchView s.now s.beam.bodies (runsOf s.beam.view)).appeared ≠ [] → (takeView s).lane.tempo = .brisk) := by
  let m := matchView s.now s.beam.bodies (runsOf s.beam.view)
  let left := departing s.beam.bodies (runsOf s.beam.view)
  let rest : List Report := m.appeared.map Report.appearance ++ (m.crossings.map m.crossingReport
    ++ left.map fun b => .departure b.origin b.departure b.crossed)
  let first : List Report := (if s.beam.faults = s.lane.faultBeams then [] else [.faultCount s.beam.faults])
    ++ (if s.beam.flapZone = s.lane.flapZone then [] else [.flapZone s.beam.flapZone])
  have hrest : ∀ r ∈ rest, r.follows := by
    intro r hr
    simp only [rest, List.mem_append, List.mem_map, Matching.crossingReport] at hr
    rcases hr with ⟨o, -, rfl⟩ | ⟨y, -, rfl⟩ | ⟨y, -, rfl⟩ <;> trivial
  have hview : takeView s = (first ++ rest).foldl takeReport (s.onBeam fun b => { b with bodies := m.bodies.map Prod.snd }) := by
    simp only [takeView, viewReports, first, rest, m, left, List.append_assoc]
  obtain ⟨hzone, hcount⟩ := foldl_takeReport_counts (s := s.onBeam fun b => { b with bodies := m.bodies.map Prod.snd })
    (n := s.beam.faults) (z := s.beam.flapZone) hrest rfl
  refine ⟨by rw [hview]; exact hzone, by rw [hview]; exact hcount, fun hsome => ?_⟩
  obtain ⟨o, ho⟩ := List.exists_mem_of_ne_nil _ hsome
  rw [hview]
  exact foldl_takeReport_brisk (o := o) (by simp [rest, m, ho]) _

/-! ### The merged body (R102) -/

/-- R102: two bodies merge; the merged body is the older, with the other's origin and Reach when it had none. -/
theorem Body.mergeWith_fst (b c : Body) : (b.mergeWith c).1 =
    let took := b.origin = .middle ∧ c.origin ≠ .middle
    let merged : Body := { b with
      long := true, origin := if took then c.origin else b.origin, reach := if took then c.reach else b.reach }
    let alike := c.origin = merged.origin ∧ c.origin ≠ .middle
    { merged with crossed := b.crossed || (decide alike && c.crossed) } := by
  cases hb : b.origin <;> cases hc : c.origin <;> simp [Body.mergeWith, hb, hc]

/-- R102: the crossing that a merge reports. -/
theorem Body.mergeWith_snd (b c : Body) : (b.mergeWith c).2.toList =
    let took := b.origin = .middle ∧ c.origin ≠ .middle
    let alike := c.origin = (if took then c.origin else b.origin) ∧ c.origin ≠ .middle
    if alike ∧ b.crossed = true ∧ c.crossed = false then [if c.origin = .entryEnd then .inbound else .outbound] else [] := by
  cases hb : b.origin <;> cases hc : c.origin <;> cases hx : b.crossed <;> cases hy : c.crossed <;>
    simp [Body.mergeWith, hb, hc, hx, hy, Origin.direction]

theorem Body.moveTo_origin (b : Body) (r : Run) : (b.moveTo r).origin = b.origin := by rw [Body.moveTo_eq]

/-! ### The statement -/

/-- Settles O49: the runs are the greatest stretches (`mem_runsOf`), the reports are taken in their order (`takeView_reported`), and each
shape of a group is matched by its own lemma (`Gives`). -/
theorem bodiesFollowTheView : Obligations.BodiesFollowTheView := by
  unfold Obligations.BodiesFollowTheView
  refine ⟨fun message levels s hr hp ha => ?_, fun b i h1 h6 => ?_, fun v hv => ?_, fun b => ?_, fun now => ?_⟩
  · obtain ⟨hlane, hnow, hbodies⟩ := trimmed_kept s levels
    obtain ⟨hzone, hcount, hbrisk⟩ := takeView_reported (seekTrim (advanceTrim (s.sampledBy levels)))
    have hbeam := takeView_beam (seekTrim (advanceTrim (s.sampledBy levels)))
    refine ⟨takeView (seekTrim (advanceTrim (s.sampledBy levels))), exec_sampleSet_taken hr hp ha, ?_, ?_, hzone, hcount, ?_⟩
    · simp only [takeView, viewReports, departing_eq, hlane, hnow, hbodies]
      rfl
    · rw [hbeam, hnow, hbodies]
      rfl
    · rw [hnow, hbodies] at hbrisk
      exact hbrisk
  · refine ⟨fun h => ?_, fun h => ?_, fun h => Beams.reads_fault h1 h6 h, b.view_get h1 h6, rfl, rfl⟩
    · simp only [Beams.reads, h]
    · rcases h with h | h <;> simp only [Beams.reads, h]
  · refine ⟨runsFrom_pairwise v 1 none, fun f l => (mem_runsOf v f l).trans ?_⟩
    simp only [IsRun, hv]
    refine and_congr_right fun h1 => and_congr_right fun hfl => and_congr_right fun hl => and_congr_left fun _ => ?_
    exact ⟨fun h k _ => h k, fun h k hf hk => h k (by omega) hf hk⟩
  · refine ⟨fun h => by simp [Body.departure, h], Body.departure_entryEnd, Body.departure_exitEnd⟩
  · intro meets placed crosses told settled fresh kept gives
    have hplaced : placed = Body.moveTo := by
      funext b r
      exact (b.moveTo_eq r).symm
    have hcrosses : crosses = Body.crosses := by
      funext b
      exact b.crosses_eq.symm
    have htold : told = Body.told := by
      funext b
      rw [Body.told_eq, ← hcrosses]
    have hsettled : settled = Body.settled := by
      funext b
      rw [Body.settled, ← hcrosses]
    have hfresh : fresh = newBody now := by
      funext r
      exact (Body.moveTo_eq _ r).symm
    have hov : ∀ {b r}, meets b r → b.overlaps r = true := fun {b r} h => (b.overlaps_iff r).mpr h
    have hno : ∀ {b r}, ¬meets b r → b.overlaps r = false := fun h => Body.overlaps_false h
    have hkept : ∀ (b : Body) (r x : Run), r.1 ≤ r.2 → r.2 < x.1 → x.1 ≤ x.2 → kept b r x = keptRun b.origin r [x] :=
      fun b r x hr hrx hx => (keptRun_pair b.origin hr hrx hx).symm
    clear_value placed crosses told settled fresh kept
    subst hplaced hcrosses htold hsettled hfresh
    refine ⟨fun l => ?_, fun runs hlen => ?_, fun b r hm => gives_moved (hov hm), fun b r hm => ?_, fun b c r x hr hrx hx hbr hbx hcx hcr => ?_,
      fun b r x hr hrx hx hbr hbx => ⟨?_, fun c d z hxz hbz hcz hdz hcr hcx hdr hdx => ?_⟩, fun b c r hb hc => ?_⟩
    · exact gives_of_unmet (Nat.zero_le _) fun _ _ _ hr => by cases hr
    · exact gives_of_unmet hlen nofun
    · have hone := gives_of_unmet (now := now) (bodies := [b]) (runs := [r]) (by simp) fun y hy z hz => by
        rw [List.mem_singleton.mp hy, List.mem_singleton.mp hz]
        exact hno hm
      rw [List.flatMap_singleton] at hone
      exact hone
    · exact gives_moved_both (by omega) (hov hbr) (hno hbx) (hov hcx) (hno hcr)
    · rw [hkept b r x hr hrx hx]
      have hsplit := gives_split (now := now) hr hrx (hov hbr) (hov hbx)
      have horigin : (b.moveTo (keptRun b.origin r [x])).settled.origin = b.origin := Body.moveTo_origin ..
      dsimp only at hsplit
      rw [Body.splitOff_of_origin _ _ b.origin horigin] at hsplit
      exact hsplit
    · rw [hkept b r x hr hrx hx]
      have habsorbed := absorbed_of_full (now := now) hr hrx hx hxz (hov hbr) (hov hbx) (hno hbz) (hov hcz) (hov hdz) (hno hcr) (hno hcx)
        (hno hdr) (hno hdx)
      simp only [Body.absorb_eq] at habsorbed
      exact habsorbed
    · have hmerged := gives_merged (now := now) (hov hb) (hov hc)
      rw [Body.mergeWith_fst, Body.mergeWith_snd] at hmerged
      exact hmerged

end Sys2Proof.Machine
